-- ==== Sys2Proof/Word.lean ====
section
/-! DEFINITION. The word types of the ZL3160 and the fixed-length bank of like things. -/

namespace Sys2Proof

/-- Station time, stamps and offsets: 48-bit modular ticks (00/0.7.1). -/
abbrev Time := BitVec 48
/-- A word of a link record (01/R1). -/
abbrev Word := BitVec 16
/-- A byte of a management transaction (12/R197). -/
abbrev Byte := BitVec 8
/-- A 10-bit sample value or a word of the serial video ports (00/0.7.2, 11/11.1). -/
abbrev Sample := BitVec 10
/-- A counter: 32 bits, wrapping (12/R204). -/
abbrev Count := BitVec 32

/-- Station number 0 to 7 (00/0.7.5). -/
abbrev StationNo := Fin 8
/-- Feed number 0 to 63 (00/0.7.5). -/
abbrev FeedNo := Fin 64
/-- Copy rank, 1 to 7 where a copy is present (00/0.7.5). -/
abbrev Rank := Fin 8
/-- Generation 0 to 3 (01/1.3.1). -/
abbrev Gen := Fin 4
/-- Standard code 0 to 13; 0 is unknown (00/0.7.4). -/
abbrev StdCode := Fin 14
/-- Publishable index (00/0.7.5). -/
abbrev PubIx := Fin 3
/-- Receive lane number (00/0.7.5). -/
abbrev LaneNo := Fin 7
/-- Channel number; channel n always feeds OUTn (00/0.4). -/
abbrev Chan := Fin 2
/-- Ring slot number (05/5.1). -/
abbrev SlotNo := Fin 12
/-- Output buffer number (10/10.1). -/
abbrev BufNo := Fin 2
/-- Publication slot number (03/3.5). -/
abbrev PubSlotNo := Fin 2
/-- Field parity: top 0, bottom 1 (00/0.7.4). -/
abbrev Parity := Fin 2

/-- Exactly `n` like things, numbered from 0. -/
structure Bank (n : Nat) (α : Type) where
  items : List α
  size : items.length = n
deriving DecidableEq, Repr

namespace Bank
variable {n : Nat} {α β : Type}

def get (b : Bank n α) (i : Fin n) : α := b.items[i.val]'(by rw [b.size]; exact i.isLt)
def set (b : Bank n α) (i : Fin n) (a : α) : Bank n α := ⟨b.items.set i.val a, by simp [b.size]⟩
def modify (b : Bank n α) (i : Fin n) (f : α → α) : Bank n α := b.set i (f (b.get i))
def fill (n : Nat) (a : α) : Bank n α := ⟨List.replicate n a, by simp⟩
def map (f : α → β) (b : Bank n α) : Bank n β := ⟨b.items.map f, by simp [b.size]⟩
def ofFn (f : Fin n → α) : Bank n α := ⟨(List.finRange n).map f, by simp⟩

end Bank

end Sys2Proof
end

