-- ==== Sys2Proof/Syntax.lean ====
section
/-! DEFINITION. The commands and events of the part: one constructor per row of spec/opcode_table.json. -/

namespace Sys2Proof

/-- Where an entry into CONVERTING is taken among the steps of the scan start that carries it (10/R169, R175: the
manual leaves the order open and gives the outcome of each). -/
inductive EntryOrder where
  /-- before the port chooses its scan source (step 4 of 10/R158) -/
  | beforeSource
  /-- after step 4 and before the PICTURE record (step 5) -/
  | beforeRecord
  /-- after step 5 -/
  | afterRecord
deriving DecidableEq, Repr

/-- A command or event. Every one but power-on carries `dt`, the ticks of station time since the one before it. -/
inductive Instr where
  | powerOn
  | configReadDone (dt : Nat) (image : List (BitVec 32))
  | selectAsserted (dt : Nat)
  | selectReleasedEarly (dt : Nat)
  | readSummary (dt : Nat)
  | readChannel (dt : Nat) (channel : Byte)
  | readPeers (dt : Nat)
  | readCounters (dt : Nat) (block : Byte)
  | clearEvents (dt : Nat) (group flag inst : Byte)
  | releaseLatch (dt : Nat) (channel : Byte)
  | forceCopy (dt : Nat) (channel origin station publishable : Byte)
  | restart (dt : Nat)
  | unknownCode (dt : Nat) (code : Byte)
  /-- `flight` is the ticks from the record's first word to the end its framing marks (01/R1). -/
  | recordReceived (dt : Nat) (lane : LaneNo) (flight : Nat) (words : List Word)
  | recordSent (dt : Nat)
  | beaconTimerExpiry (dt : Nat)
  | qualifyingDeadline (dt : Nat) (lane : LaneNo)
  | liveDeadline (dt : Nat) (lane : LaneNo)
  | lapsedDeadline (dt : Nat) (lane : LaneNo)
  | millisecondTick (dt : Nat)
  | refreshTimerExpiry (dt : Nat) (ch : Chan)
  | passOverExpiry (dt : Nat) (ch : Chan)
  | revertHoldExpiry (dt : Nat) (ch : Chan)
  | finishDone (dt : Nat) (ch : Chan) (slot : SlotNo)
  | stall (dt : Nat) (ch : Chan)
  | motionJobStart (dt : Nat) (ch : Chan)
  | motionJobDone (dt : Nat) (ch : Chan)
  | renderSelection (dt : Nat) (ch : Chan)
  | renderBegin (dt : Nat) (ch : Chan)
  | concealPoint (dt : Nat) (ch : Chan)
  | renderComplete (dt : Nat) (ch : Chan)
  | scanStart (dt : Nat) (ch : Chan) (entry : EntryOrder)
  | outputLineRecords (dt : Nat) (ch : Chan)
  | referencePulse (dt : Nat)
  | refQualifyTimeout (dt : Nat)
  | refMissed (dt : Nat)
  | acquisitionTimerExpiry (dt : Nat) (ch : Chan)
  | holdoverTimerExpiry (dt : Nat) (ch : Chan)
  | decayTimerExpiry (dt : Nat) (ch : Chan)
  /-- `tail` is the words of an incomplete group that stand before the marker (11/R181). -/
  | ingestMarker (dt : Nat) (tail : List Sample) (flag check : Sample)
  | ingestSampleGroup (dt : Nat) (cb y0 cr y1 : Sample)
  | ingestDeadline (dt : Nat)
deriving DecidableEq, Repr

end Sys2Proof
end

