-- ==== Sys2Proof/WellFormed.lean ====
section
/-! DEFINITION. Which commands an instance of the event can have. `exec` does not depend on it: a command that fails a
check still has a meaning, but stands for nothing the part's surroundings can send. -/

namespace Sys2Proof

/-- Ticks since the command before; nothing for power-on, which sets station time to 0 (12/R190). -/
def Instr.elapsed : Instr → Nat
  | .powerOn => 0
  | .configReadDone dt _ => dt
  | .selectAsserted dt => dt
  | .selectReleasedEarly dt => dt
  | .readSummary dt => dt
  | .readChannel dt _ => dt
  | .readPeers dt => dt
  | .readCounters dt _ => dt
  | .clearEvents dt _ _ _ => dt
  | .releaseLatch dt _ => dt
  | .forceCopy dt _ _ _ _ => dt
  | .restart dt => dt
  | .unknownCode dt _ => dt
  | .recordReceived dt _ _ _ => dt
  | .recordSent dt => dt
  | .beaconTimerExpiry dt => dt
  | .qualifyingDeadline dt _ => dt
  | .liveDeadline dt _ => dt
  | .lapsedDeadline dt _ => dt
  | .millisecondTick dt => dt
  | .refreshTimerExpiry dt _ => dt
  | .passOverExpiry dt _ => dt
  | .revertHoldExpiry dt _ => dt
  | .finishDone dt _ _ => dt
  | .stall dt _ => dt
  | .motionJobStart dt _ => dt
  | .motionJobDone dt _ => dt
  | .renderSelection dt _ => dt
  | .renderBegin dt _ => dt
  | .concealPoint dt _ => dt
  | .renderComplete dt _ => dt
  | .scanStart dt _ _ => dt
  | .outputLineRecords dt _ => dt
  | .referencePulse dt => dt
  | .refQualifyTimeout dt => dt
  | .refMissed dt => dt
  | .acquisitionTimerExpiry dt _ => dt
  | .holdoverTimerExpiry dt _ => dt
  | .decayTimerExpiry dt _ => dt
  | .ingestMarker dt _ _ _ => dt
  | .ingestSampleGroup dt _ _ _ _ => dt
  | .ingestDeadline dt => dt

/-- Time differences are read as signed, below 2^47 (00/0.7.1). -/
def elapsedFits (i : Instr) : Bool := i.elapsed < 2 ^ 47

/-- The image has at most 1,117 words; words the memory does not supply are left off (12/R191). -/
def imageFits : Instr → Bool
  | .configReadDone _ image => image.length ≤ 1117
  | _ => true

/-- Codes 1 to 8 are known (12/R199). -/
def codeUnknown : Instr → Bool
  | .unknownCode _ code => code = 0 || 9 ≤ code.toNat
  | _ => true

/-- A record has at least its first word, and its arrival is a time before now (01/R1). -/
def recordBegun : Instr → Bool
  | .recordReceived _ _ flight words => words ≠ [] && flight < 2 ^ 47
  | _ => true

/-- Four words make a whole group: fewer stand before a marker as an incomplete one (11/R181). -/
def tailFits : Instr → Bool
  | .ingestMarker _ tail _ _ => tail.length ≤ 3
  | _ => true

def WellFormed (i : Instr) : Bool :=
  elapsedFits i && imageFits i && codeUnknown i && recordBegun i && tailFits i

end Sys2Proof
end

