-- ==== Sys2Proof/Decode.lean ====
section
/-! DEFINITION. Decoding: the words of the opcode table, and the bytes of an SPI command (12/R199). -/

namespace Sys2Proof

/-- The command a word of the opcode table spells: none, since the table gives no row any bits. -/
def decodeTableWord (_nbits _w : Nat) : Option Instr := none

/-- The command whose code byte and arguments these are, received `dt` ticks after the command before it (12/R199). A byte
beyond the command's last is ignored (12/R197); a command not yet whole is none. -/
def decodeSpi (dt : Nat) (bytes : List Byte) : Option Instr :=
  match bytes with
  | [] => none
  | code :: args =>
    match code.toNat, args with
    | 1, _ => some (.readSummary dt)
    | 2, c :: _ => some (.readChannel dt c)
    | 3, _ => some (.readPeers dt)
    | 4, b :: _ => some (.readCounters dt b)
    | 5, g :: f :: i :: _ => some (.clearEvents dt g f i)
    | 6, c :: _ => some (.releaseLatch dt c)
    | 7, c :: o :: n :: p :: _ => some (.forceCopy dt c o n p)
    | 8, _ => some (.restart dt)
    | n, _ => if n = 0 ∨ 9 ≤ n then some (.unknownCode dt code) else none

/-- The bytes of a command of the Management Port (12/R199); none for any other command. -/
def encodeSpi (i : Instr) : Option (List Byte) :=
  match i with
  | .readSummary _ => some [1]
  | .readChannel _ c => some [2, c]
  | .readPeers _ => some [3]
  | .readCounters _ b => some [4, b]
  | .clearEvents _ g f n => some [5, g, f, n]
  | .releaseLatch _ c => some [6, c]
  | .forceCopy _ c o n p => some [7, c, o, n, p]
  | .restart _ => some [8]
  | .unknownCode _ code => some [code]
  | _ => none

end Sys2Proof
end

