-- ==== Sys2Proof/Machine/State.lean ====
section
/-! DEFINITION. Everything the part holds, block by block, as plain data, and its values after power-on. Enumerations
list their values in the order in which the manual's table names them, which is the number a snapshot sends (12/R197). -/

namespace Sys2Proof.Machine

/-! ## Link records (01/1.3) -/

/-- Status of a publication, numbered as the beacon's status field (01/1.3.1). -/
inductive PubStatus where | none | absent | available | sending | deferred
deriving DecidableEq, Repr

/-- One publication entry of a beacon or of a peer entry (01/1.3.1, 02/2.1). -/
structure PubEntry where
  feed : Option FeedNo
  rank : Rank
  generation : Gen
  status : PubStatus
  standard : StdCode
  sequence : BitVec 8
deriving DecidableEq, Repr

/-- Feed none with status NONE (02/R35); the fields that then have no meaning hold 0 (DESIGN CHOICE,
notes/assumptions/46). -/
def PubEntry.empty : PubEntry := ⟨none, 0, 0, .none, 0, 0⟩

structure Beacon where
  station : StationNo
  start : Bool
  epoch : BitVec 8
  emission : Time
  entries : Bank 3 PubEntry
deriving DecidableEq, Repr

structure CallRecord where
  caller : StationNo
  target : StationNo
  feed : FeedNo
  duration : BitVec 8
deriving DecidableEq, Repr

/-- Kind of a raw picture, numbered as the PICTURE record's field (01/1.3.3). -/
inductive Kind where | frame | fieldTop | fieldBottom
deriving DecidableEq, Repr

structure PictureRecord where
  origin : StationNo
  pub : PubIx
  feed : FeedNo
  sequence : BitVec 8
  generation : Gen
  kind : Kind
  standard : StdCode
  stamp : Time
  lines : Nat
  samples : Nat
deriving DecidableEq, Repr

/-- Four sample words in the order Cb, Y, Cr, Y (01/R3): two luma samples and their co-sited chroma. -/
structure SampleGroup where
  cb : Sample
  y0 : Sample
  cr : Sample
  y1 : Sample
deriving DecidableEq, Repr

/-- A LINES record; its sample count is twice its number of groups. -/
structure LinesRecord where
  origin : StationNo
  pub : PubIx
  feed : FeedNo
  last : Bool
  sequence : BitVec 8
  line : Nat
  first : Nat
  groups : List SampleGroup
deriving DecidableEq, Repr

inductive LinkRecord where
  | beacon (b : Beacon)
  | call (c : CallRecord)
  | picture (p : PictureRecord)
  | lines (l : LinesRecord)
deriving DecidableEq, Repr

/-! ## Receive lanes and the Peer Table (01/1.4, 02/2.1) -/

inductive LaneState where | silent | qualifying | live | lapsed
deriving DecidableEq, Repr

structure PeerEntry where
  state : LaneState
  station : Option StationNo
  epoch : Option (BitVec 8)
  count : Nat
  startMark : Bool
  lastArrival : Option Time
  deadline : Option Time
  offset : Time
  stepCount : Nat
  entries : Bank 3 PubEntry
deriving DecidableEq, Repr

/-- A record being received: its words so far and the time of its first word (01/1.4). -/
structure HeldRecord where
  arrival : Time
  words : List Word
deriving DecidableEq, Repr

/-- The nine counters of a lane: four of its record checker, five of the Peer Table. -/
inductive LaneCtr where
  | rxRecords | crcError | unknownType | malformed
  | stationClash | offsetOutlier | timeStep | laneLapsed | laneRequalified
deriving DecidableEq, Repr

inductive LaneFlag where | linkError | laneLive | laneLapsed | stationClash | timeStep
deriving DecidableEq, Repr

structure Lane where
  progress : Option HeldRecord
  entry : PeerEntry
  tally : Bank 9 Count
  flags : Bank 5 Bool
deriving DecidableEq, Repr

/-! ## Transmit lane (01/1.6) -/

structure Call where
  target : StationNo
  feed : FeedNo
  duration : BitVec 8
deriving DecidableEq, Repr

inductive TxCtr where | beacons | beaconSkipped | calls | callDropped
deriving DecidableEq, Repr

inductive SlotCtr where | records | burstOverflow | slotFlushed
deriving DecidableEq, Repr

/-- model's own: the calls of one instant, kept while the instant lasts so that channel 0's stand before channel 1's
whichever commands offer them (01/R13; DESIGN CHOICE, notes/assumptions/43): its time, the call queue and CALL_DROPPED as
it found them, what each Copy Selector has offered in it, and whether a CALL has begun to be sent in it. -/
structure CallInstant where
  time : Time
  queue : List Call
  dropped : Count
  offered : Bank 2 (List Call)
  begun : Bool
deriving DecidableEq, Repr

structure Transmit where
  beaconDue : Option Time
  beaconPending : Bool
  startCount : Nat
  callQueue : List Call
  /-- model's own: the calls each Copy Selector has offered in the present command (01/R13; DESIGN CHOICE,
  notes/assumptions/43) -/
  offers : Bank 2 (List Call)
  /-- model's own: the calls of the present instant, where any have been offered in it -/
  instant : Option CallInstant
  bursts : Bank 2 (List LinkRecord)
  mark : PubSlotNo
  sending : Option (List Word)
  /-- model's own: a RESTART waits for the record in progress (01/R10; DEDUCED, notes/assumptions/9) -/
  restartOwed : Bool
  tally : Bank 4 Count
  slotTally : Bank 2 (Bank 3 Count)
deriving DecidableEq, Repr

/-! ## Publication Unit (03) -/

/-- What a publishable shows its peers and its own channels (03/R37, R38). -/
structure Advert where
  status : PubStatus
  generation : Gen
  standard : StdCode
deriving DecidableEq, Repr

inductive PubSlotState where | free | granted | carrying | ending
deriving DecidableEq, Repr

inductive EndReason where | yield | release
deriving DecidableEq, Repr

structure PubSlot where
  state : PubSlotState
  holder : Option PubIx
  openPicture : Bool
  reason : Option EndReason
  /-- model's own: RELEASED is counted when the slot becomes FREE (03/R47; DEDUCED, notes/assumptions/27) -/
  releaseOwed : Bool
deriving DecidableEq, Repr

inductive PubCtr where | callsTaken | callIgnored | callNoFeed
deriving DecidableEq, Repr

inductive PubItemCtr where | granted | preempted | released | sourceStopped | picturesSent
deriving DecidableEq, Repr

structure Publication where
  adverts : Bank 3 Advert
  lastSequence : Bank 3 (BitVec 8)
  demand : Bank 3 (Bank 8 (BitVec 8))
  slots : Bank 2 PubSlot
  tick : Option Time
  tally : Bank 3 Count
  itemTally : Bank 3 (Bank 5 Count)
  deferredFlags : Bank 3 Bool
  /-- the model's own: an advert has changed and the Copy Selectors have not re-judged since (04/R53; notes/assumptions/14) -/
  unheard : Bool
deriving DecidableEq, Repr

/-! ## Ingest Port (11) -/

inductive IngestState where | noSignal | measuring | locked
deriving DecidableEq, Repr

structure RawMeasure where
  parity : Parity
  start : Time
  lines : Nat
  samples : Option Nat
  irregular : Bool
deriving DecidableEq, Repr

/-- The line being received: its complete groups so far, the words of the group begun, and how many of its samples
records already carry. -/
structure OpenLine where
  index : Nat
  groups : List SampleGroup
  begun : List Sample
  carried : Nat
deriving DecidableEq, Repr

/-- What the marker reader holds of the word stream, with the time at which its 1023 was received: nothing, a 1023 that
may begin a marker, a marker's 1023 and 0, or its flag word as well (11/R179). -/
inductive Reader where
  | idle
  | first (arrival : Time)
  | zero (arrival : Time)
  | flag (arrival : Time) (f : Sample)
deriving DecidableEq, Repr

inductive Scan where | interlaced | progressive
deriving DecidableEq, Repr

structure Measurement where
  lines : Nat
  samples : Option Nat
  period : Int
  scan : Option Scan
deriving DecidableEq, Repr

inductive IngestCtr where | markerError | locks | mismatch | signalLost | picturesIngested
deriving DecidableEq, Repr

structure Ingest where
  reader : Reader
  state : IngestState
  locked : StdCode
  candidate : Option StdCode
  matchCount : Nat
  raw : Option RawMeasure
  previousParity : Option Parity
  openLine : Option OpenLine
  deadline : Option Time
  sequence : BitVec 8
  forming : Bool
  lastMeasure : Option Measurement
  tally : Bank 5 Count
  changeFlag : Bool
deriving DecidableEq, Repr

/-! ## Reference Input (10/10.2) -/

inductive RefState where | absent | qualifying | valid
deriving DecidableEq, Repr

inductive RefCtr where | pulses | stray | missed
deriving DecidableEq, Repr

structure Reference where
  state : RefState
  standard : StdCode
  lastPulse : Option Time
  good : Option Nat
  expected : Option Time
  miss : Option Nat
  measured : Option Int
  tally : Bank 3 Count
  lostFlag : Bool
deriving DecidableEq, Repr

/-! ## Copies and the Copy Selector (04) -/

inductive Origin where
  | lane (l : LaneNo)
  | internal
deriving DecidableEq, Repr

structure Copy where
  origin : Origin
  station : StationNo
  pub : PubIx
deriving DecidableEq, Repr

structure PassOver where
  station : StationNo
  lane : LaneNo
  pub : PubIx
  expiry : Time
deriving DecidableEq, Repr

structure Selector where
  selection : Option Copy
  /-- `none` is AUTO -/
  forced : Option Copy
  passOver : List PassOver
  revert : Option (Copy × Time)
  refresh : Option Time
  callTarget : Option StationNo
  deferred : Nat
  rebase : Int
  rebaseStep : Nat
  rebasePending : Bool
  sourceGeneration : Gen
deriving DecidableEq, Repr

/-! ## Intake and the picture ring (05) -/

/-- A rectangle of a frame: lines and luma samples. -/
structure Rect where
  firstLine : Nat
  lineCount : Nat
  firstSample : Nat
  sampleCount : Nat
deriving DecidableEq, Repr

/-- A sparse plane of samples: (position, value) pairs, positions strictly rising, no value 0; an unlisted position
reads as 0 (DESIGN CHOICE, notes/assumptions/7). -/
structure Plane where
  cells : List (Nat × Sample)
deriving DecidableEq, Repr

def Plane.empty : Plane := ⟨[]⟩

/-- Luma and co-sited chroma in frame coordinates. -/
structure Planes where
  y : Plane
  cb : Plane
  cr : Plane
deriving DecidableEq, Repr

def Planes.empty : Planes := ⟨.empty, .empty, .empty⟩

inductive SlotState where | free | filling | pairing | finishing | complete | history
deriving DecidableEq, Repr

inductive RepeatFlag where | r | n | s
deriving DecidableEq, Repr

inductive CombFlag where | s | l | h
deriving DecidableEq, Repr

structure RawPicture where
  kind : Kind
  sequence : BitVec 8
  stamp : Time
  switchCount : BitVec 8
  flags : Option (RepeatFlag × CombFlag)
deriving DecidableEq, Repr

/-- A raw picture kept in a slot: the slot and which of its entries. -/
structure HistoryEntry where
  slot : SlotNo
  index : Nat
deriving DecidableEq, Repr

/-- The finishing of a committed slot in progress, and the fields a deinterlace reads (05/R82, R83). -/
inductive Finish where
  | weave
  | deinterlace (previous back : Option HistoryEntry)
deriving DecidableEq, Repr

structure Vec where
  x : Int
  y : Int
deriving DecidableEq, Repr

structure BlockRecord where
  vec : Vec
  sad : Nat
  valid : Bool
deriving DecidableEq, Repr

structure VectorTable where
  columns : Nat
  records : List BlockRecord
  invalid : Nat
  globalVec : Option Vec
  cut : Bool
deriving DecidableEq, Repr

structure Slot where
  state : SlotState
  raws : List RawPicture
  committed : Option Time
  /-- line-present map: line × 1024 + pair, strictly rising -/
  received : List Nat
  missing : Nat
  table : Option VectorTable
  finish : Option Finish
  planes : Planes
deriving DecidableEq, Repr

/-- A FREE slot holds nothing (05/5.6). -/
def Slot.empty : Slot := ⟨.free, [], none, [], 0, none, none, .empty⟩

structure Intake where
  aim : Option Copy
  standard : StdCode
  crop : Option Rect
  openSlot : Option SlotNo
  refused : Option (BitVec 8)
  switchCount : BitVec 8
  pEst : Nat
  lastClosed : Option Time
  newest : Option Time
  lastCommitted : Option Time
  committed : List SlotNo
  history : List HistoryEntry
  retireRef : Option SlotNo
  lastCommitTime : Option Time
  stallMark : Bool
  slots : Bank 12 Slot
deriving DecidableEq, Repr

/-! ## Cadence Detector (06) -/

inductive Family where | film32 | film22 | rep32 | rep22
deriving DecidableEq, Repr

/-- A hypothesis record; unused when it names no family. -/
structure Hypothesis where
  family : Option Family
  next : Option Nat
  count : Nat
deriving DecidableEq, Repr

structure Cadence where
  /-- `none` is VIDEO -/
  mode : Option Family
  rec32 : Hypothesis
  rec22 : Hypothesis
  pendingLock : Option Family
  anchor : Option Time
  repeats : List (Option Nat)
  combs : List (Option Nat)
  lastFlag : Option RepeatFlag
deriving DecidableEq, Repr

/-! ## Motion Estimator (07) -/

/-- A committed picture B awaiting its job, and its predecessor A. -/
structure Pair where
  b : SlotNo
  a : SlotNo
deriving DecidableEq, Repr

structure Job where
  pair : Pair
  columns : Nat
  rows : Nat
  globalA : Option Vec
  records : List BlockRecord
  /-- model's own: when the job started (DESIGN CHOICE, notes/assumptions/10) -/
  started : Time
deriving DecidableEq, Repr

structure Motion where
  pending : List Pair
  job : Option Job
deriving DecidableEq, Repr

inductive VectorState where | pending | ready | absent
deriving DecidableEq, Repr

/-! ## Render Engine, sizer and colour stage (08, 09) -/

inductive RecordState where | waiting | rendering | done
deriving DecidableEq, Repr

inductive RenderMode where | vectored | plain | aOnly
deriving DecidableEq, Repr

structure RenderRecord where
  picture : Nat
  tOut : Time
  select : Time
  conceal : Time
  point : Time
  state : RecordState
  a : SlotNo
  b : Option SlotNo
  early : Bool
  prelim : Option Nat
  mode : Option RenderMode
  weight : Option Nat
  buffer : BufNo
  /-- model's own: the conceal point has been taken (DESIGN CHOICE, notes/assumptions/20) -/
  concealed : Bool
deriving DecidableEq, Repr

structure Render where
  dEff : Option Nat
  record : Option RenderRecord
  /-- model's own: the selection for the announced picture has been made (DESIGN CHOICE, notes/assumptions/20) -/
  selected : Bool
deriving DecidableEq, Repr

structure Colour where
  y : Nat
  cb : Nat
  cr : Nat
deriving DecidableEq, Repr

/-- Four coefficients for each of 64 phases. -/
abbrev FilterTable := Bank 64 (Bank 4 Int)

/-- The bilinear table: phase φ has (0, 256 − 4φ, 4φ, 0) (09/9.1). -/
def bilinear : FilterTable :=
  Bank.ofFn fun p => ⟨[0, 256 - 4 * (p.val : Int), 4 * (p.val : Int), 0], rfl⟩

structure Sizer where
  placement : Option Rect
  vStep : Option Nat
  hStep : Option Nat
  vTable : FilterTable
  hTable : FilterTable
  vReplaced : Bool
  hReplaced : Bool
  matrix : Bank 9 Int
  offsets : Bank 3 Int
  legal : Bool
  fillColour : Colour
deriving DecidableEq, Repr

/-- The identity matrix in units of 1/1,024 (09/9.1). -/
def identityMatrix : Bank 9 Int := ⟨[1024, 0, 0, 0, 1024, 0, 0, 0, 1024], rfl⟩

/-- Black: Y = 64, Cb = Cr = 512 (00/0.7.2). -/
def blackColour : Colour := ⟨64, 512, 512⟩

/-! ## Channel Supervisor and Output Port (10) -/

/-- In the order in which 04/R53 first names the states, which is the number a snapshot sends (12/R197; DESIGN CHOICE,
notes/assumptions/62). -/
inductive ChannelState where | acquiring | converting | holdover | safe | idle | latched
deriving DecidableEq, Repr

structure Supervisor where
  state : ChannelState
  relock : Nat
  acquisition : Option Time
  holdover : Option Time
  decay : Option Time
deriving DecidableEq, Repr

inductive LockState where | freeRun | pulling | locked
deriving DecidableEq, Repr

structure Buffer where
  rendered : Bool
  parity : Parity
  planes : Planes
deriving DecidableEq, Repr

def Buffer.empty : Buffer := ⟨false, 0, .empty⟩

inductive ScanSource where
  | buffer (b : BufNo)
  | black
  | fill
  | bars
deriving DecidableEq, Repr

structure Port where
  /-- `none` is SILENT -/
  standard : Option StdCode
  picture : Nat
  tOut : Option Time
  tNext : Option Time
  parity : Parity
  correction : Int
  /-- time of the last frame start (10/R163) -/
  lastFrame : Option Time
  lock : LockState
  pendingError : Option Int
  buffers : Bank 2 Buffer
  source : ScanSource
  lastGood : Option BufNo
  sequence : BitVec 8
  /-- active lines of the picture in scan emitted so far -/
  emittedLines : Nat
  /-- the words last emitted on the output (10/R159) -/
  emitted : List Sample
  /-- a PICTURE record was formed for the picture in scan (10/R174, R175) -/
  publishing : Bool
  jumpFlag : Bool
  mismatchFlag : Bool
deriving DecidableEq, Repr

/-! ## Counters and flags of a channel (12/12.5, 12/12.6) -/

/-- The counters of a channel, block by block. -/
inductive ChanCtr where
  | copySwitch | copyPassedOver | copyReverted | rebased
  | picturesAdmitted | kindMismatch | stampOrder | stray | ringOverrun | ringFull | missingLine | emptyPicture
  | committed | pairAbandoned | standardChange | flushes | stall
  | cadenceLocks | cadenceBreaks | repeatsRemoved
  | motionJobs | motionCuts | motionSkipped | motionAbandoned
  | renders | early | late | unvectored | gapHolds | cutSnaps | overrun | renderAbandoned | renderSkipped
  | convertStarts | holdovers | safeEntries | acquireTimeout | relocks | latches
  | picturesScanned | repeats | refJumps
deriving DecidableEq, Repr

/-- The sticky flags of a channel, in the order of the list of 12/12.5. -/
inductive ChanFlag where
  | copySwitch | copyPassedOver | noCopy | windowClamped | standardChange | ringOverrun | cadenceChange | delayRaised
  | placementClamped | filterReplaced | channelHoldover | channelSafe | channelLatched | acquireTimeout | channelRefused
deriving DecidableEq, Repr

structure Channel where
  csl : Selector
  int : Intake
  cad : Cadence
  meu : Motion
  ren : Render
  siz : Sizer
  sup : Supervisor
  port : Port
  tally : Bank 42 Count
  flags : Bank 15 Bool
deriving DecidableEq, Repr

/-! ## Configuration in force (12/12.2) -/

inductive SafeMode where | black | fill | bars | freeze
deriving DecidableEq, Repr

structure ChanConfig where
  feed : Option FeedNo
  target : StdCode
  outFeed : Option FeedNo
  outRank : Rank
  outPublish : Bool
  crop : Rect
  delay : Nat
  stillThreshold : Nat
  repeatThreshold : Nat
  combThreshold : Nat
  matchLimit : Nat
  lockCycles : Nat
  cadenceEnable : Bool
  acquisitionSeconds : Nat
  holdoverMs : Nat
  relockLimit : Nat
  revertSeconds : Nat
  callDuration : BitVec 8
  refreshMs : Nat
  placement : Rect
  fillColour : Colour
  safeMode : SafeMode
  matrix : Bank 9 Int
  offsets : Bank 3 Int
  legal : Bool
  vTable : FilterTable
  hTable : FilterTable
deriving DecidableEq, Repr

structure StationConfig where
  station : StationNo
  ingestFeed : Option FeedNo
  ingestRank : Rank
  ingestPublish : Bool
  reference : StdCode
  eventMask : BitVec 6
  chans : Bank 2 ChanConfig
deriving DecidableEq, Repr

/-! ## Management port and station (12) -/

inductive MgmtPhase where
  /-- select is released -/
  | idle
  /-- select is asserted and the command is being clocked in -/
  | selected
  /-- the command has been received; its response is clocked out -/
  | received
deriving DecidableEq, Repr

inductive StationCtr where | loads | configFaults | mgpAborted | commandsAccepted | commandsRefused
deriving DecidableEq, Repr

structure Management where
  phase : MgmtPhase
  summary : Byte
  response : List Byte
deriving DecidableEq, Repr

inductive StationState where | loading | running | configFault
deriving DecidableEq, Repr

inductive StationFlag where | restarted | configClamped | configFault
deriving DecidableEq, Repr

/-- The whole part, and the queue of commands waiting for it. -/
structure State where
  pending : List Instr
  now : Time
  epoch : BitVec 8
  station : StationState
  config : Option StationConfig
  clampCount : Option Nat
  eventMask : BitVec 6
  lanes : Bank 7 Lane
  tx : Transmit
  pub : Publication
  ing : Ingest
  ref : Reference
  chans : Bank 2 Channel
  mgp : Management
  tally : Bank 5 Count
  flags : Bank 3 Bool
deriving DecidableEq, Repr

/-- Why the part could stop with a fault. -/
inductive Fault where
  /-- Nobody raises it: no rule of the manual stops the part, so no command of the model ends in a fault. Safe. -/
  | neverRaised
deriving DecidableEq, Repr

/-- Why a command could be refused. -/
inductive Refusal where
  /-- Raised by an arm of `exec` whose command has no meaning yet; no arm is left so. Safe. -/
  | notModelled (mnemonic : String)
deriving DecidableEq, Repr

/-! ## Values after power-on -/

/-- A cleared peer entry (02/R35). -/
def PeerEntry.cleared : PeerEntry :=
  { state := .silent, station := none, epoch := none, count := 0, startMark := false, lastArrival := none
    deadline := none, offset := 0, stepCount := 0, entries := Bank.fill 3 .empty }

def Lane.powerOn : Lane :=
  { progress := none, entry := .cleared, tally := Bank.fill 9 0, flags := Bank.fill 5 false }

/-- 01/R10, R11. -/
def Transmit.powerOn : Transmit :=
  { beaconDue := none, beaconPending := false, startCount := 0, callQueue := [], offers := Bank.fill 2 []
    instant := none, bursts := Bank.fill 2 [], mark := 1, sending := none, restartOwed := false, tally := Bank.fill 4 0
    slotTally := Bank.fill 2 (Bank.fill 3 0) }

def PubSlot.freed : PubSlot :=
  { state := .free, holder := none, openPicture := false, reason := none, releaseOwed := false }

/-- 03/R51. -/
def Publication.powerOn : Publication :=
  { adverts := Bank.fill 3 ⟨.none, 0, 0⟩, lastSequence := Bank.fill 3 0, demand := Bank.fill 3 (Bank.fill 8 0)
    slots := Bank.fill 2 .freed, tick := none, tally := Bank.fill 3 0, itemTally := Bank.fill 3 (Bank.fill 5 0)
    deferredFlags := Bank.fill 3 false, unheard := false }

/-- 11/R189 (DESIGN CHOICE, notes/assumptions/26). -/
def Ingest.powerOn : Ingest :=
  { reader := .idle, state := .noSignal, locked := 0, candidate := none, matchCount := 0, raw := none, previousParity := none
    openLine := none, deadline := none, sequence := 0, forming := false, lastMeasure := none, tally := Bank.fill 5 0
    changeFlag := false }

/-- 10/R177. -/
def Reference.powerOn : Reference :=
  { state := .absent, standard := 0, lastPulse := none, good := none, expected := none, miss := none, measured := none
    tally := Bank.fill 3 0, lostFlag := false }

/-- 04/R69. -/
def Selector.powerOn : Selector :=
  { selection := none, forced := none, passOver := [], revert := none, refresh := none, callTarget := none
    deferred := 0, rebase := 0, rebaseStep := 0, rebasePending := false, sourceGeneration := 0 }

/-- 05/R92. -/
def Intake.powerOn : Intake :=
  { aim := none, standard := 0, crop := none, openSlot := none, refused := none, switchCount := 0, pEst := 0
    lastClosed := none, newest := none, lastCommitted := none, committed := [], history := [], retireRef := none
    lastCommitTime := none, stallMark := false, slots := Bank.fill 12 .empty }

def Hypothesis.unused : Hypothesis := ⟨none, none, 0⟩

/-- 06/R112. -/
def Cadence.powerOn : Cadence :=
  { mode := none, rec32 := .unused, rec22 := .unused, pendingLock := none, anchor := none, repeats := [], combs := []
    lastFlag := none }

/-- 07/R125. -/
def Motion.powerOn : Motion := { pending := [], job := none }

/-- 08/R144. -/
def Render.powerOn : Render := { dEff := none, record := none, selected := false }

/-- 09/R157 (DESIGN CHOICE, notes/assumptions/26). -/
def Sizer.powerOn : Sizer :=
  { placement := none, vStep := none, hStep := none, vTable := bilinear, hTable := bilinear, vReplaced := false
    hReplaced := false, matrix := identityMatrix, offsets := Bank.fill 3 0, legal := false, fillColour := blackColour }

/-- 10/R178. -/
def Supervisor.powerOn : Supervisor :=
  { state := .idle, relock := 0, acquisition := none, holdover := none, decay := none }

/-- 10/R177 (DESIGN CHOICE, notes/assumptions/26). -/
def Port.powerOn : Port :=
  { standard := none, picture := 0, tOut := none, tNext := none, parity := 0, correction := 0, lastFrame := none
    lock := .freeRun, pendingError := none, buffers := Bank.fill 2 .empty, source := .black, lastGood := none
    sequence := 0, emittedLines := 0, emitted := [], publishing := false, jumpFlag := false, mismatchFlag := false }

def Channel.powerOn : Channel :=
  { csl := .powerOn, int := .powerOn, cad := .powerOn, meu := .powerOn, ren := .powerOn, siz := .powerOn
    sup := .powerOn, port := .powerOn, tally := Bank.fill 42 0, flags := Bank.fill 15 false }

/-- A value the model fixes (DESIGN CHOICE, notes/assumptions/26). -/
def Management.powerOn : Management := { phase := .idle, summary := 0, response := [] }

/-- The part right after power-on (12/R190): LOADING, its read of the configuration begun. -/
def State.reset : State :=
  { pending := [], now := 0, epoch := 0, station := .loading, config := none, clampCount := none, eventMask := 0
    lanes := Bank.fill 7 .powerOn, tx := .powerOn, pub := .powerOn, ing := .powerOn, ref := .powerOn
    chans := Bank.fill 2 .powerOn, mgp := .powerOn, tally := Bank.fill 5 0, flags := Bank.fill 3 false }

end Sys2Proof.Machine
end

