-- ==== Sys2Proof/Machine/Arith.lean ====
section
/-! DEFINITION. Station time, the named roundings, and the table of picture standards (00/0.7). -/

namespace Sys2Proof.Machine

/-- The difference of two station times, read as signed (00/0.7.1). -/
def sdiff (a b : Time) : Int := (a - b).toInt

/-- `a` is later than `b` (00/0.7.1). -/
def later (a b : Time) : Bool := 0 < sdiff a b

/-- `a` is at or later than `b`: station time `a` has reached `b`. -/
def reached (a b : Time) : Bool := 0 ≤ sdiff a b

/-- A timer that is stopped has not been reached; its expiry is then no event (DESIGN CHOICE, notes/assumptions/2). -/
def due (now : Time) : Option Time → Bool
  | some t => reached now t
  | none => false

/-- A station time and an offset, modulo 2^48 (00/0.7.1). -/
def shift (t : Time) (d : Int) : Time := t + BitVec.ofInt 48 d

def clampInt (lo hi x : Int) : Int := if x < lo then lo else if hi < x then hi else x

def clampNat (lo hi x : Nat) : Nat := if x < lo then lo else if hi < x then hi else x

/-- A coordinate clamped to 0 to n − 1 (07/R117, 08/R139, 09/R149). -/
def clampIx (n : Nat) (i : Int) : Nat := (clampInt 0 ((n : Int) - 1) i).toNat

/-- `num / den` rounded half up: floor(x + 1/2) (00/0.7.3). -/
def roundHalfUp (num : Int) (den : Nat) : Int := (2 * num + den) / (2 * den)

/-- `num / den` rounded half away: the magnitude half up, the sign kept (00/0.7.3). -/
def roundHalfAway (num : Int) (den : Nat) : Int :=
  if num < 0 then -roundHalfUp (-num) den else roundHalfUp num den

/-- Halved and truncated toward zero (00/0.7.3, 08/R138). -/
def truncHalf (v : Int) : Int := Int.tdiv v 2

/-- One millisecond is 27,000 ticks (00/0.7.1). -/
def ticksPerMs : Nat := 27000

/-- Ticks in one second (00/0.7.1). -/
def ticksPerSecond : Nat := 27000000

/-- A row of the table of picture standards (00/0.7.4). -/
structure Standard where
  lines : Nat
  samples : Nat
  interlaced : Bool
  rawPeriod : Nat
deriving DecidableEq, Repr

/-- The table of picture standards (00/0.7.4). Code 0 is unknown and names no geometry. -/
def standardOf (c : StdCode) : Standard :=
  match c.val with
  | 1 => ⟨576, 720, true, 540000⟩
  | 2 => ⟨480, 720, true, 450450⟩
  | 3 => ⟨1080, 1920, true, 540000⟩
  | 4 => ⟨1080, 1920, true, 450450⟩
  | 5 => ⟨720, 1280, false, 540000⟩
  | 6 => ⟨720, 1280, false, 450450⟩
  | 7 => ⟨1080, 1920, false, 1080000⟩
  | 8 => ⟨1080, 1920, false, 900900⟩
  | 9 => ⟨1080, 1920, false, 1126125⟩
  | 10 => ⟨1080, 1920, false, 540000⟩
  | 11 => ⟨1080, 1920, false, 450450⟩
  | 12 => ⟨1080, 1920, false, 1125000⟩
  | 13 => ⟨1080, 1920, false, 450000⟩
  | _ => ⟨0, 0, false, 0⟩

/-- The frame period: two raw periods for an interlaced standard (00/0.7.4, 10/10.1). -/
def framePeriod (c : StdCode) : Nat :=
  if (standardOf c).interlaced then 2 * (standardOf c).rawPeriod else (standardOf c).rawPeriod

/-- Lines of one raw picture: a field carries half of the frame's (00/0.7.4). -/
def rawLines (c : StdCode) : Nat :=
  if (standardOf c).interlaced then (standardOf c).lines / 2 else (standardOf c).lines

/-- The kind of a raw picture of a standard and parity (10/R174, 11/R186). -/
def kindOf (c : StdCode) (p : Parity) : Kind :=
  if (standardOf c).interlaced then (if p = 0 then .fieldTop else .fieldBottom) else .frame

/-- Whether a kind fits the scan of the standard its record names (05/R72, step 1). -/
def kindFits (c : StdCode) (k : Kind) : Bool :=
  match k with
  | .frame => !(standardOf c).interlaced
  | .fieldTop | .fieldBottom => (standardOf c).interlaced

/-- A field's parity; a frame has none (00/0.7.4, 05/R73). -/
def parityOf : Kind → Option Parity
  | .frame => none
  | .fieldTop => some 0
  | .fieldBottom => some 1

/-- The other parity. -/
def otherParity (p : Parity) : Parity := if p = 0 then 1 else 0

/-- The other channel. -/
def otherChan (k : Chan) : Chan := if k = 0 then 1 else 0

/-- The other buffer. -/
def otherBuffer (b : BufNo) : BufNo := if b = 0 then 1 else 0

/-- The publishable of a channel's output (00/0.7.5). -/
def outputOf (k : Chan) : PubIx := if k = 0 then 1 else 2

/-- The intersection of a rectangle with a frame of so many lines and samples, or the whole frame and a mark where they
do not meet (05/R71, 09/R145). -/
def cutRect (r : Rect) (lines samples : Nat) : Rect × Bool :=
  let l1 := min (r.firstLine + r.lineCount) lines
  let s1 := min (r.firstSample + r.sampleCount) samples
  if r.firstLine < l1 ∧ r.firstSample < s1 then
    (⟨r.firstLine, l1 - r.firstLine, r.firstSample, s1 - r.firstSample⟩, false)
  else (⟨0, lines, 0, samples⟩, true)

end Sys2Proof.Machine
end

