-- ==== Sys2Proof/Machine/Ops.lean ====
section
/-! DEFINITION. Named operations over the state: counters, sample planes, slots, and the call and burst queues. -/

namespace Sys2Proof.Machine

/-! ## Counters (12/R204) -/

def laneCtrIx (c : LaneCtr) : Fin 9 := ⟨c.ctorIdx, by cases c <;> decide⟩
def txCtrIx (c : TxCtr) : Fin 4 := ⟨c.ctorIdx, by cases c <;> decide⟩
def slotCtrIx (c : SlotCtr) : Fin 3 := ⟨c.ctorIdx, by cases c <;> decide⟩
def pubCtrIx (c : PubCtr) : Fin 3 := ⟨c.ctorIdx, by cases c <;> decide⟩
def pubItemCtrIx (c : PubItemCtr) : Fin 5 := ⟨c.ctorIdx, by cases c <;> decide⟩
def ingestCtrIx (c : IngestCtr) : Fin 5 := ⟨c.ctorIdx, by cases c <;> decide⟩
def refCtrIx (c : RefCtr) : Fin 3 := ⟨c.ctorIdx, by cases c <;> decide⟩
def chanCtrIx (c : ChanCtr) : Fin 42 := ⟨c.ctorIdx, by cases c <;> decide⟩
def stationCtrIx (c : StationCtr) : Fin 5 := ⟨c.ctorIdx, by cases c <;> decide⟩

/-- Add `n` events to one counter of a bank, modulo 2^32 (12/R204). -/
def addCount {m : Nat} (t : Bank m Count) (i : Fin m) (n : Nat) : Bank m Count := t.set i (t.get i + BitVec.ofNat 32 n)

def countLane (l : Lane) (c : LaneCtr) : Lane := { l with tally := addCount l.tally (laneCtrIx c) 1 }
def countTx (x : Transmit) (c : TxCtr) : Transmit := { x with tally := addCount x.tally (txCtrIx c) 1 }
def countSlot (x : Transmit) (k : PubSlotNo) (c : SlotCtr) (n : Nat) : Transmit :=
  { x with slotTally := x.slotTally.modify k (addCount · (slotCtrIx c) n) }
def countPub (p : Publication) (c : PubCtr) : Publication := { p with tally := addCount p.tally (pubCtrIx c) 1 }
def countItem (p : Publication) (i : PubIx) (c : PubItemCtr) : Publication :=
  { p with itemTally := p.itemTally.modify i (addCount · (pubItemCtrIx c) 1) }
def countIngest (g : Ingest) (c : IngestCtr) : Ingest := { g with tally := addCount g.tally (ingestCtrIx c) 1 }
def countRef (r : Reference) (c : RefCtr) : Reference := { r with tally := addCount r.tally (refCtrIx c) 1 }
def countMany (c : Channel) (x : ChanCtr) (n : Nat) : Channel := { c with tally := addCount c.tally (chanCtrIx x) n }
def count (c : Channel) (x : ChanCtr) : Channel := countMany c x 1
def countStation (s : State) (c : StationCtr) : State := { s with tally := addCount s.tally (stationCtrIx c) 1 }

/-! ## Parts of the state -/

/-- Station time counts on (00/0.7.1, 12/R190). -/
def advance (dt : Nat) (s : State) : State := { s with now := s.now + BitVec.ofNat 48 dt }

def chan (s : State) (k : Chan) : Channel := s.chans.get k
def onChan (k : Chan) (f : Channel → Channel) (s : State) : State := { s with chans := s.chans.modify k f }
def lane (s : State) (l : LaneNo) : Lane := s.lanes.get l
def onLane (l : LaneNo) (f : Lane → Lane) (s : State) : State := { s with lanes := s.lanes.modify l f }

/-- The number the station runs with: that of the configuration in force (02/R17). -/
def ownNumber (s : State) : Option StationNo := s.config.map (·.station)

/-- The configured values of a channel, none before a first image is accepted (12/R195). -/
def chanConfig (s : State) (k : Chan) : Option ChanConfig := s.config.map (·.chans.get k)

/-- What a channel's blocks read while they act: station time and the channel's configured values. -/
structure Env where
  now : Time
  cfg : ChanConfig

/-- Act on a channel with its configured values. A station with no configuration has never run: its channels are IDLE
and nothing acts on them (12/R195). -/
def onConfigured (k : Chan) (f : Env → Channel → Channel) (s : State) : State :=
  match chanConfig s k with
  | some cfg => onChan k (f ⟨s.now, cfg⟩) s
  | none => s

/-! ## Sample planes -/

def readCells : List (Nat × Sample) → Nat → Sample
  | [], _ => 0
  | (a, v) :: rest, k => if k = a then v else readCells rest k

/-- Write one position, keeping positions strictly rising and no value 0 listed. -/
def writeCells : List (Nat × Sample) → Nat → Sample → List (Nat × Sample)
  | [], k, v => if v = 0 then [] else [(k, v)]
  | (a, w) :: rest, k, v =>
    if k < a then (if v = 0 then (a, w) :: rest else (k, v) :: (a, w) :: rest)
    else if k = a then (if v = 0 then rest else (k, v) :: rest)
    else (a, w) :: writeCells rest k v

/-- The canonical form: positions strictly rising and no entry that reads as an unlisted position does. -/
def cellsWf : List (Nat × Sample) → Bool
  | [] => true
  | [(_, v)] => v ≠ 0
  | (a, v) :: (b, w) :: rest => v ≠ 0 && a < b && cellsWf ((b, w) :: rest)

def planeWf (p : Plane) : Bool := cellsWf p.cells

def planesWf (p : Planes) : Bool := planeWf p.y && planeWf p.cb && planeWf p.cr

/-- Where a frame line and luma position stand in a plane: a slot stores up to 1152 lines of up to 2048 samples
(05/5.1). -/
def place (line pos : Nat) : Nat := line * 2048 + pos

def readAt (p : Plane) (line pos : Nat) : Sample := readCells p.cells (place line pos)

def writeAt (p : Plane) (line pos : Nat) (v : Sample) : Plane := ⟨writeCells p.cells (place line pos) v⟩

/-- The even position a luma position is co-sited with (00/0.7.2). -/
def evenPos (pos : Nat) : Nat := pos - pos % 2

/-- Write one co-sited group at an even position: two luma samples and their chroma (01/R3, 05/R75). -/
def writeGroup (p : Planes) (line pos : Nat) (g : SampleGroup) : Planes :=
  { y := writeAt (writeAt p.y line pos g.y0) line (pos + 1) g.y1
    cb := writeAt p.cb line pos g.cb
    cr := writeAt p.cr line pos g.cr }

/-- Read one co-sited group at an even position. -/
def readGroup (p : Planes) (line pos : Nat) : SampleGroup :=
  ⟨readAt p.cb line pos, readAt p.y line pos, readAt p.cr line pos, readAt p.y line (pos + 1)⟩

/-- Natural numbers from `a`, `n` of them. -/
def span (a n : Nat) : List Nat := (List.range n).map (a + ·)

/-- The even positions of a rectangle, from its first sample: one for each co-sited pair. -/
def pairPositions (r : Rect) : List Nat := (List.range (r.sampleCount / 2)).map (fun i => r.firstSample + 2 * i)

def rectLines (r : Rect) : List Nat := span r.firstLine r.lineCount

def inRect (r : Rect) (line pos : Nat) : Bool :=
  r.firstLine ≤ line && line < r.firstLine + r.lineCount && r.firstSample ≤ pos && pos < r.firstSample + r.sampleCount

/-! ## The line-present map -/

/-- Mark a position received; a position received again is already marked (05/R75). -/
def insertKey : List Nat → Nat → List Nat
  | [], k => [k]
  | a :: rest, k => if k < a then k :: a :: rest else if k = a then a :: rest else a :: insertKey rest k

/-- The key of a line's co-sited pair in the line-present map. -/
def pairKey (line pos : Nat) : Nat := line * 1024 + pos / 2

/-! ## Slots of a ring -/

def slotOf (c : Channel) (i : SlotNo) : Slot := c.int.slots.get i

def onSlot (i : SlotNo) (f : Slot → Slot) (c : Channel) : Channel :=
  { c with int := { c.int with slots := c.int.slots.modify i f } }

def slotNumbers : List SlotNo := List.finRange 12

/-- The parity, kind and place of a raw picture still held where an entry names it. -/
def rawOf (c : Channel) (e : HistoryEntry) : Option RawPicture := (slotOf c e.slot).raws[e.index]?

/-! ## The call queue (01/R13) -/

/-- Whether two calls are for one (target, feed) pair. -/
def samePair (a b : Call) : Bool := a.target = b.target && a.feed = b.feed

/-- A call offered by a Copy Selector: it replaces in place, is appended, or displaces the oldest (01/R13). -/
def offerCall (c : Call) (x : Transmit) : Transmit :=
  if x.callQueue.any (samePair c) then
    { x with callQueue := x.callQueue.map fun q => if samePair c q then { q with duration := c.duration } else q }
  else if x.callQueue.length < 8 then { x with callQueue := x.callQueue ++ [c] }
  else countTx { x with callQueue := x.callQueue.drop 1 ++ [c] } .callDropped

def offerCalls (cs : List Call) (x : Transmit) : Transmit := cs.foldl (fun x c => offerCall c x) x

/-- A channel's Copy Selector offers calls; the queue takes them at the end of the command (01/R13; DESIGN CHOICE,
notes/assumptions/43). -/
def holdCalls (k : Chan) (cs : List Call) (x : Transmit) : Transmit := { x with offers := x.offers.modify k (· ++ cs) }

/-- The calls of the instant `now` but for those of the present command: none yet, where nothing was offered in it. -/
def instantNow (now : Time) (x : Transmit) : CallInstant :=
  match x.instant with
  | some i => if i.time = now then i else ⟨now, x.callQueue, x.tally.get (txCtrIx .callDropped), Bank.fill 2 [], false⟩
  | none => ⟨now, x.callQueue, x.tally.get (txCtrIx .callDropped), Bank.fill 2 [], false⟩

/-- The calls of the instant, those of the present command after the earlier ones of their channel. -/
def heldNow (now : Time) (x : Transmit) : CallInstant :=
  let i := instantNow now x
  { i with offered := Bank.ofFn fun k => i.offered.get k ++ x.offers.get k }

/-- The queue that an instant found takes calls, in the order given (01/R13). -/
def requeue (i : CallInstant) (calls : List Call) (x : Transmit) : Transmit :=
  offerCalls calls { x with
    callQueue := i.queue, tally := x.tally.set (txCtrIx .callDropped) i.dropped, offers := Bank.fill 2 [], instant := some i }

/-! ## The burst queues (01/R15, R16) -/

/-- A record offered to a slot's burst queue: appended, or discarded and counted when 32 are held (01/R15). -/
def offerBurst (k : PubSlotNo) (r : LinkRecord) (x : Transmit) : Transmit :=
  if (x.bursts.get k).length < 32 then { x with bursts := x.bursts.modify k (· ++ [r]) }
  else countSlot x k .burstOverflow 1

/-- Empty a burst queue, counting SLOT_FLUSHED once for each record removed (01/R16). -/
def flushBurst (k : PubSlotNo) (x : Transmit) : Transmit :=
  countSlot { x with bursts := x.bursts.set k [] } k .slotFlushed (x.bursts.get k).length

end Sys2Proof.Machine
end

