-- ==== Sys2Proof/Machine/Operands.lean ====
section
/-! DEFINITION. The link record: its CRC, its field layouts read and written, and the receive checks (01/1.2 to 1.4). -/

namespace Sys2Proof.Machine

/-! ## CRC (01/R2) -/

/-- One data bit through the CRC register (01/R2, steps 2 to 4). -/
def crcBit (reg : Word) (bit : Bool) : Word :=
  if (reg.msb ^^ bit) then (reg <<< 1) ^^^ 4129 else reg <<< 1

/-- The bits of a word, 15 down to 0. -/
def wordBits (w : Word) : List Bool := (List.range 16).map fun i => w.getLsbD (15 - i)

def crcWord (reg w : Word) : Word := (wordBits w).foldl crcBit reg

/-- The CRC of header words, the register starting at all ones and not inverted at the end (01/R2). -/
def crc (ws : List Word) : Word := ws.foldl crcWord 65535

/-! ## Fields -/

/-- Bits `lo + len − 1` down to `lo` of a word, as a number. -/
def field (w : Word) (lo len : Nat) : Nat := w.toNat / 2 ^ lo % 2 ^ len

def wordAt (ws : List Word) (i : Nat) : Word := ws.getD i 0

def timeOfWords (a b c : Word) : Time := BitVec.ofNat 48 (a.toNat * 2 ^ 32 + b.toNat * 2 ^ 16 + c.toNat)

def timeWords (t : Time) : List Word :=
  [BitVec.ofNat 16 (t.toNat / 2 ^ 32), BitVec.ofNat 16 (t.toNat / 2 ^ 16), BitVec.ofNat 16 t.toNat]

def statusOf : Nat → Option PubStatus
  | 0 => some .none
  | 1 => some .absent
  | 2 => some .available
  | 3 => some .sending
  | 4 => some .deferred
  | _ => none

def kindOfCode : Nat → Option Kind
  | 0 => some .frame
  | 1 => some .fieldTop
  | 2 => some .fieldBottom
  | _ => none

def standardCode (n : Nat) : Option StdCode := if h : n < 14 then some ⟨n, h⟩ else none

def pubIndex (n : Nat) : Option PubIx := if h : n < 3 then some ⟨n, h⟩ else none

/-- The header length of a type, with its CRC word (01/1.3); types 0 and 5 to 15 name no kind. -/
def headerLength : Nat → Option Nat
  | 1 => some 11
  | 2 => some 3
  | 3 => some 8
  | 4 => some 6
  | _ => none

/-- One publication entry, words 2i + 4 and 2i + 5 of a BEACON (01/1.3.1), with the check of 01/R6. An entry whose
feed-present bit is 0 is feed none with status NONE whatever its other fields hold. -/
def readEntry (a b : Word) : Option PubEntry :=
  if field a 15 1 = 0 then some .empty
  else if field a 6 3 = 0 then none
  else do
    let status ← statusOf (field a 1 3)
    let standard ← standardCode (field b 12 4)
    pure { feed := some (Fin.ofNat 64 (field a 9 6)), rank := Fin.ofNat 8 (field a 6 3)
           generation := Fin.ofNat 4 (field a 4 2), status, standard, sequence := BitVec.ofNat 8 (field b 0 8) }

def readBeacon (ws : List Word) : Option Beacon := do
  let w0 := wordAt ws 0
  let e0 ← readEntry (wordAt ws 4) (wordAt ws 5)
  let e1 ← readEntry (wordAt ws 6) (wordAt ws 7)
  let e2 ← readEntry (wordAt ws 8) (wordAt ws 9)
  pure { station := Fin.ofNat 8 (field w0 9 3), start := field w0 8 1 = 1, epoch := BitVec.ofNat 8 (field w0 0 8)
         emission := timeOfWords (wordAt ws 1) (wordAt ws 2) (wordAt ws 3), entries := ⟨[e0, e1, e2], rfl⟩ }

def readCall (ws : List Word) : Option CallRecord :=
  let w0 := wordAt ws 0
  if field w0 9 3 = field w0 6 3 then none
  else some { caller := Fin.ofNat 8 (field w0 9 3), target := Fin.ofNat 8 (field w0 6 3)
              feed := Fin.ofNat 64 (field w0 0 6), duration := BitVec.ofNat 8 (field (wordAt ws 1) 0 8) }

def readPicture (ws : List Word) : Option PictureRecord := do
  let w0 := wordAt ws 0
  let w1 := wordAt ws 1
  let lines := field (wordAt ws 5) 0 11
  let samples := field (wordAt ws 6) 0 12
  let pub ← pubIndex (field w0 7 2)
  let kind ← kindOfCode (field w1 4 2)
  let standard ← standardCode (field w1 0 4)
  if standard = 0 ∨ lines = 0 ∨ 1152 < lines ∨ samples = 0 ∨ samples % 2 = 1 ∨ 2048 < samples then none
  else
    pure { origin := Fin.ofNat 8 (field w0 9 3), pub, feed := Fin.ofNat 64 (field w0 1 6)
           sequence := BitVec.ofNat 8 (field w1 8 8), generation := Fin.ofNat 4 (field w1 6 2), kind, standard
           stamp := timeOfWords (wordAt ws 2) (wordAt ws 3) (wordAt ws 4), lines, samples }

/-- The sample value of a payload word: bits 9 to 0, taken as received (01/R3). -/
def payloadSample (w : Word) : Sample := BitVec.ofNat 10 (field w 0 10)

/-- Payload words in co-sited groups of four (01/R3); words short of a group are left off. -/
def readGroups : List Word → List SampleGroup
  | a :: b :: c :: d :: rest =>
    ⟨payloadSample a, payloadSample b, payloadSample c, payloadSample d⟩ :: readGroups rest
  | _ => []

/-- The header of a LINES record with the check of 01/R6, and its sample count. -/
def readLines (ws : List Word) : Option (LinesRecord × Nat) := do
  let w0 := wordAt ws 0
  let line := field (wordAt ws 2) 0 11
  let first := field (wordAt ws 3) 0 11
  let n := field (wordAt ws 4) 0 9
  let pub ← pubIndex (field w0 7 2)
  if 1151 < line ∨ first % 2 = 1 ∨ n = 0 ∨ n % 2 = 1 ∨ 256 < n ∨ 2048 < first + n then none
  else
    pure ({ origin := Fin.ofNat 8 (field w0 9 3), pub, feed := Fin.ofNat 64 (field w0 1 6), last := field w0 0 1 = 1
            sequence := BitVec.ofNat 8 (field (wordAt ws 1) 8 8), line, first
            groups := readGroups ((ws.drop 6).take (2 * n)) }, n)

/-- The record checker on a whole record, or on one that ended early with the words it has: the checks of 01/R4 in
their order; the first that fails names its counter. -/
def checkRecord (ws : List Word) : Except LaneCtr LinkRecord :=
  match headerLength (field (wordAt ws 0) 12 4) with
  | none => .error .unknownType
  | some h =>
    if ws.length < h then .error .malformed
    else if wordAt ws (h - 1) ≠ crc (ws.take (h - 1)) then .error .crcError
    else
      match field (wordAt ws 0) 12 4 with
      | 1 => match readBeacon ws with
        | some b => if ws.length = h then .ok (.beacon b) else .error .malformed
        | none => .error .malformed
      | 2 => match readCall ws with
        | some c => if ws.length = h then .ok (.call c) else .error .malformed
        | none => .error .malformed
      | 3 => match readPicture ws with
        | some p => if ws.length = h then .ok (.picture p) else .error .malformed
        | none => .error .malformed
      | _ => match readLines ws with
        | some (l, n) => if ws.length = h + 2 * n then .ok (.lines l) else .error .malformed
        | none => .error .malformed

/-! ## Writing records -/

/-- A sample sent on the lane is clamped to 4 to 1019 (01/R3). -/
def clampSent (v : Sample) : Sample := BitVec.ofNat 10 (clampNat 4 1019 v.toNat)

def clampGroup (g : SampleGroup) : SampleGroup := ⟨clampSent g.cb, clampSent g.y0, clampSent g.cr, clampSent g.y1⟩

/-- Reserved bits are sent as zero (01/1.3); an absent entry is all zero (03/R39). -/
def entryWords (e : PubEntry) : List Word :=
  match e.feed with
  | none => [0, 0]
  | some f =>
    [BitVec.ofNat 16 (2 ^ 15 + f.val * 2 ^ 9 + e.rank.val * 2 ^ 6 + e.generation.val * 2 ^ 4 + e.status.ctorIdx * 2),
     BitVec.ofNat 16 (e.standard.val * 2 ^ 12 + e.sequence.toNat)]

/-- The header words before the CRC word (01/1.3). -/
def headerWords : LinkRecord → List Word
  | .beacon b =>
    BitVec.ofNat 16 (2 ^ 12 + b.station.val * 2 ^ 9 + (if b.start then 2 ^ 8 else 0) + b.epoch.toNat)
      :: timeWords b.emission ++ entryWords (b.entries.get 0) ++ entryWords (b.entries.get 1)
        ++ entryWords (b.entries.get 2)
  | .call c =>
    [BitVec.ofNat 16 (2 * 2 ^ 12 + c.caller.val * 2 ^ 9 + c.target.val * 2 ^ 6 + c.feed.val),
     BitVec.ofNat 16 c.duration.toNat]
  | .picture p =>
    [BitVec.ofNat 16 (3 * 2 ^ 12 + p.origin.val * 2 ^ 9 + p.pub.val * 2 ^ 7 + p.feed.val * 2),
     BitVec.ofNat 16 (p.sequence.toNat * 2 ^ 8 + p.generation.val * 2 ^ 6 + p.kind.ctorIdx * 2 ^ 4 + p.standard.val)]
      ++ timeWords p.stamp ++ [BitVec.ofNat 16 p.lines, BitVec.ofNat 16 p.samples]
  | .lines l =>
    [BitVec.ofNat 16 (4 * 2 ^ 12 + l.origin.val * 2 ^ 9 + l.pub.val * 2 ^ 7 + l.feed.val * 2 + (if l.last then 1 else 0)),
     BitVec.ofNat 16 (l.sequence.toNat * 2 ^ 8), BitVec.ofNat 16 l.line, BitVec.ofNat 16 l.first,
     BitVec.ofNat 16 (2 * l.groups.length)]

def groupWords (g : SampleGroup) : List Word :=
  [g.cb, g.y0, g.cr, g.y1].map fun v => BitVec.ofNat 16 (clampSent v).toNat

def payloadWords : LinkRecord → List Word
  | .lines l => l.groups.flatMap groupWords
  | _ => []

/-- The words of a record as the transmitter sends it (01/R1 to R3). -/
def encodeRecord (r : LinkRecord) : List Word := headerWords r ++ [crc (headerWords r)] ++ payloadWords r

/-! ## Records a station can send -/

def entryOk (e : PubEntry) : Bool :=
  match e.feed with
  | none => e = .empty
  | some _ => e.rank ≠ 0

def sampleOk (v : Sample) : Bool := 4 ≤ v.toNat && v.toNat ≤ 1019

def groupOk (g : SampleGroup) : Bool := sampleOk g.cb && sampleOk g.y0 && sampleOk g.cr && sampleOk g.y1

/-- The values of the layout tables of 01/1.3. -/
def recordOk : LinkRecord → Bool
  | .beacon b => entryOk (b.entries.get 0) && entryOk (b.entries.get 1) && entryOk (b.entries.get 2)
  | .call c => c.caller ≠ c.target
  | .picture p =>
    p.standard ≠ 0 && 1 ≤ p.lines && p.lines ≤ 1152 && 2 ≤ p.samples && p.samples ≤ 2048 && p.samples % 2 = 0
  | .lines l =>
    l.line ≤ 1151 && l.first % 2 = 0 && 1 ≤ l.groups.length && l.groups.length ≤ 128
      && l.first + 2 * l.groups.length ≤ 2048 && l.groups.all groupOk

end Sys2Proof.Machine
end

