-- ==== Sys2Proof/Config.lean ====
section
/-! DEFINITION. What an implementation fixes and the manual leaves open: the free values. -/

namespace Sys2Proof

/-- How many ticks, less one, the search of a block takes, by the channel, the time at which the job started and the
number of the block (07/R115: the job "is an operation that takes time"). The manual gives no rate, so nothing
constrains it (DESIGN CHOICE, notes/assumptions/10). -/
opaque Config.blockTicks : Nat → Nat → Nat → Nat

end Sys2Proof
end

