-- ==== Sys2Proof/Machine/Flags.lean ====
section
/-! DEFINITION. The Event and Counter Unit's flags: raising, the groups, the event summary, the event line, and clearing
(12/12.5). Each flag is kept with the block instance it belongs to. -/

namespace Sys2Proof.Machine

def laneFlagIx (f : LaneFlag) : Fin 5 := ⟨f.ctorIdx, by cases f <;> decide⟩
def chanFlagIx (f : ChanFlag) : Fin 15 := ⟨f.ctorIdx, by cases f <;> decide⟩
def stationFlagIx (f : StationFlag) : Fin 3 := ⟨f.ctorIdx, by cases f <;> decide⟩

/-- A flag already set stays set (12/R201). -/
def flagLane (l : Lane) (f : LaneFlag) : Lane := { l with flags := l.flags.set (laneFlagIx f) true }
def flag (c : Channel) (f : ChanFlag) : Channel := { c with flags := c.flags.set (chanFlagIx f) true }
def flagStation (s : State) (f : StationFlag) : State := { s with flags := s.flags.set (stationFlagIx f) true }

/-- Count and flag one event of a channel. -/
def countFlag (c : Channel) (x : ChanCtr) (f : ChanFlag) : Channel := flag (count c x) f

/-- The flag instances of a group, by flag and then by instance (12/12.5, 12/R199, R200). -/
def groupFlags (s : State) (g : Nat) : List Bool :=
  match g with
  | 0 => (List.finRange 5).flatMap fun f => (List.finRange 7).map fun l => (lane s l).flags.get f
  | 1 => s.pub.deferredFlags.items
  | 2 => [s.ing.changeFlag, s.ref.lostFlag, (chan s 0).port.jumpFlag, (chan s 1).port.jumpFlag,
      (chan s 0).port.mismatchFlag, (chan s 1).port.mismatchFlag]
  | 3 => (chan s 0).flags.items
  | 4 => (chan s 1).flags.items
  | 5 => s.flags.items
  | _ => []

/-- A group is set while any of its flags is set (12/R201). -/
def groupSet (s : State) (g : Nat) : Bool := (groupFlags s g).any id

/-- The event summary: 64 times the station state plus 2^g over every set group (12/R201; DEDUCED,
notes/assumptions/34). -/
def eventSummary (s : State) : Byte :=
  BitVec.ofNat 8 (64 * s.station.ctorIdx + ((List.range 6).map fun g => if groupSet s g then 2 ^ g else 0).sum)

/-- The event line is asserted while at least one group is set and unmasked (12/R203). -/
def eventLine (s : State) : Bool := (List.range 6).any fun g => groupSet s g && !s.eventMask.getLsbD g

/-- Every instance (255), one instance, or none that exists (12/R199, R202). -/
def instances (n inst : Nat) : Option (List (Fin n)) :=
  if inst = 255 then some (List.finRange n) else if h : inst < n then some [⟨inst, h⟩] else none

def clearLaneFlag (s : State) (f : Fin 5) (l : LaneNo) : State :=
  onLane l (fun x => { x with flags := x.flags.set f false }) s

def clearDeferredFlag (s : State) (p : PubIx) : State :=
  { s with pub := { s.pub with deferredFlags := s.pub.deferredFlags.set p false } }

def clearJump (s : State) (k : Chan) : State := onChan k (fun c => { c with port := { c.port with jumpFlag := false } }) s

def clearMismatch (s : State) (k : Chan) : State :=
  onChan k (fun c => { c with port := { c.port with mismatchFlag := false } }) s

def clearIngestChange (s : State) : State := { s with ing := { s.ing with changeFlag := false } }

def clearRefLost (s : State) : State := { s with ref := { s.ref with lostFlag := false } }

/-- Clear a whole group (flag byte 255). -/
def clearGroup (s : State) (g : Nat) : State :=
  match g with
  | 0 => { s with lanes := s.lanes.map fun x => { x with flags := Bank.fill 5 false } }
  | 1 => { s with pub := { s.pub with deferredFlags := Bank.fill 3 false } }
  | 2 => clearMismatch (clearMismatch (clearJump (clearJump (clearRefLost (clearIngestChange s)) 0) 1) 0) 1
  | 3 => onChan 0 (fun c => { c with flags := Bank.fill 15 false }) s
  | 4 => onChan 1 (fun c => { c with flags := Bank.fill 15 false }) s
  | 5 => { s with flags := Bank.fill 3 false }
  | _ => s

/-- Clear one flag of a channel's group. -/
def clearChanFlag (s : State) (k : Chan) (f : Nat) : Option State :=
  if h : f < 15 then some (onChan k (fun c => { c with flags := c.flags.set ⟨f, h⟩ false }) s) else none

/-- CLEAR_EVENTS on a group, flag and instance; none where one of them does not exist (12/R199, R202). -/
def clearFlags (s : State) (g f inst : Nat) : Option State :=
  if 5 < g then none
  else if f = 255 then some (clearGroup s g)
  else match g with
    | 0 => if h : f < 5 then (instances 7 inst).map fun ls => ls.foldl (fun s l => clearLaneFlag s ⟨f, h⟩ l) s else none
    | 1 => if f = 0 then (instances 3 inst).map fun ps => ps.foldl clearDeferredFlag s else none
    | 2 => match f with
      | 0 => some (clearIngestChange s)
      | 1 => some (clearRefLost s)
      | 2 => (instances 2 inst).map fun ks => ks.foldl clearJump s
      | 3 => (instances 2 inst).map fun ks => ks.foldl clearMismatch s
      | _ => none
    | 3 => clearChanFlag s 0 f
    | 4 => clearChanFlag s 1 f
    | _ => if h : f < 3 then some { s with flags := s.flags.set ⟨f, h⟩ false } else none

end Sys2Proof.Machine
end

