-- ==== Sys2Proof/Machine/Cadence.lean ====
section
/-! DEFINITION. Cadence Detector: families, measures, flags, hypothesis records, locks, placements and rulings (06). -/

namespace Sys2Proof.Machine

/-! ## Families (06/6.2) -/

def cycleOf : Family → Nat
  | .film32 => 5
  | .film22 => 2
  | .rep32 => 5
  | .rep22 => 2

/-- Whether the flag expected at a position is the family's mark (06/6.2). -/
def markAt (f : Family) (p : Nat) : Bool :=
  match f with
  | .film32 => p = 2
  | .film22 => p = 1
  | .rep32 => p = 1 || p = 3 || p = 4
  | .rep22 => p = 1

/-- The mark position given to a raw picture that shows the mark where the record has none for it (06/R99). -/
def markPosition (f : Family) (last : Option RepeatFlag) : Nat :=
  match f with
  | .film32 => 2
  | .film22 => 1
  | .rep32 => if last = some .r then 4 else 1
  | .rep22 => 1

/-- The second-of-pair positions (06/6.2). -/
def secondOfPair (f : Family) (p : Nat) : Bool :=
  match f with
  | .film32 => p = 1 || p = 4
  | .film22 => p = 1
  | .rep32 | .rep22 => false

/-- A raw picture's flag in a family's flag set: the mark, the other flag, or S, which carries no evidence. -/
inductive Sign where | mark | other | still
deriving DecidableEq, Repr

/-- FILM22 reads the comb flag, the others the repeat flag (06/6.2). -/
def signOf (f : Family) (rf : RepeatFlag) (cf : CombFlag) : Sign :=
  match f with
  | .film22 => match cf with
    | .s => .still
    | .l => .mark
    | .h => .other
  | .film32 | .rep32 | .rep22 => match rf with
    | .s => .still
    | .r => .mark
    | .n => .other

/-- The families hunted in a source, for records 0 and 1 (06/R93). -/
def huntedFor (enable : Bool) (code : StdCode) : Option Family × Option Family :=
  let st := standardOf code
  if !enable || code = 0 || 540000 < st.rawPeriod then (none, none)
  else if st.interlaced then (if st.rawPeriod = 540000 then none else some .film32, some .film22)
  else (if st.rawPeriod = 540000 then none else some .rep32, some .rep22)

/-- The hunted set: the families of the records in use (06/6.1). -/
def huntedSet (d : Cadence) : List Family := d.rec32.family.toList ++ d.rec22.family.toList

/-- Forming the hunted set changes neither the mode, the records' phases nor the pending lock (06/R93). -/
def formHunted (enable : Bool) (code : StdCode) (d : Cadence) : Cadence :=
  { d with rec32 := { d.rec32 with family := (huntedFor enable code).1 }
           rec22 := { d.rec22 with family := (huntedFor enable code).2 } }

/-- The period at which the channel commits pictures under its mode (06/R110). -/
def pCommit (mode : Option Family) (pEst : Nat) : Nat :=
  match mode with
  | none => pEst
  | some .film22 | some .rep22 => 2 * pEst
  | some .film32 | some .rep32 => (roundHalfUp (5 * pEst) 2).toNat

/-! ## Measures (06/R94, R95) -/

def absDiff (a b : Nat) : Nat := if a < b then b - a else a - b

/-- The crop lines of a raw picture: those of its parity for a field, all for a frame (05/R77). -/
def ownLines (crop : Rect) (k : Kind) : List Nat :=
  match parityOf k with
  | none => rectLines crop
  | some p => (rectLines crop).filter fun l => l % 2 = p.val

def cropSamples (crop : Rect) : List Nat := span crop.firstSample crop.sampleCount

def luma (p : Planes) (line pos : Nat) : Nat := (readAt p.y line pos).toNat

/-- The repeat reference of 06/R94: the second entry of the history for a field of its parity, the newest for a frame,
of the same switch count. -/
def repeatReference (c : Channel) (k : RawPicture) : Option SlotNo := do
  let e ← if k.kind = .frame then c.int.history[0]? else c.int.history[1]?
  let r ← rawOf c e
  if parityOf r.kind = parityOf k.kind ∧ r.switchCount = k.switchCount then some e.slot else none

/-- M(k), or absent (06/R94). -/
def repeatMeasure (c : Channel) (crop : Rect) (slot : SlotNo) (k : RawPicture) : Option Nat := do
  let ref ← repeatReference c k
  let own := (slotOf c slot).planes
  let other := (slotOf c ref).planes
  let lines := ownLines crop k.kind
  let total := (lines.map fun l => ((cropSamples crop).map fun x => absDiff (luma own l x) (luma other l x)).sum).sum
  some (total / (lines.length * crop.sampleCount))

/-- The comb reference of 06/R95: the newest entry, a field of the other parity and the same switch count. -/
def combReference (c : Channel) (k : RawPicture) : Option (SlotNo × Parity) := do
  let p ← parityOf k.kind
  let e ← c.int.history[0]?
  let r ← rawOf c e
  if parityOf r.kind = some (otherParity p) ∧ r.switchCount = k.switchCount then some (e.slot, otherParity p) else none

/-- Cm(k), or absent (06/R95). -/
def combMeasure (c : Channel) (crop : Rect) (slot : SlotNo) (k : RawPicture) : Option Nat := do
  let (ref, q) ← combReference c k
  let own := (slotOf c slot).planes
  let other := (slotOf c ref).planes
  let lines := (rectLines crop).filter fun f =>
    f % 2 = q.val ∧ crop.firstLine < f ∧ f + 1 < crop.firstLine + crop.lineCount
  let n := lines.length * crop.sampleCount
  let total := (lines.map fun f => ((cropSamples crop).map fun x =>
    absDiff (2 * luma other f x) (luma own (f - 1) x + luma own (f + 1) x)).sum).sum
  if n = 0 then none else some (total / (2 * n))

/-! ## Flags (06/R96 to R98) -/

def pushRepeat (d : Cadence) (m : Option Nat) : Cadence := { d with repeats := (m :: d.repeats).take 5 }
def pushComb (d : Cadence) (m : Option Nat) : Cadence := { d with combs := (m :: d.combs).take 2 }

/-- The repeat flag, from the repeat history after the push, newest first (06/R97). -/
def repeatFlagOf (threshold : Nat) (hist : List (Option Nat)) : RepeatFlag :=
  match hist with
  | some m :: _ =>
    if hist.all (fun x => x.all (· ≤ threshold)) then .s else if m ≤ threshold then .r else .n
  | _ => .s

/-- The comb flag (06/R98). -/
def combFlagOf (threshold : Nat) (rf : RepeatFlag) (cm : Option Nat) : CombFlag :=
  match rf, cm with
  | .s, _ => .s
  | _, none => .s
  | _, some m => if m ≤ threshold then .l else .h

/-! ## Hypothesis records (06/R99) -/

/-- One update of a record: the record, the position it gives the raw picture, and whether it was cleared or
re-phased. -/
structure HypStep where
  record : Hypothesis
  position : Option Nat
  disturbed : Bool
deriving DecidableEq, Repr

def atPosition (h : Hypothesis) (f : Family) (p n : Nat) (disturbed : Bool) : HypStep :=
  ⟨{ h with next := some ((p + 1) % cycleOf f), count := n }, some p, disturbed⟩

def clearHypothesis (h : Hypothesis) : Hypothesis := { h with next := none, count := 0 }

/-- Update one record from the raw picture's flags (06/R99). A record not in use is left alone. -/
def updateHypothesis (h : Hypothesis) (rf : RepeatFlag) (cf : CombFlag) (last : Option RepeatFlag) : HypStep :=
  match h.family with
  | none => ⟨h, none, false⟩
  | some f =>
    match h.next, signOf f rf cf with
    | some p, .still => atPosition h f p h.count false
    | some p, .mark =>
      if markAt f p then atPosition h f p (min (h.count + 1) 40) false
      else atPosition h f (markPosition f last) 1 true
    | some p, .other =>
      if markAt f p then ⟨clearHypothesis h, none, true⟩ else atPosition h f p (min (h.count + 1) 40) false
    | none, .mark => atPosition h f (markPosition f last) 1 false
    | none, _ => ⟨h, none, false⟩

def recordOf (d : Cadence) (f : Family) : Hypothesis := if d.rec32.family = some f then d.rec32 else d.rec22

/-- Whether a family is that of record 0 (the 3:2 family of the hunted set). -/
def isRec32 (d : Cadence) (f : Family) : Bool := d.rec32.family = some f

/-! ## Placement and rulings (06/R102 to R106) -/

/-- Whether the detector answers "partner" to the intake's question (06/R102). -/
def placesWithPartner (d : Cadence) : Bool :=
  match d.mode with
  | some f => (recordOf d f).next.any (secondOfPair f)
  | none => false

/-- What the intake is to do with a closed raw picture (05/R79). -/
inductive Ruling where
  | video (stamp : Time)
  | pairFirst
  | pairSecond (stamp : Time)
  | repeated
deriving DecidableEq, Repr

/-- Half a 3:2 cycle after the anchor (06/R104). -/
def halfCycleStamp (anchor : Time) (pEst : Nat) : Time := shift anchor (roundHalfUp (5 * pEst) 2)

/-- The ruling of a position under a locked mode; `own` says that the raw picture closes in an own slot (06/R104,
R105). -/
def rulingAt (f : Family) (p : Nat) (anchor raw : Time) (pEst : Nat) (own : Bool) : Ruling :=
  match f with
  | .film32 => match p with
    | 0 | 3 => .pairFirst
    | 1 => if own then .video raw else .pairSecond anchor
    | 4 => if own then .video raw else .pairSecond (halfCycleStamp anchor pEst)
    | _ => .repeated
  | .film22 => if p = 0 then .pairFirst else if own then .video raw else .pairSecond anchor
  | .rep32 => match p with
    | 0 => .video anchor
    | 2 => .video (halfCycleStamp anchor pEst)
    | _ => .repeated
  | .rep22 => if p = 0 then .video anchor else .repeated

/-- Whether a flag breaks the lock at a position (06/R106). -/
def breaksLock (f : Family) (p : Nat) (sg : Sign) : Bool :=
  match sg with
  | .still => false
  | .mark => !markAt f p
  | .other => markAt f p

/-- The ruling of the raw picture that breaks the lock (06/R106, R105; DEDUCED, notes/assumptions/17). -/
def breakRuling (f : Family) (p : Nat) (anchor raw : Time) (pEst : Nat) (own : Bool) : Ruling :=
  if secondOfPair f p then rulingAt f p anchor raw pEst own else .video raw

/-- Steps 3 to 6 of 06/R103: the detector, the ruling, whether the lock breaks after it, and whether a lock took
effect. -/
structure CadenceStep where
  cad : Cadence
  ruling : Ruling
  broke : Bool
  lockedNow : Bool
deriving DecidableEq, Repr

/-- Steps 3 to 6 under a lock. The other record stays cleared while the lock holds (06/R101). -/
def lockedStep (d : Cadence) (f : Family) (rf : RepeatFlag) (cf : CombFlag) (raw : Time) (pEst : Nat) (own : Bool) :
    CadenceStep :=
  let st := updateHypothesis (recordOf d f) rf cf d.lastFlag
  let d1 := if isRec32 d f then { d with rec32 := st.record, lastFlag := some rf }
    else { d with rec22 := st.record, lastFlag := some rf }
  match (recordOf d f).next with
  | none => ⟨d1, .video raw, false, false⟩
  | some p =>
    if breaksLock f p (signOf f rf cf) then
      ⟨d1, breakRuling f p (d.anchor.getD raw) raw pEst own, true, false⟩
    else
      let anchor := if p = 0 then raw else d.anchor.getD raw
      ⟨{ d1 with anchor := some anchor }, rulingAt f p anchor raw pEst own, false, false⟩

/-- Steps 3 to 6 in VIDEO: both records are updated, a pending lock is cancelled if its record was cleared or re-phased
(06/R100), and otherwise takes effect at its cycle start (06/R101). -/
def videoStep (d : Cadence) (rf : RepeatFlag) (cf : CombFlag) (raw : Time) (pEst : Nat) (own : Bool) : CadenceStep :=
  let s0 := updateHypothesis d.rec32 rf cf d.lastFlag
  let s1 := updateHypothesis d.rec22 rf cf d.lastFlag
  let d1 := { d with rec32 := s0.record, rec22 := s1.record, lastFlag := some rf }
  match d.pendingLock with
  | none => ⟨d1, .video raw, false, false⟩
  | some f =>
    let st := if isRec32 d f then s0 else s1
    if st.disturbed then ⟨{ d1 with pendingLock := none }, .video raw, false, false⟩
    else if st.position = some 0 then
      let d2 := if isRec32 d f then { d1 with rec22 := clearHypothesis d1.rec22 }
        else { d1 with rec32 := clearHypothesis d1.rec32 }
      ⟨{ d2 with mode := some f, pendingLock := none, anchor := some raw }, rulingAt f 0 raw raw pEst own, false, true⟩
    else ⟨d1, .video raw, false, false⟩

def cadenceStep (d : Cadence) (rf : RepeatFlag) (cf : CombFlag) (raw : Time) (pEst : Nat) (own : Bool) : CadenceStep :=
  match d.mode with
  | some f => lockedStep d f rf cf raw pEst own
  | none => videoStep d rf cf raw pEst own

/-- Step 7: a record at or above the confirmation threshold becomes the pending lock, the 3:2 family first (06/R100).
-/
def newPending (lockCycles : Nat) (d : Cadence) : Cadence :=
  if d.mode = none ∧ d.pendingLock = none then
    if d.rec32.family ≠ none ∧ 5 * lockCycles ≤ d.rec32.count then { d with pendingLock := d.rec32.family }
    else if d.rec22.family ≠ none ∧ 5 * lockCycles ≤ d.rec22.count then { d with pendingLock := d.rec22.family }
    else d
  else d

/-- After the ruling of a breaking raw picture (06/R106). -/
def endLock (d : Cadence) : Cadence := { d with mode := none, anchor := none }

/-- A raw picture closed empty: phased records advance, and an empty raw picture at position 0 of the lock becomes the
anchor (06/R104, R107). -/
def emptyClosed (d : Cadence) (raw : Time) : Cadence :=
  let step := fun (h : Hypothesis) => match h.family, h.next with
    | some f, some p => { h with next := some ((p + 1) % cycleOf f) }
    | _, _ => h
  let anchor := match d.mode with
    | some f => if (recordOf d f).next = some 0 then some raw else d.anchor
    | none => d.anchor
  { d with rec32 := step d.rec32, rec22 := step d.rec22, anchor }

/-- Back to VIDEO with the records cleared and the histories emptied; the hunted set is kept (06/R108, R109). -/
def resetCadence (d : Cadence) : Cadence :=
  { d with mode := none, pendingLock := none, anchor := none, rec32 := clearHypothesis d.rec32
           rec22 := clearHypothesis d.rec22, repeats := [], combs := [], lastFlag := none }

/-- The detector's return to VIDEO at a switch or a flush, with its flag and count when that ends a lock. -/
def cadenceToVideo (c : Channel) : Channel :=
  let c1 := { c with cad := resetCadence c.cad }
  if c.cad.mode = none then c1 else countFlag c1 .cadenceBreaks .cadenceChange

end Sys2Proof.Machine
end

