-- ==== Sys2Proof/Machine/Ring.lean ====
section
/-! DEFINITION. The picture ring: the marks that hold its slots, vector states, departures, retirement and the freeing of
HISTORY slots (05/5.7, 07/7.1). A mark is computed from the operation that holds it (DEDUCED, notes/assumptions/11, 12). -/

namespace Sys2Proof.Machine

/-! ## Marks (05/R86) -/

/-- The render mark: A and B of a record not yet DONE (08/R129, R140). -/
def renderMark (c : Channel) (i : SlotNo) : Bool :=
  match c.ren.record with
  | some r => r.state ≠ .done && (r.a = i || r.b = some i)
  | none => false

/-- The motion mark: the two pictures of the job in flight (07/R115). -/
def motionMark (c : Channel) (i : SlotNo) : Bool :=
  match c.meu.job with
  | some j => j.pair.a = i || j.pair.b = i
  | none => false

/-- The history mark: the slots of the field history's entries (05/R85). -/
def historyMark (c : Channel) (i : SlotNo) : Bool := c.int.history.any (·.slot = i)

/-- The slots a finish in progress reads (05/R83). -/
def finishReads : Option Finish → List SlotNo
  | some (.deinterlace p b) => (p.toList ++ b.toList).map (·.slot)
  | _ => []

/-- The finish mark: set while any deinterlace in progress reads the slot (05/R83; DEDUCED, notes/assumptions/12). -/
def finishMark (c : Channel) (i : SlotNo) : Bool := slotNumbers.any fun j => i ∈ finishReads (slotOf c j).finish

/-- A slot carrying any mark is referenced (05/R86). -/
def referenced (c : Channel) (i : SlotNo) : Bool :=
  renderMark c i || motionMark c i || historyMark c i || finishMark c i

/-- The vector state of a slot (07/7.1). -/
def vectorState (c : Channel) (i : SlotNo) : VectorState :=
  if c.meu.pending.any (·.b = i) || (match c.meu.job with | some j => j.pair.b = i | none => false) then .pending
  else if (slotOf c i).table.isSome then .ready else .absent

def isComplete (c : Channel) (i : SlotNo) : Bool := (slotOf c i).state = .complete

/-! ## Departures -/

/-- The Motion Estimator is told that a picture has left the ring: entries that name it are removed (07/R114). -/
def forgetPairs (i : SlotNo) (c : Channel) : Channel :=
  let gone := c.meu.pending.filter fun q => q.b = i || q.a = i
  countMany { c with meu := { c.meu with pending := c.meu.pending.filter fun q => !(q.b = i || q.a = i) } }
    .motionSkipped gone.length

/-- A slot becomes FREE and leaves the committed list; its vector table goes with it (05/R74, R87, 07/R124; DEDUCED,
notes/assumptions/31). -/
def freeSlot (i : SlotNo) (c : Channel) : Channel :=
  forgetPairs i { c with int := { c.int with
    slots := c.int.slots.set i .empty
    committed := c.int.committed.filter (· ≠ i) } }

/-! ## Retirement and HISTORY slots (05/R87, R88) -/

/-- The conditions of retirement, the history mark among them (05/R87). -/
def retirable (c : Channel) (i : SlotNo) : Bool :=
  let s := slotOf c i
  match c.int.retireRef.bind (fun r => (slotOf c r).committed), s.committed with
  | some tr, some t => s.state = .complete && later tr t && !referenced c i
  | _, _ => false

def retireOne (c : Channel) (i : SlotNo) : Channel := if retirable c i then freeSlot i c else c

/-- Retirement applied to every committed slot. -/
def retireAll (c : Channel) : Channel := c.int.committed.foldl retireOne c

/-- A HISTORY slot becomes FREE when it carries no mark (05/R88). -/
def freeHistoryOne (c : Channel) (i : SlotNo) : Channel :=
  if (slotOf c i).state = .history ∧ !referenced c i then freeSlot i c else c

/-- What the intake does whenever a mark is released, the history advances or the reference changes (05/R86 to R88;
DEDUCED, notes/assumptions/18). -/
def sweep (c : Channel) : Channel := slotNumbers.foldl freeHistoryOne (retireAll c)

/-! ## Recycling (05/R74) -/

/-- COMPLETE or HISTORY and carrying no mark. -/
def recyclable (c : Channel) (i : SlotNo) : Bool :=
  ((slotOf c i).state = .complete || (slotOf c i).state = .history) && !referenced c i

/-- The stamp by which a recyclable slot's age is judged. -/
def ageStamp (s : Slot) : Time :=
  match s.state with
  | .complete => s.committed.getD 0
  | _ => match s.raws with
    | r :: _ => r.stamp
    | [] => 0

/-- The recyclable slot of the earliest stamp (05/R74), the lower of two of one stamp (DESIGN CHOICE, notes/assumptions/65).
-/
def oldestRecyclable (c : Channel) : Option SlotNo :=
  slotNumbers.foldl (fun best i =>
    if recyclable c i then
      match best with
      | some b => if later (ageStamp (slotOf c b)) (ageStamp (slotOf c i)) then some i else some b
      | none => some i
    else best) none

def lowestFree (c : Channel) : Option SlotNo := slotNumbers.find? fun i => (slotOf c i).state = .free

/-- Take an own slot: the lowest FREE one, or the oldest recyclable one with RING_OVERRUN (05/R73, R74). None where no
slot is recyclable. -/
def takeSlot (c : Channel) : Option (SlotNo × Channel) :=
  match lowestFree c with
  | some i => some (i, c)
  | none => match oldestRecyclable c with
    | some i =>
      let c1 := freeSlot i c
      let c2 := { c1 with int := { c1.int with
        retireRef := if c1.int.retireRef = some i then none else c1.int.retireRef } }
      some (i, countFlag c2 .ringOverrun .ringOverrun)
    | none => none

end Sys2Proof.Machine
end

