-- ==== Sys2Proof/Machine/Motion.lean ====
section
/-! DEFINITION. Motion Estimator: pairs, jobs, the block grid, the match measure, the search and the vector table (07). -/

namespace Sys2Proof.Machine

/-! ## Pairs (07/R113) -/

/-- A commit of slot `b`, told with the committed list as it stood before (07/R113). -/
def pairUp (before : List SlotNo) (b : SlotNo) (c : Channel) : Channel :=
  match before.getLast? with
  | some a => { c with meu := { c.meu with pending := c.meu.pending ++ [⟨b, a⟩] } }
  | none => count c .motionSkipped

/-! ## The match measure (07/R116, R117) -/

def gridColumns (crop : Rect) : Nat := (crop.sampleCount + 15) / 16
def gridRows (crop : Rect) : Nat := (crop.lineCount + 15) / 16

/-- The luma of a picture at clamped crop coordinates (07/R117). -/
def cropLuma (crop : Rect) (p : Planes) (x y : Int) : Nat :=
  (readAt p.y (crop.firstLine + clampIx crop.lineCount y) (crop.firstSample + clampIx crop.sampleCount x)).toNat

/-- The SAD of block (col, row) at a vector: 256 absolute differences (07/R117). -/
def blockSad (crop : Rect) (a b : Planes) (col row : Nat) (v : Vec) : Nat :=
  ((List.range 16).map fun (j : Nat) => ((List.range 16).map fun (i : Nat) =>
    let x : Int := 16 * col + i
    let y : Int := 16 * row + j
    absDiff (cropLuma crop a x y) (cropLuma crop b (x + v.x) (y + v.y))).sum).sum

/-! ## The search (07/R118 to R121) -/

/-- A vector brought within the vector range, axis by axis (07/R120). -/
def holdVec (v : Vec) : Vec := ⟨clampInt (-32) 32 v.x, clampInt (-16) 16 v.y⟩

/-- A candidate against the best so far: it replaces only if its SAD is strictly smaller (07/R120). -/
def tryVec (sad : Vec → Nat) (best : Vec × Nat) (v : Vec) : Vec × Nat :=
  if sad (holdVec v) < best.2 then (holdVec v, sad (holdVec v)) else best

/-- The eight neighbours of a vector in the order of 07/R120. -/
def neighbours (b : Vec) : List Vec :=
  [⟨b.x - 1, b.y - 1⟩, ⟨b.x, b.y - 1⟩, ⟨b.x + 1, b.y - 1⟩, ⟨b.x - 1, b.y⟩, ⟨b.x + 1, b.y⟩, ⟨b.x - 1, b.y + 1⟩,
    ⟨b.x, b.y + 1⟩, ⟨b.x + 1, b.y + 1⟩]

/-- The zero vector first, the other seeds in order, then one refinement step around the best seed (07/R118, R120). -/
def searchVec (sad : Vec → Nat) (seeds : List Vec) : Vec × Nat :=
  let seed := seeds.foldl (tryVec sad) (⟨0, 0⟩, sad ⟨0, 0⟩)
  (neighbours seed.1).foldl (tryVec sad) seed

/-- Seeds 2 to 5 of a block, given the records written before it (07/R118). -/
def seedsOf (columns : Nat) (tableA : Option VectorTable) (globalA : Option Vec) (written : List BlockRecord)
    (n : Nat) : List Vec :=
  let same := match tableA.bind (fun t => t.records[n]?) with
    | some r => if r.valid then [r.vec] else []
    | none => []
  let left := if 0 < n % columns then ((written[n - 1]?).map (·.vec)).toList else []
  let above := if columns ≤ n then ((written[n - columns]?).map (·.vec)).toList else []
  same ++ left ++ above ++ globalA.toList

/-- The record of a searched block (07/R121). -/
def blockRecordOf (limit : Nat) (v : Vec × Nat) : BlockRecord := ⟨v.1, v.2, v.2 ≤ limit * 256⟩

/-- The blocks in raster order (07/R118). -/
def searchBlocks (limit columns : Nat) (tableA : Option VectorTable) (globalA : Option Vec)
    (sad : Nat → Vec → Nat) : Nat → List BlockRecord
  | 0 => []
  | n + 1 =>
    let written := searchBlocks limit columns tableA globalA sad n
    written ++ [blockRecordOf limit (searchVec (sad n) (seedsOf columns tableA globalA written n))]

/-! ## The global vector (07/R119) -/

def vecSize (v : Vec) : Nat := v.x.natAbs + v.y.natAbs

/-- Whether a vector goes before another of equal frequency: smaller |vx| + |vy|, then smaller vy, then smaller vx. -/
def vecBefore (v w : Vec) : Bool :=
  vecSize v < vecSize w || (vecSize v = vecSize w && (v.y < w.y || (v.y = w.y && v.x < w.x)))

/-- The most frequent vector among the valid records (07/R119). -/
def globalVector (rs : List BlockRecord) : Option Vec :=
  let vs := (rs.filter (·.valid)).map (·.vec)
  vs.foldl (fun best v => match best with
    | none => some v
    | some w =>
      if vs.count w < vs.count v ∨ (vs.count v = vs.count w ∧ vecBefore v w) then some v else some w) none

/-! ## Jobs (07/R115, R122, R123) -/

/-- A job starts for the oldest pending entry when its pair is COMPLETE (07/R115). The working table is searched whole
from the two COMPLETE slots, which nothing writes; how much of it has been written at an instant is `recordsWritten`
(DESIGN CHOICE, notes/assumptions/10). The start is MOTION_JOB_START, so it comes after all that the command brings which
made the conditions hold (DESIGN CHOICE, notes/assumptions/63). -/
def startJob (env : Env) (c : Channel) : Channel :=
  match c.meu.job, c.meu.pending, c.int.crop with
  | none, q :: rest, some crop =>
    if isComplete c q.b ∧ isComplete c q.a then
      let tableA := (slotOf c q.a).table
      let globalA := tableA.bind (·.globalVec)
      let columns := gridColumns crop
      let rows := gridRows crop
      let sad := fun n v => blockSad crop (slotOf c q.a).planes (slotOf c q.b).planes (n % columns) (n / columns) v
      let records := searchBlocks env.cfg.matchLimit columns tableA globalA sad (columns * rows)
      { c with meu := { pending := rest, job := some ⟨q, columns, rows, globalA, records, env.now⟩ } }
    else c
  | _, _, _ => c

/-- How many of the next `blocks` blocks, from block `n` on, are searched in so many ticks (07/R121). -/
def searchedIn (ticks : Nat → Nat) : Nat → Nat → Nat → Nat
  | 0, _, _ => 0
  | blocks + 1, n, elapsed =>
    if ticks n < elapsed then 1 + searchedIn ticks blocks (n + 1) (elapsed - (ticks n + 1)) else 0

/-- The count of records that the job of a channel has written now: 0 at its start, and one more at the end of each
block's search. The last block's ends with the job (07/R121, R122; DESIGN CHOICE, notes/assumptions/10). -/
def recordsWritten (k : Chan) (now : Time) (j : Job) : Nat :=
  searchedIn (Config.blockTicks k.val j.started.toNat) (j.columns * j.rows - 1) 0 (now - j.started).toNat

/-- The table a job leaves (07/R122, steps 1 to 3). -/
def tableOf (j : Job) : VectorTable :=
  let bad := (j.records.filter fun r => !r.valid).length
  { columns := j.columns, records := j.records, invalid := bad, globalVec := globalVector j.records
    cut := j.columns * j.rows < 2 * bad }

/-- A job ends: its table is attached to B, its marks are released and applied (07/R122). Its end is the sender's: where
it comes before the searches of the earlier blocks have taken their ticks, their records are all written at that instant
(DESIGN CHOICE, notes/assumptions/10). -/
def endJob (c : Channel) : Channel :=
  match c.meu.job with
  | some j =>
    let t := tableOf j
    let c1 := if t.cut then count c .motionCuts else c
    let c2 := onSlot j.pair.b (fun s => { s with table := some t }) { c1 with meu := { c1.meu with job := none } }
    count (sweep c2) .motionJobs
  | none => c

/-- The flush's part: the job is abandoned and the pending list emptied (07/R123). -/
def abandonJobs (c : Channel) : Channel :=
  let c1 := { c with meu := { pending := [], job := none } }
  if c.meu.job.isSome then count c1 .motionAbandoned else c1

end Sys2Proof.Machine
end

