-- ==== Sys2Proof/Machine/Render.lean ====
section
/-! DEFINITION. Render Engine: delay, selection, weights, readiness, conceal point and disposal (08/8.1 to 8.4, 8.6). -/

namespace Sys2Proof.Machine

/-! ## The delay in effect (08/R126) -/

def pOut (cfg : ChanConfig) : Nat := (standardOf cfg.target).rawPeriod

/-- P_max, from the source standard and the hunted set (08/R126). Every product is a whole number of ticks. -/
def pMax (source : StdCode) (hunted : List Family) : Nat :=
  let p := (standardOf source).rawPeriod
  if source = 0 then 0
  else if .film32 ∈ hunted ∨ .rep32 ∈ hunted then 5 * p / 2
  else if .film22 ∈ hunted ∨ .rep22 ∈ hunted then 2 * p
  else p

/-- D_eff is the greater of D and P_out + 2·P_max; DELAY_RAISED where it is greater than D (08/R126). -/
def computeDelay (cfg : ChanConfig) (c : Channel) : Channel :=
  let least := pOut cfg + 2 * pMax c.int.standard (huntedSet c.cad)
  let c1 := { c with ren := { c.ren with dEff := some (max cfg.delay least) } }
  if cfg.delay < least then flag c1 .delayRaised else c1

/-! ## Weight (08/R131, R132) -/

/-- 64·(R − tA)/(tB − tA) rounded half up (08/R131). -/
def baseWeight (tA tB r : Time) : Nat :=
  ((128 * sdiff r tA + sdiff tB tA) / (2 * sdiff tB tA)).toNat

/-- The gap rule: whether the interval is greater than three times P_commit (08/R132). -/
def gapHeld (c : Channel) (tA tB : Time) : Bool := 3 * (pCommit c.cad.mode c.int.pEst : Int) < sdiff tB tA

def stampOf (c : Channel) (i : SlotNo) : Time := (slotOf c i).committed.getD 0

/-- The preliminary weight of a record with A and B, counting GAP_HOLDS (08/R131, R132). -/
def weigh (c : Channel) (a b : SlotNo) (r : Time) : Nat × Channel :=
  if gapHeld c (stampOf c a) (stampOf c b) then (0, count c .gapHolds)
  else (baseWeight (stampOf c a) (stampOf c b) r, c)

/-! ## Selection (08/R127 to R130) -/

/-- A committed picture lies at or before the render point (08/R128). -/
def atOrBefore (c : Channel) (r : Time) (i : SlotNo) : Bool := reached r (stampOf c i)

/-- A, B and the early mark, from the committed list (08/R128); none where the list is empty. -/
def chooseAB (c : Channel) (r : Time) : Option (SlotNo × Option SlotNo × Bool) :=
  match c.int.committed with
  | [] => none
  | first :: _ =>
    let before := c.int.committed.filter (atOrBefore c r)
    match before.getLast? with
    | none => some (first, none, true)
    | some a => some (a, ((c.int.committed.dropWhile (· ≠ a)).drop 1).head?, false)

/-- The buffer that a render writes: the one the port is not scanning, or, while it scans a generated picture, the one
that is not the last good buffer, or buffer 0 (10/R165, 08/R129). -/
def renderBuffer (p : Port) : BufNo :=
  match p.source with
  | .buffer b => otherBuffer b
  | _ => match p.lastGood with
    | some b => otherBuffer b
    | none => 0

/-- A-only: the render will not read B and does not wait for it (08/R129). -/
def isAOnly (r : RenderRecord) : Bool := r.early || r.prelim = some 0

/-- Needs B: a preliminary weight above 0 (08/R129). -/
def needsB (r : RenderRecord) : Bool := !r.early && r.b.isSome && r.prelim.any (0 < ·)

/-- Awaiting B: no B and the early mark clear (08/R129). -/
def awaitingB (r : RenderRecord) : Bool := !r.early && r.b.isNone

def withRecord (r : Option RenderRecord) (c : Channel) : Channel := { c with ren := { c.ren with record := r } }

/-- Where a port's next picture is announced for T_out(n), the instants of the record (08/R127). -/
def formRecord (env : Env) (d : Nat) (c : Channel) (tOut : Time) : Channel :=
  let r := shift tOut (-(d : Int))
  match chooseAB c r with
  | none => count c .renderSkipped
  | some (a, b, early) =>
    let c1 := if early then count c .early else c
    let (prelim, c2) := match b with
      | some i => (some (weigh c1 a i r).1, (weigh c1 a i r).2)
      | none => (none, c1)
    let rec' : RenderRecord :=
      { picture := c.port.picture + 1, tOut, select := shift tOut (-(pOut env.cfg : Int))
        conceal := shift tOut (-((pOut env.cfg / 8 : Nat) : Int)), point := r, state := .waiting, a, b, early, prelim
        mode := none, weight := none, buffer := renderBuffer c.port, concealed := false }
    let c3 := withRecord (some rec') c2
    sweep { c3 with int := { c3.int with retireRef := some a } }

/-- The selection instant of the announced picture has come: the later of S(n) and T_out(n − 1) (08/R127). -/
def selectionDue (env : Env) (c : Channel) : Bool :=
  match c.port.tOut, c.port.tNext with
  | some t0, some t1 => reached env.now t0 && reached env.now (shift t1 (-(pOut env.cfg : Int)))
  | _, _ => false

/-- The selection for the announced picture, made once and only while CONVERTING (08/R127 to R129). -/
def makeSelection (env : Env) (c : Channel) : Channel :=
  match c.port.tNext, c.ren.dEff with
  | some t, some d =>
    if c.sup.state = .converting ∧ c.ren.selected = false ∧ c.ren.record = none ∧ selectionDue env c then
      formRecord env d { c with ren := { c.ren with selected := true } } t
    else c
  | _, _ => c

/-- The Render Engine is told of a commit: a record awaiting B takes the picture as A or as B (08/R130). -/
def noteCommit (i : SlotNo) (c : Channel) : Channel :=
  match c.ren.record with
  | some r =>
    if r.state = .waiting ∧ awaitingB r then
      if atOrBefore c r.point i then
        let c1 := withRecord (some { r with a := i }) c
        sweep { c1 with int := { c1.int with retireRef := some i } }
      else
        let (w, c1) := weigh c r.a i r.point
        withRecord (some { r with b := some i, prelim := some w }) c1
    else c
  | none => c

/-! ## Beginning (08/R133 to R135) -/

/-- The mode in which a WAITING record begins by readiness, if it does (08/R134). -/
def readyMode (c : Channel) (r : RenderRecord) : Option RenderMode :=
  if isAOnly r then some .aOnly
  else match r.b with
    | some b =>
      if needsB r ∧ isComplete c b then
        match vectorState c b with
        | .ready => some .vectored
        | .absent => some .plain
        | .pending => none
      else none
    | none => none

/-- The mode in which a record that has stopped waiting for B begins (08/R135). -/
def concealMode (c : Channel) (r : RenderRecord) : RenderMode :=
  match r.b with
  | some b => if isComplete c b then .plain else .aOnly
  | none => .aOnly

/-- The weight that a mode gives, and whether the CUT rule changed it (08/R133). -/
def finalWeight (c : Channel) (r : RenderRecord) (m : RenderMode) : Nat × Bool :=
  let p := r.prelim.getD 0
  match m with
  | .aOnly => (0, false)
  | .plain => (p, false)
  | .vectored =>
    if (r.b.bind fun b => (slotOf c b).table).any (·.cut) then
      (if p < 32 then 0 else 64, (if p < 32 then 0 else 64) ≠ p)
    else (p, false)

/-- The record becomes RENDERING with its mode and weight fixed (08/R140). -/
def startRender (r : RenderRecord) (m : RenderMode) (c : Channel) : Channel :=
  let (w, snapped) := finalWeight c r m
  let c1 := withRecord (some { r with state := .rendering, mode := some m, weight := some w }) c
  if snapped then count c1 .cutSnaps else c1

/-- A WAITING record begins if A is COMPLETE and it is ready (08/R134), or if its conceal point has been taken
(08/R135). A record past its conceal point that R134 has made A-only, its B named with weight 0, begins by R134, and
nothing is counted (DESIGN CHOICE, notes/assumptions/20). The beginning is a command of its own, after all that the command
brings which made the record ready (DESIGN CHOICE, notes/assumptions/63). -/
def beginRender (c : Channel) : Channel :=
  match c.ren.record with
  | some r =>
    if r.state = .waiting ∧ isComplete c r.a then
      match readyMode c r with
      | some m => startRender r m (if m = .plain then count c .unvectored else c)
      | none =>
        if r.concealed then
          match concealMode c r with
          | .plain => startRender r .plain (count c .unvectored)
          | m => startRender r m (count c .late)
        else c
    else c
  | none => c

/-- Station time reaches C(n): a record that needs or awaits B stops waiting for it (08/R135). -/
def takeConcealPoint (env : Env) (c : Channel) : Channel :=
  match c.ren.record with
  | some r =>
    if r.state = .waiting ∧ (needsB r ∨ awaitingB r) ∧ reached env.now r.conceal then
      beginRender (withRecord (some { r with concealed := true }) c)
    else c
  | none => c

/-! ## Disposal and abandonment (08/R141, R142) -/

def emptyBuffer (b : BufNo) (c : Channel) : Channel :=
  { c with port := { c.port with buffers := c.port.buffers.set b .empty } }

/-- At a scan start: a DONE record hands over its buffer, any other is an overrun (08/R141). -/
def disposeRecord (c : Channel) : Option BufNo × Channel :=
  match c.ren.record with
  | some r =>
    if r.state = .done then (some r.buffer, withRecord none c)
    else (none, sweep (count (emptyBuffer r.buffer (withRecord none c)) .overrun))
  | none => (none, c)

/-- A record WAITING or RENDERING is abandoned; a DONE one stays (08/R142). -/
def abandonRender (c : Channel) : Channel :=
  match c.ren.record with
  | some r =>
    if r.state = .done then c else count (emptyBuffer r.buffer (withRecord none c)) .renderAbandoned
  | none => c

end Sys2Proof.Machine
end

