-- ==== Sys2Proof/Machine/Sizer.lean ====
section
/-! DEFINITION. The picture a render writes: projection and blend (08/8.5), the sizer and the colour stage (09). -/

namespace Sys2Proof.Machine

/-! ## Placement, steps and tables (09/R145 to R147) -/

/-- The steps, wherever both the effective crop and the effective placement exist (09/R146). -/
def computeSteps (c : Channel) : Channel :=
  match c.int.crop, c.siz.placement with
  | some r, some p => { c with siz := { c.siz with
      vStep := some (r.lineCount * 65536 / p.lineCount), hStep := some (r.sampleCount * 65536 / p.sampleCount) } }
  | _, _ => c

/-- A table is accepted when each of its 64 phases sums to exactly 256 (09/R147). -/
def tableAccepted (t : FilterTable) : Bool := t.items.all fun p => p.items.sum = 256

/-- The table in force for a direction, and its replacement mark (09/R147). -/
def tableInForce (t : FilterTable) : FilterTable × Bool := if tableAccepted t then (t, false) else (bilinear, true)

/-- The effective placement, its flag, and the steps if the crop already stands (09/R145, R146). -/
def formPlacement (cfg : ChanConfig) (c : Channel) : Channel :=
  let st := standardOf cfg.target
  let (r, whole) := cutRect cfg.placement st.lines st.samples
  let c1 := { c with siz := { c.siz with placement := some r } }
  computeSteps (if whole then flag c1 .placementClamped else c1)

/-- The two tables in force, with one flag for both (09/R147). -/
def formTables (cfg : ChanConfig) (c : Channel) : Channel :=
  let (v, vr) := tableInForce cfg.vTable
  let (h, hr) := tableInForce cfg.hTable
  let c1 := { c with siz := { c.siz with vTable := v, hTable := h, vReplaced := vr, hReplaced := hr } }
  if vr || hr then flag c1 .filterReplaced else c1

/-- The configured colour values take effect at the entry into RUNNING (09/R157). -/
def takeColour (cfg : ChanConfig) (c : Channel) : Channel :=
  { c with siz := { c.siz with
      matrix := cfg.matrix, offsets := cfg.offsets, legal := cfg.legal, fillColour := cfg.fillColour } }

/-! ## Projection and blend (08/R136 to R139) -/

/-- The shifts on A's side and on B's (08/R137). -/
structure Shifts where
  ax : Int
  ay : Int
  bx : Int
  bY : Int
deriving DecidableEq, Repr

/-- One component of a vector on A's side: w·v/64, rounded half away (08/R137). -/
def project (w : Nat) (v : Int) : Int := roundHalfAway (w * v) 64

/-- The shifts of a valid vector for a weight (08/R137). -/
def shiftsOf (w : Nat) (v : Vec) : Shifts :=
  ⟨project w v.x, project w v.y, v.x - project w v.x, v.y - project w v.y⟩

/-- The record of the block that contains a crop position (08/R136). -/
def blockAt (t : VectorTable) (x y : Nat) : Option BlockRecord := t.records[y / 16 * t.columns + x / 16]?

/-- The shifts at a crop position: 0 without a table and where its block's record is invalid (08/R136). -/
def shiftsAt (w : Nat) (table : Option VectorTable) (x y : Nat) : Shifts :=
  match table.bind (blockAt · x y) with
  | some r => if r.valid then shiftsOf w r.vec else ⟨0, 0, 0, 0⟩
  | none => ⟨0, 0, 0, 0⟩

/-- The weighted mean of a sample of A and one of B; a side of weight 0 gives 0 (08/R139). -/
def blend (w : Nat) (a b : Int) : Int := ((64 - (w : Int)) * a + w * b + 32) / 64

/-- What a render reads, fixed when it begins (08/R140, 09/R155). `b` and `table` are none where they are not read. -/
structure Sources where
  crop : Rect
  weight : Nat
  a : Planes
  b : Option Planes
  table : Option VectorTable

/-- A luma sample of a finished frame at clamped crop coordinates (08/R139). -/
def lumaAt (crop : Rect) (p : Planes) (x y : Int) : Int :=
  (readAt p.y (crop.firstLine + clampIx crop.lineCount y) (crop.firstSample + clampIx crop.sampleCount x)).toNat

/-- A chroma sample at a clamped chroma index and crop line (08/R139). -/
def chromaAt (crop : Rect) (p : Plane) (c y : Int) : Int :=
  (readAt p (crop.firstLine + clampIx crop.lineCount y)
    (crop.firstSample + 2 * clampIx (crop.sampleCount / 2) c)).toNat

/-- I(x, y) in luma (08/R139). -/
def blendLuma (r : Sources) (x y : Nat) : Int :=
  let s := shiftsAt r.weight r.table x y
  blend r.weight (lumaAt r.crop r.a (x - s.ax) (y - s.ay))
    (match r.b with | some p => lumaAt r.crop p (x + s.bx) (y + s.bY) | none => 0)

/-- I at chroma index `c` of crop line `y`, for the plane that `pick` names (08/R138, R139). -/
def blendChroma (r : Sources) (pick : Planes → Plane) (c y : Nat) : Int :=
  let s := shiftsAt r.weight r.table (2 * c) y
  blend r.weight (chromaAt r.crop (pick r.a) (c - truncHalf s.ax) (y - s.ay))
    (match r.b with | some p => chromaAt r.crop (pick p) (c + truncHalf s.bx) (y + s.bY) | none => 0)

/-! ## Positions, phases and passes (09/R149 to R151) -/

/-- Tap base and phase of a position (09/R149). -/
def tapBase (pos : Nat) : Nat := pos / 65536
def tapPhase (pos : Nat) : Fin 64 := Fin.ofNat 64 (pos % 65536 / 1024)

/-- One pass at a position over `n` lines or samples: four taps clamped to the crop, floor of a 256th, the result clamped
to 0 to 1023 (09/R149, R150). -/
def filterAt (t : FilterTable) (pos n : Nat) (source : Nat → Int) : Int :=
  let k := t.get (tapPhase pos)
  let l : Int := tapBase pos
  let tap := fun i : Int => source (clampIx n (l + i))
  clampInt 0 1023 ((k.get 0 * tap (-1) + k.get 1 * tap 0 + k.get 2 * tap 1 + k.get 3 * tap 2 + 128) / 256)

/-- The vertical pass, then the horizontal pass (09/R150, R151): `wide` is the crop's count of samples or chroma indices,
`row` and `col` the placement line index and the placement sample or chroma index. -/
def sized (z : Sizer) (vStep hStep : Nat) (crop : Rect) (wide row col : Nat) (source : Nat → Nat → Int) : Int :=
  filterAt z.hTable (col * hStep) wide fun x =>
    filterAt z.vTable (row * vStep) crop.lineCount fun y => source x y

/-! ## The colour stage (09/R152 to R154) -/

/-- One row of the matrix on a sized Y, Cb and Cr (09/R152, R153). -/
def matrixRow (z : Sizer) (a b c : Fin 9) (y cb cr : Int) : Int :=
  (z.matrix.get a * (y - 64) + z.matrix.get b * (cb - 512) + z.matrix.get c * (cr - 512) + 512) / 1024

def colourY (z : Sizer) (y cb cr : Int) : Int := matrixRow z 0 1 2 y cb cr + 64 + z.offsets.get 0
def colourCb (z : Sizer) (y cb cr : Int) : Int := matrixRow z 3 4 5 y cb cr + 512 + z.offsets.get 1
def colourCr (z : Sizer) (y cb cr : Int) : Int := matrixRow z 6 7 8 y cb cr + 512 + z.offsets.get 2

/-- 4 to 1019, and the legal range up to `top` while the legal clip is on (09/R154). -/
def rangeClamp (z : Sizer) (top : Int) (v : Int) : Sample :=
  let v1 := clampInt 4 1019 v
  BitVec.ofNat 10 (if z.legal then clampInt 64 top v1 else v1).toNat

def clampLuma (z : Sizer) (v : Int) : Sample := rangeClamp z 940 v
def clampChroma (z : Sizer) (v : Int) : Sample := rangeClamp z 960 v

/-! ## The output picture (09/R148) -/

/-- The raster lines of a picture: all of them, or those of its field parity (09/R148). -/
def pictureLines (target : StdCode) (parity : Parity) : List Nat :=
  let st := standardOf target
  if st.interlaced then (List.range (st.lines / 2)).map (fun i => 2 * i + parity.val) else List.range st.lines

/-- The sized Y at a placement position, and the sized Cb and Cr at its even position. -/
def sizedY (z : Sizer) (vStep hStep : Nat) (r : Sources) (row col : Nat) : Int :=
  sized z vStep hStep r.crop r.crop.sampleCount row col (blendLuma r)
def sizedChroma (z : Sizer) (vStep hStep : Nat) (r : Sources) (pick : Planes → Plane) (row c : Nat) : Int :=
  sized z vStep hStep r.crop (r.crop.sampleCount / 2) row c (blendChroma r pick)

/-- The luma value of a raster position (09/R148, R152, R154). -/
def rasterY (z : Sizer) (place : Rect) (vStep hStep : Nat) (r : Sources) (line x : Nat) : Sample :=
  if inRect place line x then
    let row := line - place.firstLine
    let col := x - place.firstSample
    clampLuma z (colourY z (sizedY z vStep hStep r row col) (sizedChroma z vStep hStep r (·.cb) row (col / 2))
      (sizedChroma z vStep hStep r (·.cr) row (col / 2)))
  else clampLuma z z.fillColour.y

/-- A chroma value of an even raster position (09/R148, R153, R154). -/
def rasterC (z : Sizer) (place : Rect) (vStep hStep : Nat) (r : Sources) (colour : Sizer → Int → Int → Int → Int)
    (fill : Nat) (line x : Nat) : Sample :=
  if inRect place line x then
    let row := line - place.firstLine
    let col := x - place.firstSample
    clampChroma z (colour z (sizedY z vStep hStep r row col) (sizedChroma z vStep hStep r (·.cb) row (col / 2))
      (sizedChroma z vStep hStep r (·.cr) row (col / 2)))
  else clampChroma z fill

/-- A plane over the given lines, from a value for each position; every value a render writes is at least 4. -/
def rasterPlane (lines positions : List Nat) (value : Nat → Nat → Sample) : Plane :=
  ⟨lines.flatMap fun l => positions.map fun x => (place l x, value l x)⟩

/-- The whole output picture of a render (09/R148). -/
def rasterPicture (z : Sizer) (target : StdCode) (parity : Parity) (pl : Rect) (vStep hStep : Nat) (r : Sources) :
    Planes :=
  let lines := pictureLines target parity
  let n := (standardOf target).samples
  let even := (List.range (n / 2)).map (2 * ·)
  { y := rasterPlane lines (List.range n) (rasterY z pl vStep hStep r)
    cb := rasterPlane lines even (rasterC z pl vStep hStep r colourCb z.fillColour.cb)
    cr := rasterPlane lines even (rasterC z pl vStep hStep r colourCr z.fillColour.cr) }

/-- What the record's render reads, in its mode and weight (08/R136, R139, R140). -/
def sourcesOf (c : Channel) (crop : Rect) (r : RenderRecord) : Sources :=
  let w := r.weight.getD 0
  { crop, weight := w, a := (slotOf c r.a).planes
    b := if w = 0 then none else r.b.map fun i => (slotOf c i).planes
    table := if r.mode = some .vectored then r.b.bind fun i => (slotOf c i).table else none }

/-- The parity of the picture announced after the one in scan (10/R158, 09/R148). -/
def nextParity (target : StdCode) (p : Port) : Parity :=
  if (standardOf target).interlaced then otherParity p.parity else p.parity

/-- The picture of a render: none where no crop, placement or step exists, in which case no render begins (09/R146). -/
def renderedPicture (target : StdCode) (c : Channel) (r : RenderRecord) : Option Planes :=
  match c.int.crop, c.siz.placement, c.siz.vStep, c.siz.hStep with
  | some crop, some pl, some v, some h =>
    some (rasterPicture c.siz target (nextParity target c.port) pl v h (sourcesOf c crop r))
  | _, _, _, _ => none

/-- The render completes: DONE, its samples stored, marks released and applied, RENDERS counted, the buffer offered
(08/R140). The buffer is marked RENDERED where a scan start takes it (10/R165). -/
def completeRender (target : StdCode) (c : Channel) : Channel :=
  match c.ren.record with
  | some r =>
    if r.state = .rendering then
      let picture := (renderedPicture target c r).getD .empty
      let buffers := c.port.buffers.modify r.buffer fun x => { x with planes := picture }
      let c1 := withRecord (some { r with state := .done }) { c with port := { c.port with buffers } }
      count (sweep c1) .renders
    else c
  | none => c

end Sys2Proof.Machine
end

