-- ==== Sys2Proof/Machine/Intake.lean ====
section
/-! DEFINITION. Intake Unit: the window, adoption, admission, opening, lines, closing, commits, finishing, flush and
stall (05), with the stamps of the timeline rebase (04/R68). -/

namespace Sys2Proof.Machine

/-! ## The window (05/R70) -/

/-- A record of the window: of the channel's feed, and from the selected copy by its origin, station and index. -/
def ofWindow (env : Env) (c : Channel) (via : Origin) (station : StationNo) (pub : PubIx) (feed : FeedNo) : Bool :=
  match c.int.aim with
  | none => false
  | some q =>
    env.cfg.feed = some feed && q.origin = via && q.pub = pub
      && (match via with | .lane _ => q.station = station | .internal => true)

/-! ## Adoption and flush (05/R71, R78, R89) -/

/-- The Render Engine's part of a flush is R142's, the estimator's R123's, the detector's R109's. -/
def flush (now : Time) (c : Channel) : Channel :=
  let c1 := abandonJobs (abandonRender c)
  let c2 := { c1 with int := { c1.int with
    slots := Bank.fill 12 .empty, committed := [], history := [], openSlot := none, refused := none, retireRef := none
    newest := none, lastClosed := none, lastCommitted := none, pEst := (standardOf c1.int.standard).rawPeriod
    lastCommitTime := some now, stallMark := false } }
  count (cadenceToVideo c2) .flushes

/-- The intake adopts a source standard: crop, P_est, hunted set, D_eff and steps follow (05/R71, R78, 06/R93, 08/R126,
09/R146). -/
def adopt (env : Env) (code : StdCode) (c : Channel) : Channel :=
  let st := standardOf code
  let (crop, whole) := cutRect env.cfg.crop st.lines st.samples
  let c1 := { c with
    int := { c.int with standard := code, crop := some crop, pEst := st.rawPeriod }
    cad := formHunted env.cfg.cadenceEnable code c.cad }
  computeSteps (computeDelay env.cfg (if whole then flag c1 .windowClamped else c1))

/-- A standard change: flush, adoption, flag and count (05/R72 step 2, 04/R65). The report to the Channel Supervisor is
the caller's. -/
def changeStandard (env : Env) (code : StdCode) (c : Channel) : Channel :=
  countFlag (adopt env code (flush env.now c)) .standardChange .standardChange

/-! ## The field history and what finishing reads (05/R83, R85) -/

/-- A history entry that is a field of a parity and of a switch count (05/R83). -/
def fieldEntry (c : Channel) (e : Option HistoryEntry) (p : Parity) (sw : BitVec 8) : Option HistoryEntry := do
  let h ← e
  let r ← rawOf c h
  if parityOf r.kind = some p ∧ r.switchCount = sw then some h else none

/-- The previous field and the field two back of a field committed now (05/R83). -/
def deinterlacePlan (c : Channel) (k : RawPicture) : Finish :=
  match parityOf k.kind with
  | some p =>
    .deinterlace (fieldEntry c c.int.history[0]? (otherParity p) k.switchCount)
      (fieldEntry c c.int.history[1]? p k.switchCount)
  | none => .weave

/-- The finishing of a slot by what it holds (05/R82): none for a frame, which is COMPLETE at its commit. -/
def finishPlan (c : Channel) (s : Slot) : Option Finish :=
  match s.raws with
  | [k] => if k.kind = .frame then none else some (deinterlacePlan c k)
  | _ => some .weave

/-- The closed raw picture becomes the newest of the two entries (05/R85). -/
def advanceHistory (i : SlotNo) (ix : Nat) (c : Channel) : Channel :=
  { c with int := { c.int with history := (⟨i, ix⟩ :: c.int.history).take 2 } }

/-! ## Commit (05/R80) -/

/-- The later of a stamp held and another. -/
def laterOf (held : Option Time) (t : Time) : Time :=
  match held with
  | some h => if later h t then h else t
  | none => t

/-- Commit a slot with a stamp, or refuse it where the stamp is not later than the last committed (05/R80). At step 6 the
Motion Estimator is told before the Render Engine (07/R113; DESIGN CHOICE, notes/assumptions/49), and a job that the new
entry lets start begins by its own command, after what the commit lets retire (07/R115; DESIGN CHOICE, notes/assumptions/63). -/
def commit (env : Env) (i : SlotNo) (stamp : Time) (plan : Option Finish) (c : Channel) : Channel :=
  if c.int.lastCommitted.any (fun t => !later stamp t) then
    count (onSlot i (fun s => { s with state := .history }) c) .stampOrder
  else
    let before := c.int.committed
    let c1 := onSlot i (fun s => { s with
      committed := some stamp, state := if plan.isNone then .complete else .finishing, finish := plan }) c
    let c2 := { c1 with int := { c1.int with
      committed := before ++ [i], lastCommitted := some stamp, newest := some (laterOf c1.int.newest stamp)
      lastCommitTime := some env.now, stallMark := false } }
    noteCommit i (pairUp before i (count c2 .committed))

/-- The slot waiting in PAIRING, if any. -/
def pairingSlot (c : Channel) : Option SlotNo := slotNumbers.find? fun i => (slotOf c i).state = .pairing

/-- A waiting field's pairing is abandoned: committed as VIDEO and finished with no field two back (05/R81). -/
def abandonPairing (env : Env) (i : SlotNo) (c : Channel) : Channel :=
  match (slotOf c i).raws with
  | k :: _ => sweep (commit env i k.stamp (some (.deinterlace none none)) (count c .pairAbandoned))
  | [] => c

/-! ## Closing (05/R76 to R79) -/

/-- A line is present when every co-sited pair of the crop's samples has been received (05/R77). -/
def linePresent (received : List Nat) (crop : Rect) (l : Nat) : Bool :=
  (pairPositions crop).all fun x => pairKey l x ∈ received

/-- The nearest present line above a line, or below it where none stands above (05/R77). -/
def fillFrom (present : List Nat) (l : Nat) : Option Nat :=
  match (present.filter (· < l)).getLast? with
  | some a => some a
  | none => (present.filter (l < ·)).head?

/-- Copy a crop line, luma and chroma. -/
def copyLine (crop : Rect) (src dst : Nat) (p : Planes) : Planes :=
  (pairPositions crop).foldl (fun q x => writeGroup q dst x (readGroup p src x)) p

/-- The missing-line fill (05/R77). -/
def fillMissing (crop : Rect) (present missing : List Nat) (p : Planes) : Planes :=
  missing.foldl (fun q l => match fillFrom present l with
    | some src => copyLine crop src l q
    | none => q) p

/-- The band that holds P_est about the nominal period (05/R78). -/
def holdPeriod (nominal : Nat) (x : Int) : Nat :=
  (clampInt ((nominal : Int) - (nominal / 16384 : Nat)) (nominal + (nominal / 16384 : Nat)) x).toNat

/-- P_est and the last closed stamp at a close (05/R78). -/
def updatePeriod (stamp : Time) (c : Channel) : Channel :=
  let nominal := (standardOf c.int.standard).rawPeriod
  let p := match c.int.lastClosed with
    | some t =>
      let d := sdiff stamp t
      if d ≤ 2 * (nominal : Int) then
        holdPeriod nominal (c.int.pEst + roundHalfAway (d - c.int.pEst) 16)
      else c.int.pEst
    | none => c.int.pEst
  { c with int := { c.int with pEst := p, lastClosed := some stamp } }

/-- A raw picture of which no line is present (05/R77, 06/R107). -/
def closeEmpty (env : Env) (i : SlotNo) (k : RawPicture) (c : Channel) : Channel :=
  let c1 := count c .emptyPicture
  let c2 := match (slotOf c i).raws with
    | first :: _ :: _ => abandonPairing env i (onSlot i (fun s => { s with raws := [first], state := .pairing }) c1)
    | _ => onSlot i (fun _ => .empty) c1
  { c2 with cad := emptyClosed c2.cad k.stamp }

/-- The intake's action on a ruling (05/R79, R80). -/
def actOn (env : Env) (i : SlotNo) (ruling : Ruling) (c : Channel) : Channel :=
  match ruling with
  | .video stamp => commit env i stamp (finishPlan c (slotOf c i)) c
  | .pairFirst => onSlot i (fun s => { s with state := .pairing }) c
  | .pairSecond stamp => commit env i stamp (some .weave) c
  | .repeated => count (onSlot i (fun s => { s with state := .history }) c) .repeatsRemoved

/-- Measures and flags of a closing raw picture, stored with its entry (06/R94 to R98, 05/R79). -/
def measure (env : Env) (crop : Rect) (i : SlotNo) (k : RawPicture) (c : Channel) :
    RepeatFlag × CombFlag × Channel :=
  let m := repeatMeasure c crop i k
  let cm := combMeasure c crop i k
  let d := pushComb (pushRepeat c.cad m) cm
  let rf := repeatFlagOf env.cfg.repeatThreshold d.repeats
  let cf := combFlagOf env.cfg.combThreshold rf cm
  let ix := (slotOf c i).raws.length - 1
  (rf, cf, onSlot i (fun s => { s with raws := s.raws.modify ix fun r => { r with flags := some (rf, cf) } })
    { c with cad := d })

/-- Step 3 of a close: measurement, ruling and action, then what follows the ruling in the detector (06/R103, R106;
DEDUCED, notes/assumptions/17). A commit by the raw picture that breaks a lock comes before the mode becomes VIDEO, so its
gap rule reads P_commit of the old mode (08/R130, R132; DESIGN CHOICE, notes/assumptions/55). -/
def judge (env : Env) (crop : Rect) (i : SlotNo) (k : RawPicture) (c : Channel) : Channel :=
  let (rf, cf, c1) := measure env crop i k c
  let st := cadenceStep c1.cad rf cf k.stamp c1.int.pEst ((slotOf c1 i).raws.length = 1)
  let c2 := { c1 with cad := st.cad }
  let c3 := if st.lockedNow then countFlag c2 .cadenceLocks .cadenceChange else c2
  let c4 := actOn env i st.ruling c3
  let c5 := if st.broke then countFlag { c4 with cad := endLock c4.cad } .cadenceBreaks .cadenceChange else c4
  { c5 with cad := newPending env.cfg.lockCycles c5.cad }

/-- Close the open raw picture (05/R76). -/
def closeOpen (env : Env) (c : Channel) : Channel :=
  match c.int.openSlot, c.int.crop with
  | some i, some crop =>
    let c0 := { c with int := { c.int with openSlot := none } }
    match (slotOf c i).raws.getLast? with
    | none => c0
    | some k =>
      let lines := ownLines crop k.kind
      let present := lines.filter (linePresent (slotOf c i).received crop)
      let missing := lines.filter fun l => !linePresent (slotOf c i).received crop l
      if present = [] then closeEmpty env i k c0
      else
        let c1 := onSlot i (fun s => { s with
          planes := fillMissing crop present missing s.planes, missing := s.missing + missing.length }) c0
        let c2 := updatePeriod k.stamp (countMany c1 .missingLine missing.length)
        let ix := (slotOf c2 i).raws.length - 1
        sweep (advanceHistory i ix (judge env crop i k c2))
  | _, _ => c

/-! ## Stamps (04/R68) -/

/-- The rebase moves toward 0 by the lesser of its magnitude and its step (04/R68). -/
def slew (rebase : Int) (step : Nat) : Int :=
  if rebase < 0 then rebase + min rebase.natAbs step else rebase - min rebase.natAbs step

/-- The stamp a record of the window is given, and the Copy Selector and counter after it (04/R68). -/
def giveStamp (mapped : Time) (c : Channel) : Time × Channel :=
  let q := c.csl
  let settleAt := fun (rebase : Int) (step : Nat) =>
    { c with csl := { q with rebase := slew rebase step, rebaseStep := step, rebasePending := false } }
  if q.rebasePending then
    match c.int.newest with
    | some n =>
      let stamp := shift n c.int.pEst
      let rebase := sdiff stamp mapped
      let c1 := settleAt rebase (c.int.pEst / 64)
      (stamp, if rebase = 0 then c1 else count c1 .rebased)
    | none => (mapped, settleAt 0 0)
  else (shift mapped q.rebase, { c with csl := { q with rebase := slew q.rebase q.rebaseStep } })

/-! ## Opening (05/R73, R74) -/

/-- The slot takes the new raw picture as its open one (05/R73). -/
def nowOpen (i : SlotNo) (stamp : Time) (c : Channel) : Channel :=
  { c with int := { c.int with openSlot := some i, newest := some stamp, refused := none } }

/-- A second field joins its partner's slot; the map of its own lines is emptied (05/R73). -/
def joinPartner (i : SlotNo) (k : RawPicture) (c : Channel) : Channel :=
  nowOpen i k.stamp (onSlot i (fun s => { s with
    state := .filling, raws := s.raws ++ [k]
    received := s.received.filter fun key => some (Fin.ofNat 2 (key / 1024 % 2)) ≠ parityOf k.kind }) c)

/-- A raw picture opened in an own slot, or dropped where no slot is recyclable (05/R73, R74). -/
def openOwn (k : RawPicture) (c : Channel) : Channel :=
  match takeSlot c with
  | some (i, c1) => nowOpen i k.stamp (onSlot i (fun _ => { Slot.empty with state := .filling, raws := [k] }) c1)
  | none => count { c with int := { c.int with refused := some k.sequence } } .ringFull

/-- Whether the field waiting in a slot is of the parity opposite to a new one (05/R73). -/
def waitsFor (c : Channel) (i : SlotNo) (k : RawPicture) : Bool :=
  match (slotOf c i).raws.head?.bind (fun r => parityOf r.kind), parityOf k.kind with
  | some p, some q => p ≠ q
  | _, _ => false

/-- Placement and opening of a raw picture (05/R73). -/
def openPicture (env : Env) (k : RawPicture) (c : Channel) : Channel :=
  match pairingSlot c with
  | some i =>
    if placesWithPartner c.cad ∧ waitsFor c i k then joinPartner i k c else openOwn k (abandonPairing env i c)
  | none => openOwn k c

/-! ## Admission (05/R72) -/

def refuse (seq : BitVec 8) (c : Channel) : Channel := { c with int := { c.int with refused := some seq } }

/-- Whether an admitted record brings a standard change (05/R72, step 2). -/
def bringsChange (p : PictureRecord) (c : Channel) : Bool := kindFits p.standard p.kind && p.standard ≠ c.int.standard

/-- Steps 3 to 5 of 05/R72. -/
def closeStampOpen (env : Env) (mapped : Time) (p : PictureRecord) (c : Channel) : Channel :=
  let c1 := closeOpen env c
  let (stamp, c2) := giveStamp mapped c1
  if c2.int.newest.any (fun n => !later stamp n) then count (refuse p.sequence c2) .stampOrder
  else openPicture env ⟨p.kind, p.sequence, stamp, c2.int.switchCount, none⟩ c2

/-- A PICTURE record of the window (05/R72); at the admission of an internal copy's record the source generation takes
its generation field (04/R64). -/
def takePicture (env : Env) (mapped : Time) (via : Origin) (p : PictureRecord) (c : Channel) : Channel :=
  if !kindFits p.standard p.kind then count (refuse p.sequence c) .kindMismatch
  else
    let c1 := count (match via with
      | .internal => { c with csl := { c.csl with sourceGeneration := p.generation } }
      | .lane _ => c) .picturesAdmitted
    closeStampOpen env mapped p (if p.standard ≠ c1.int.standard then changeStandard env p.standard c1 else c1)

/-! ## Lines (05/R75) -/

/-- The frame line of a line number of a raw picture (05/R75). -/
def frameLine (k : Kind) (line : Nat) : Nat :=
  match parityOf k with
  | some p => 2 * line + p.val
  | none => line

/-- Write the groups of a LINES record from a luma position on, inside the crop only (05/R75). -/
def writeGroups (crop : Rect) (f : Nat) : List SampleGroup → Nat → Slot → Slot
  | [], _, s => s
  | g :: rest, x, s =>
    writeGroups crop f rest (x + 2)
      (if inRect crop f x then { s with planes := writeGroup s.planes f x g, received := insertKey s.received (pairKey f x) }
       else s)

/-- A LINES record of the window (05/R75). -/
def takeLines (env : Env) (r : LinesRecord) (c : Channel) : Channel :=
  let dropped := if c.int.refused = some r.sequence then c else count c .stray
  match c.int.openSlot, c.int.crop with
  | some i, some crop =>
    match (slotOf c i).raws.getLast? with
    | some k =>
      if k.sequence = r.sequence then
        let c1 := onSlot i (writeGroups crop (frameLine k.kind r.line) r.groups r.first) c
        if r.last then closeOpen env c1 else c1
      else dropped
    | none => dropped
  | _, _ => dropped

/-! ## Finishing (05/R82 to R84) -/

/-- The field lines of an 8 × 8 block that the still test compares, and its positions (05/R83). -/
def blockLines (crop : Rect) (p : Parity) (row : Nat) : List Nat :=
  (span (crop.firstLine + 8 * row) 8).filter fun l => l < crop.firstLine + crop.lineCount ∧ l % 2 = p.val
def blockSamples (crop : Rect) (col : Nat) : List Nat :=
  (span (crop.firstSample + 8 * col) 8).filter fun x => x < crop.firstSample + crop.sampleCount

/-- A block is still when its differences from the field two back stay within the threshold (05/R83). -/
def blockStill (threshold : Nat) (crop : Rect) (p : Parity) (own back : Planes) (row col : Nat) : Bool :=
  let ls := blockLines crop p row
  let xs := blockSamples crop col
  (ls.map fun l => (xs.map fun x => absDiff (luma own l x) (luma back l x)).sum).sum ≤ threshold * (ls.length * xs.length)

/-- floor((a + b + 1)/2) of two samples (05/R84). -/
def meanSample (a b : Sample) : Sample := BitVec.ofNat 10 ((a.toNat + b.toNat + 1) / 2)

/-- Intra interpolation of a pair of positions on a missing line (05/R84). -/
def intraGroup (crop : Rect) (p : Planes) (f x : Nat) : SampleGroup :=
  let above := if crop.firstLine < f then f - 1 else f + 1
  let below := if f + 1 < crop.firstLine + crop.lineCount then f + 1 else f - 1
  let a := readGroup p above x
  let b := readGroup p below x
  ⟨meanSample a.cb b.cb, meanSample a.y0 b.y0, meanSample a.cr b.cr, meanSample a.y1 b.y1⟩

/-- The samples of one pair of positions of a missing line (05/R83, R84). -/
def deinterlaceGroup (threshold : Nat) (crop : Rect) (p : Parity) (own : Planes) (previous back : Option Planes)
    (f x : Nat) : SampleGroup :=
  match previous, back with
  | some prev, some bk =>
    if blockStill threshold crop p own bk ((f - crop.firstLine) / 8) ((x - crop.firstSample) / 8) then readGroup prev f x
    else intraGroup crop own f x
  | _, _ => intraGroup crop own f x

/-- The finished frame of an interlaced field: only lines of the other parity are written (05/R82 to R84). -/
def deinterlace (threshold : Nat) (crop : Rect) (p : Parity) (own : Planes) (previous back : Option Planes) : Planes :=
  let lines := (rectLines crop).filter fun l => l % 2 ≠ p.val
  lines.foldl (fun q f => (pairPositions crop).foldl (fun q x =>
    writeGroup q f x (deinterlaceGroup threshold crop p own previous back f x)) q) own

/-- The samples of a slot when its finish ends (05/R82). -/
def finishedPlanes (env : Env) (c : Channel) (s : Slot) : Planes :=
  match s.finish, c.int.crop, s.raws.head?.bind (fun k => parityOf k.kind) with
  | some (.deinterlace previous back), some crop, some p =>
    deinterlace env.cfg.stillThreshold crop p s.planes (previous.map fun e => (slotOf c e.slot).planes)
      (back.map fun e => (slotOf c e.slot).planes)
  | _, _, _ => s.planes

/-- The finish of a FINISHING slot ends: COMPLETE, and its finish marks released and applied (05/R82). -/
def finishSlot (env : Env) (i : SlotNo) (c : Channel) : Channel :=
  if (slotOf c i).state = .finishing then
    sweep (onSlot i (fun s => { s with state := .complete, finish := none, planes := finishedPlanes env c s }) c)
  else c

/-! ## Stall (05/R90) -/

/-- States in which the intake watches for a stall (05/R90), which are also those in which a channel selects (04/R53).
-/
def activeState (s : ChannelState) : Bool :=
  match s with
  | .acquiring | .converting | .holdover | .safe => true
  | .idle | .latched => false

/-- The stall deadline has been reached with the mark clear (05/R90). -/
def stallDue (env : Env) (c : Channel) : Bool :=
  activeState c.sup.state && c.int.standard ≠ 0 && !c.int.stallMark
    && c.int.lastCommitTime.any fun t => reached env.now (shift t (3 * pCommit c.cad.mode c.int.pEst : Nat))

/-- The stall is counted and marked; the Channel Supervisor is told by the caller (05/R90). -/
def noteStall (c : Channel) : Channel := count { c with int := { c.int with stallMark := true } } .stall

end Sys2Proof.Machine
end

