-- ==== Sys2Proof/Machine/Selector.lean ====
section
/-! DEFINITION. Copy Selector: candidates, eligibility, order, the choice, the revert candidate, calls and the switch (04). -/

namespace Sys2Proof.Machine

/-! ## The station's own publishables, as configured (03/R36) -/

/-- The channel whose output a publishable is; none for the station's ingest. -/
def outputChan (p : PubIx) : Option Chan := if p = 0 then none else if p = 1 then some 0 else some 1

def pubFeedOf (g : StationConfig) (p : PubIx) : Option FeedNo :=
  match outputChan p with
  | none => g.ingestFeed
  | some k => (g.chans.get k).outFeed

def pubRankOf (g : StationConfig) (p : PubIx) : Rank :=
  match outputChan p with
  | none => g.ingestRank
  | some k => (g.chans.get k).outRank

def pubPublishOf (g : StationConfig) (p : PubIx) : Bool :=
  match outputChan p with
  | none => g.ingestPublish
  | some k => (g.chans.get k).outPublish

/-! ## Candidates (04/R54) -/

/-- A copy as it is offered at an instant. A lane that carries no station yet offers copies of no station, and a station
that has never run has no number, and neither feed nor rank for its own copies (12/R195, R200). -/
structure Candidate where
  origin : Origin
  station : Option StationNo
  pub : PubIx
  feed : Option FeedNo
  rank : Option Rank
  status : PubStatus
  generation : Gen
  standard : StdCode
deriving DecidableEq, Repr

/-- The copy a candidate offers, once its station is known. -/
def copyOf (d : Candidate) : Option Copy := d.station.map fun n => ⟨d.origin, n, d.pub⟩

/-- An internal candidate: a publishable of the station itself (04/R54). -/
def internalCandidate (s : State) (p : PubIx) : Candidate :=
  let a := s.pub.adverts.get p
  ⟨.internal, ownNumber s, p, s.config.bind (pubFeedOf · p), s.config.map (pubRankOf · p), a.status, a.generation,
    a.standard⟩

/-- A lane candidate: a publication entry of a lane (04/R54). -/
def laneCandidate (s : State) (l : LaneNo) (p : PubIx) : Candidate :=
  let e := (lane s l).entry
  let x := e.entries.get p
  ⟨.lane l, e.station, p, x.feed, some x.rank, x.status, x.generation, x.standard⟩

/-- The two internal copies and the three of each lane (04/R54). -/
def candidates (s : State) (k : Chan) : List Candidate :=
  [internalCandidate s 0, internalCandidate s (outputOf (otherChan k))]
  ++ (List.finRange 7).flatMap fun l => (List.finRange 3).map fun p => laneCandidate s l p

/-! ## Eligibility (04/R55) -/

/-- A lane copy on the pass-over list; an entry matches only the lane it names (04/R63). -/
def passedOver (c : Channel) (d : Candidate) : Bool :=
  match d.origin with
  | .lane l => c.csl.passOver.any fun e => e.lane = l && e.pub = d.pub && some e.station = d.station
  | .internal => false

def laneLive (s : State) (l : LaneNo) : Bool := (lane s l).entry.state = .live

/-- The conditions of 04/R55; condition 7 holds of every candidate of 04/R54. -/
def eligible (s : State) (k : Chan) (d : Candidate) : Bool :=
  ((chanConfig s k).bind (·.feed)).isSome && d.feed = (chanConfig s k).bind (·.feed)
    && (match d.origin with | .lane l => laneLive s l | .internal => true)
    && (d.status = .available || d.status = .sending || d.status = .deferred)
    && d.generation ≠ 3 && d.standard ≠ 0 && !passedOver (chan s k) d && d.station.isSome

/-! ## Order (04/R56) -/

/-- The rank of a candidate as the order reads it; an eligible one has a rank. -/
def rankOf (d : Candidate) : Nat := (d.rank.map (·.val)).getD 0

/-- The keys of the order, the first that differs deciding. -/
def orderKeys (d : Candidate) : List Nat :=
  [rankOf d, (match d.origin with | .internal => 0 | .lane _ => 1), (d.station.map (·.val)).getD 0,
    (match d.origin with | .internal => 0 | .lane l => l.val), d.pub.val]

def keysBefore : List Nat → List Nat → Bool
  | a :: as, b :: bs => a < b || (a = b && keysBefore as bs)
  | _, _ => false

def betterCandidate (d e : Candidate) : Bool := keysBefore (orderKeys d) (orderKeys e)

/-- The first of the candidates in the order of 04/R56. -/
def bestOf : List Candidate → Option Candidate
  | [] => none
  | d :: rest => match bestOf rest with
    | some e => some (if betterCandidate e d then e else d)
    | none => some d

def eligibles (s : State) (k : Chan) : List Candidate := (candidates s k).filter (eligible s k)

/-- The eligible candidate that offers a copy. -/
def offering (s : State) (k : Chan) (q : Copy) : Option Candidate :=
  (eligibles s k).find? fun d => copyOf d = some q

def isEligible (s : State) (k : Chan) (q : Copy) : Bool := (offering s k q).isSome

/-! ## The choice (04/R57, R59) -/

/-- The automatic choice (04/R57). -/
def autoChoice (s : State) (k : Chan) : Option Copy :=
  match (chan s k).csl.selection with
  | some q => if isEligible s k q then some q else (bestOf (eligibles s k)).bind copyOf
  | none => (bestOf (eligibles s k)).bind copyOf

/-- A forced copy while it is eligible, and otherwise the automatic choice (04/R57, R59). -/
def choice (s : State) (k : Chan) : Option Copy :=
  match (chan s k).csl.forced with
  | some f => if isEligible s k f then some f else autoChoice s k
  | none => autoChoice s k

/-! ## The revert candidate (04/R58) -/

/-- The first eligible copy ranked strictly better than the selection (04/R58). -/
def revertTarget (s : State) (k : Chan) (q : Copy) : Option Copy :=
  match offering s k q with
  | some cur => (bestOf ((eligibles s k).filter fun d => rankOf d < rankOf cur)).bind copyOf
  | none => none

/-- The revert candidate after a re-judgement (04/R58). -/
def revertAfter (s : State) (k : Chan) : Option (Copy × Time) :=
  let q := (chan s k).csl
  let hold := ((chanConfig s k).map (·.revertSeconds)).getD 0
  match q.selection with
  | some sel =>
    if hold = 0 ∨ q.forced = some sel then none
    else match revertTarget s k sel with
      | some t => if q.revert.map (·.1) = some t then q.revert else some (t, s.now)
      | none => none
  | none => none

def updateRevert (k : Chan) (s : State) : State :=
  onChan k (fun c => { c with csl := { c.csl with revert := revertAfter s k } }) s

/-! ## Calls (04/R60, R61) -/

/-- Whether a selection keeps up the demand for a (target, feed) pair (04/R61). -/
def keepsDemand (s : State) (k : Chan) (sel : Option Copy) (target : StationNo) (feed : FeedNo) : Bool :=
  match sel with
  | some q => q.origin ≠ .internal && q.station = target && (chanConfig s k).bind (·.feed) = some feed
  | none => false

/-- The release of a lane copy that ceases to be the selection (04/R61); whether it is offered is decided once both
channels have re-judged. -/
def releaseCall (s : State) (k : Chan) : List Call :=
  match (chan s k).csl.selection, (chan s k).csl.callTarget, (chanConfig s k).bind (·.feed) with
  | some q, some target, some feed => if q.origin = .internal then [] else [⟨target, feed, 0⟩]
  | _, _, _ => []

/-- The calls a channel has offered at an instant, but for releases of a demand that the other channel's selection keeps
up as it stands once both have re-judged (04/R61). A call of duration 0 is a release (01/R13, 04/R61). -/
def standingCalls (s : State) (k : Chan) (calls : List Call) : List Call :=
  calls.filter fun c =>
    !(c.duration = 0 && keepsDemand s (otherChan k) (chan s (otherChan k)).csl.selection c.target c.feed)

/-- The call for a lane copy that is or becomes the selection (04/R60). -/
def requestCall (s : State) (k : Chan) (q : Option Copy) : List Call :=
  match q, chanConfig s k with
  | some q, some g => match q.origin, g.feed with
    | .lane _, some feed => [⟨q.station, feed, g.callDuration⟩]
    | _, _ => []
  | _, _ => []

/-- The refresh timer and the call target of a new selection (04/R60). -/
def aimCalls (now : Time) (g : ChanConfig) (q : Option Copy) (x : Selector) : Selector :=
  match q with
  | some q => match q.origin with
    | .lane _ => { x with refresh := some (shift now (g.refreshMs * ticksPerMs : Nat)), callTarget := some q.station }
    | .internal => { x with refresh := none, callTarget := none }
  | none => { x with refresh := none, callTarget := none }

/-! ## The switch (04/R64, R65) -/

/-- Steps 2 and 3: the old picture is closed, a waiting field's pairing abandoned, the detector back to VIDEO (04/R64,
06/R108). -/
def closeOld (env : Env) (c : Channel) : Channel :=
  let c1 := closeOpen env c
  cadenceToVideo (match pairingSlot c1 with
    | some i => abandonPairing env i c1
    | none => c1)

/-- Step 4: the new copy's advertised standard (04/R65). -/
def meetStandard (env : Env) (code : StdCode) (c : Channel) : Channel :=
  if c.int.standard = 0 then adopt env code c
  else if code = c.int.standard then c
  else changeStandard env code c

/-- Whether step 4 raises a STANDARD_CHANGE (04/R65). -/
def switchChanges (c : Channel) (offer : Option Candidate) : Bool :=
  match offer with
  | some d => c.int.standard ≠ 0 && d.standard ≠ c.int.standard
  | none => false

/-- The channel's part of a switch to a copy, offered as given, or to NONE (04/R64, steps 1 to 7). -/
def switchChannel (env : Env) (q : Option Copy) (offer : Option Candidate) (c : Channel) : Channel :=
  let c1 := { c with csl := { aimCalls env.now env.cfg q c.csl with selection := q, deferred := 0, revert := none } }
  let c2 := closeOld env c1
  let c3 := match offer with
    | some d => meetStandard env d.standard c2
    | none => c2
  let c4 := { c3 with
    int := { c3.int with switchCount := c3.int.switchCount + 1, aim := q }
    csl := { c3.csl with rebasePending := q.isSome
                         sourceGeneration := (offer.map (·.generation)).getD c3.csl.sourceGeneration } }
  let c5 := countFlag c4 .copySwitch .copySwitch
  if q.isNone && activeState c5.sup.state then flag c5 .noCopy else c5

/-- A switch, whole (04/R64). -/
def switchTo (k : Chan) (q : Option Copy) (s : State) : State :=
  let offer := q.bind (offering s k)
  let s1 := { s with tx := holdCalls k (releaseCall s k ++ requestCall s k q) s.tx }
  onConfigured k (fun env => switchChannel env q offer) s1

/-! ## The pass-over list (04/R63) -/

/-- An entry for a lane copy, for 2 s, the oldest making room (04/R63). -/
def addPassOver (now : Time) (q : Copy) (l : LaneNo) (list : List PassOver) : List PassOver :=
  (if list.length < 4 then list else list.drop 1) ++ [⟨q.station, l, q.pub, shift now 54000000⟩]

def removeExpired (now : Time) (list : List PassOver) : List PassOver := list.filter fun e => !reached now e.expiry

end Sys2Proof.Machine
end

