-- ==== Sys2Proof/Machine/Supervisor.lean ====
section
/-! DEFINITION. Channel Supervisor and re-judgement: the transitions of a channel and what each entry does (10/10.4, 04/R53,
R62). -/

namespace Sys2Proof.Machine

/-! ## Entries that need nothing outside the channel -/

/-- Leaving CONVERTING abandons the render in progress and releases its marks (08/R142, 05/R86). -/
def leaveConverting (c : Channel) : Channel := if c.sup.state = .converting then sweep (abandonRender c) else c

/-- The entry into ACQUIRING, but for the re-judgement (10/R168). -/
def startAcquiring (env : Env) (c : Channel) : Channel :=
  let c1 := leaveConverting c
  let c2 := { c1 with
    sup := { c1.sup with
      state := .acquiring
      acquisition := some (shift env.now (env.cfg.acquisitionSeconds * ticksPerSecond : Nat))
      holdover := none, decay := none }
    int := { c1.int with lastCommitTime := some env.now } }
  computeDelay env.cfg c2

/-- The entry into CONVERTING (10/R169). -/
def enterConverting (env : Env) (c : Channel) : Channel :=
  count { c with sup := { c.sup with
    state := .converting, acquisition := none, holdover := none, decay := some (shift env.now 1620000000) } }
    .convertStarts

/-- The entry into HOLDOVER (10/R169). -/
def enterHoldover (env : Env) (c : Channel) : Channel :=
  let c1 := leaveConverting c
  countFlag { c1 with sup := { c1.sup with
    state := .holdover, decay := none, holdover := some (shift env.now (env.cfg.holdoverMs * ticksPerMs : Nat)) } }
    .holdovers .channelHoldover

/-- The entry into SAFE (10/R171). -/
def enterSafe (c : Channel) : Channel :=
  countFlag { c with sup := { c.sup with state := .safe, acquisition := none, holdover := none, decay := none } }
    .safeEntries .channelSafe

/-- The relock counter one higher, to at most 15, and RELOCKS (10/R172). -/
def countRelock (c : Channel) : Channel :=
  count { c with sup := { c.sup with relock := min (c.sup.relock + 1) 15 } } .relocks

/-- Whether the counted relock latches the channel (10/R172). -/
def atLimit (env : Env) (c : Channel) : Bool := env.cfg.relockLimit ≠ 0 && c.sup.relock = env.cfg.relockLimit

/-- The first two steps of the entry into LATCHED: timers and flush (10/R173). -/
def startLatched (env : Env) (c : Channel) : Channel :=
  let c1 := leaveConverting c
  flush env.now { c1 with sup := { c1.sup with state := .latched, acquisition := none, holdover := none, decay := none } }

/-! ## LATCHED (10/R173) -/

def selectionOf (s : State) (k : Chan) : Option Copy := (chan s k).csl.selection

def isSelecting (s : State) (k : Chan) : Bool := activeState (chan s k).sup.state

/-- The entry into LATCHED: timers, flush, deselection, flag and count, in this order (10/R173). -/
def enterLatched (k : Chan) (s : State) : State :=
  let s1 := onConfigured k startLatched s
  let s2 := if (selectionOf s1 k).isSome then switchTo k none s1 else s1
  onChan k (fun c => countFlag c .latches .channelLatched) s2

/-! ## Re-judgement (04/R53) and the STANDARD_CHANGE report (10/R172) -/

/-- Whether the channel's relock counter stands at its limit. -/
def latches (s : State) (k : Chan) : Bool :=
  match chanConfig s k with
  | some g => atLimit ⟨s.now, g⟩ (chan s k)
  | none => false

/-- Re-judge one channel, and act on what the re-judgement brings: a switch, its STANDARD_CHANGE report, the ACQUIRING
entry that follows, and the re-judgement of that entry, at most `n` deep (DESIGN CHOICE, notes/assumptions/15). -/
def rejudge : Nat → Chan → State → State
  | 0, _, s => s
  | n + 1, k, s =>
    if !isSelecting s k then s
    else if choice s k = selectionOf s k then updateRevert k s
    else
      let q := choice s k
      let changed := switchChanges (chan s k) (q.bind (offering s k))
      let s1 := switchTo k q s
      if changed then
        let s2 := onChan k countRelock s1
        if latches s2 k then enterLatched k s2 else rejudge n k (onConfigured k startAcquiring s2)
      else s1

/-- The bound of the depth (DESIGN CHOICE, notes/assumptions/15). -/
def rejudgeDepth : Nat := 3

/-- One channel re-judges. -/
def rejudgeOne (k : Chan) (s : State) : State := rejudge rejudgeDepth k s

/-- The entry into ACQUIRING, whole (10/R168). -/
def enterAcquiring (k : Chan) (s : State) : State := rejudgeOne k (onConfigured k startAcquiring s)

/-- A STANDARD_CHANGE report (10/R172). In IDLE and LATCHED no report arises. -/
def standardReport (k : Chan) (s : State) : State :=
  if isSelecting s k then
    let s1 := onChan k countRelock s
    if latches s1 k then enterLatched k s1 else enterAcquiring k s1
  else s

/-- Both channels re-judge at one instant, channel 0 first. Both read the station's own copies as their adverts were
stored before the event: what channel 0's switch changes of its own output, channel 1 hears once the adverts are stored
again (DESIGN CHOICE, notes/assumptions/15). -/
def rejudgeBoth (s : State) : State := rejudgeOne 1 (rejudgeOne 0 s)

/-! ## Supervisor events -/

/-- STALL: in CONVERTING the channel enters HOLDOVER; elsewhere the state stays (10/R169, R170). -/
def stallReport (env : Env) (c : Channel) : Channel := if c.sup.state = .converting then enterHoldover env c else c

/-- The acquisition timer expires (10/R168). -/
def acquisitionExpired (c : Channel) : Channel := enterSafe (countFlag c .acquireTimeout .acquireTimeout)

/-- The holdover timer expires (10/R170). -/
def holdoverExpired (k : Chan) (s : State) : State :=
  let s1 := onChan k countRelock s
  if latches s1 k then enterLatched k s1 else onChan k enterSafe s1

/-- The decay timer expires (10/R169). -/
def decayExpired (env : Env) (c : Channel) : Channel :=
  { c with sup := { c.sup with relock := c.sup.relock - 1, decay := some (shift env.now 1620000000) } }

/-- ACQUISITION_TIMER_EXPIRY (10/R168). -/
def acquisitionTimer (k : Chan) (s : State) : State :=
  if (chan s k).sup.state = .acquiring ∧ due s.now (chan s k).sup.acquisition then onChan k acquisitionExpired s else s

/-- HOLDOVER_TIMER_EXPIRY (10/R170). -/
def holdoverTimer (k : Chan) (s : State) : State :=
  if (chan s k).sup.state = .holdover ∧ due s.now (chan s k).sup.holdover then holdoverExpired k s else s

/-- DECAY_TIMER_EXPIRY (10/R169). -/
def decayTimer (k : Chan) (s : State) : State :=
  if (chan s k).sup.state = .converting ∧ due s.now (chan s k).sup.decay then onConfigured k decayExpired s else s

end Sys2Proof.Machine
end

