-- ==== Sys2Proof/Machine/Publication.lean ====
section
/-! DEFINITION. Publication Unit: what a publishable shows, the demand table, the slot arbiter, the records it passes on,
and the settling of statuses at an instant (03). -/

namespace Sys2Proof.Machine

/-! ## Sources and adverts (03/R36 to R39) -/

def isRunning (s : State) : Bool := s.station = .running

/-- A publishable carries a feed number (03/R36). -/
def carries (s : State) (p : PubIx) : Bool :=
  isRunning s && (match s.config with
    | some g => (pubFeedOf g p).isSome && pubPublishOf g p
    | none => false)

/-- A channel is producing while it is CONVERTING or HOLDOVER (10/10.5). -/
def channelProduces (c : Channel) : Bool := c.sup.state = .converting || c.sup.state = .holdover

def producing (s : State) (p : PubIx) : Bool :=
  match outputChan p with
  | none => s.ing.state = .locked
  | some k => channelProduces (chan s k)

/-- The generation of a publishable (03/R38), held within its two bits (DEDUCED, notes/assumptions/33). -/
def pubGeneration (s : State) (p : PubIx) : Gen :=
  match outputChan p with
  | none => 0
  | some k => if (chan s k).csl.sourceGeneration = 3 then 3 else (chan s k).csl.sourceGeneration + 1

/-- The standard code of a publishable (03/R38). -/
def pubStandard (s : State) (p : PubIx) : StdCode :=
  match outputChan p with
  | none => if s.ing.state = .locked then s.ing.locked else 0
  | some k => ((chanConfig s k).map (·.target)).getD 0

def demanded (s : State) (p : PubIx) : Bool := (s.pub.demand.get p).items.any (· ≠ 0)

def slotNos : List PubSlotNo := [0, 1]

/-- The slot that a publishable holds (03/3.5). -/
def heldSlot (x : Publication) (p : PubIx) : Option PubSlotNo :=
  slotNos.find? fun i => (x.slots.get i).state ≠ .free && (x.slots.get i).holder = some p

/-- The status of a publishable: the first line of the table of 03/R37 that holds. -/
def statusNow (s : State) (p : PubIx) : PubStatus :=
  if !carries s p then .none
  else if !producing s p then .absent
  else if (heldSlot s.pub p).isSome then .sending
  else if demanded s p then .deferred
  else .available

/-- What a publishable shows now (03/R37, R38); its generation is 0 until a first image is accepted (03/R51; DEDUCED,
notes/assumptions/35). -/
def advertNow (s : State) (p : PubIx) : Advert :=
  ⟨statusNow s p, if s.config = none then 0 else pubGeneration s p, pubStandard s p⟩

/-- The publication entry of a beacon formed now (03/R39). -/
def beaconEntry (s : State) (p : PubIx) : PubEntry :=
  match s.config with
  | some g =>
    if (s.pub.adverts.get p).status = .none then .empty
    else ⟨pubFeedOf g p, pubRankOf g p, (s.pub.adverts.get p).generation, (s.pub.adverts.get p).status,
      (s.pub.adverts.get p).standard, s.pub.lastSequence.get p⟩
  | none => .empty

/-! ## Slots becoming FREE (03/R44 to R49) -/

def onPub (f : Publication → Publication) (s : State) : State := { s with pub := f s.pub }
def onTx (f : Transmit → Transmit) (s : State) : State := { s with tx := f s.tx }

def setSlot (i : PubSlotNo) (x : PubSlot) (s : State) : State := onPub (fun u => { u with slots := u.slots.set i x }) s

/-- What a publishable shows is stored as it stands: PUBLISH_DEFERRED where it enters DEFERRED (03/R37), and the Copy
Selectors are to hear of a change (04/R53). -/
def noteAdvert (s : State) (p : PubIx) : State :=
  let a := advertNow s p
  onPub (fun u => { u with
    adverts := u.adverts.set p a
    deferredFlags := u.deferredFlags.modify p fun f =>
      f || (a.status = .deferred && (u.adverts.get p).status ≠ .deferred)
    unheard := u.unheard || a ≠ u.adverts.get p }) s

/-- RELEASED, where it is due (03/R47). -/
def countReleased (released : Bool) (p : PubIx) (s : State) : State :=
  if released then onPub (fun u => countItem u p .released) s else s

/-- A slot becomes FREE: RELEASED is counted where it is due, and the holder leaves SENDING, for DEFERRED where it is still
demanded, before the slot is granted again (03/R37, R47, R48). -/
def vacate (i : PubSlotNo) (released : Bool) (s : State) : State :=
  match (s.pub.slots.get i).holder with
  | some p => noteAdvert (countReleased released p (setSlot i .freed s)) p
  | none => setSlot i .freed s

/-- A source that stops producing: the slot stops at once and its burst queue is emptied; RELEASED is counted where the
slot owed it (03/R47, R49; DEDUCED, notes/assumptions/27). -/
def stopSlot (i : PubSlotNo) (p : PubIx) (s : State) : State :=
  onTx (flushBurst i) (countReleased (s.pub.slots.get i).releaseOwed p
    (onPub (fun u => countItem u p .sourceStopped) (setSlot i .freed s)))

/-- One slot against its holder's source and row (03/R47, R49; DEDUCED, notes/assumptions/27). -/
def reviewSlot (s : State) (i : PubSlotNo) : State :=
  let x := s.pub.slots.get i
  match x.holder with
  | none => s
  | some p =>
    if x.state = .free then s
    else if !producing s p then stopSlot i p s
    else if demanded s p then s
    else match x.state with
      | .ending => setSlot i { x with releaseOwed := true } s
      | .carrying =>
        if x.openPicture then setSlot i { x with state := .ending, reason := some .release, releaseOwed := true } s
        else vacate i true s
      | _ => vacate i true s

/-! ## The slot arbiter (03/R44, R46) -/

/-- A claimant: producing, demanded, and holding no slot (03/3.5). -/
def claims (s : State) (p : PubIx) : Bool := carries s p && producing s p && demanded s p && (heldSlot s.pub p).isNone

def pubNos : List PubIx := [0, 1, 2]

/-- The claimant of highest priority. -/
def topClaimant (s : State) : Option PubIx := pubNos.find? (claims s)

def freePubSlot (s : State) : Option PubSlotNo := slotNos.find? fun i => (s.pub.slots.get i).state = .free

/-- Grant the lower FREE slot to the claimant of highest priority, if there are both (03/R44). -/
def grantOne (s : State) : State :=
  match freePubSlot s, topClaimant s with
  | some i, some p =>
    onPub (fun u => countItem u p .granted)
      (setSlot i { state := .granted, holder := some p, openPicture := false, reason := none, releaseOwed := false } s)
  | _, _ => s

/-- The slot of the lower-priority holder, where both slots are held and neither is ENDING (03/R46). -/
def yieldingSlot (s : State) : Option (PubSlotNo × PubIx) :=
  let a := s.pub.slots.get 0
  let b := s.pub.slots.get 1
  if a.state = .free ∨ b.state = .free ∨ a.state = .ending ∨ b.state = .ending then none
  else match a.holder, b.holder with
    | some p, some q => if p < q then some (1, q) else some (0, p)
    | _, _ => none

/-- A slot yields to a claimant of higher priority (03/R46). -/
def yieldOne (s : State) : State :=
  match topClaimant s, yieldingSlot s with
  | some p, some (i, q) =>
    if p < q then
      let s1 := onPub (fun u => countItem u q .preempted) s
      let x := s.pub.slots.get i
      if x.openPicture then setSlot i { x with state := .ending, reason := some .yield } s1 else vacate i false s1
    else s
  | _, _ => s

/-- The arbiter at an instant. -/
def arbitrate (s : State) : State :=
  grantOne (yieldOne (grantOne (grantOne (reviewSlot (reviewSlot s 0) 1))))

/-! ## Settling (03/R37, 04/R53) -/

/-- Every publishable's advert is stored as it stands (03/R37). -/
def storeAdverts (s : State) : State := pubNos.foldl noteAdvert s

/-- A publishable whose source starts producing: ABSENT until now (03/R36). -/
def starts (s : State) (p : PubIx) : Bool := (s.pub.adverts.get p).status = .absent && carries s p && producing s p

/-- Each publishable that starts producing becomes AVAILABLE or DEFERRED before the arbiter may grant it a slot
(03/R36). -/
def noteStarts (s : State) : State := pubNos.foldl (fun s p => if starts s p then noteAdvert s p else s) s

/-- The changes of the adverts have been heard (04/R53). -/
def hearAdverts (s : State) : State := onPub (fun u => { u with unheard := false }) s

/-- After an event: the sources that start, the arbiter, and the statuses re-decided; where an advert changed, by this or
in the course of the event, both channels re-judge (04/R53), until nothing changes (DEDUCED and DESIGN CHOICE,
notes/assumptions/13, 14). -/
def settleFor : Nat → State → State
  | 0, s => s
  | n + 1, s =>
    let s1 := storeAdverts (arbitrate (noteStarts s))
    if s1.pub.unheard then settleFor n (rejudgeBoth (hearAdverts s1)) else s1

/-- The bound of a cascade at one instant (DESIGN CHOICE, notes/assumptions/14). -/
def settle (s : State) : State := settleFor 8 s

/-! ## Records (03/R45, R48, R50) -/

/-- A PICTURE record of a publishable meets the slot that holds it (03/R45, R47; DEDUCED, notes/assumptions/41). -/
def pictureOnSlot (i : PubSlotNo) (p : PubIx) (r : PictureRecord) (s : State) : State :=
  let x := s.pub.slots.get i
  if !demanded s p then vacate i true s
  else match x.state with
    | .granted | .carrying => onTx (offerBurst i (.picture r)) (setSlot i { x with state := .carrying, openPicture := true } s)
    | .ending => onTx (offerBurst i (.picture r)) s
    | .free => s

/-- A LINES record of a publishable meets the slot that holds it (03/R45, R48). -/
def linesOnSlot (i : PubSlotNo) (p : PubIx) (r : LinesRecord) (s : State) : State :=
  let x := s.pub.slots.get i
  if x.state = .carrying ∨ x.state = .ending then
    let s1 := onTx (offerBurst i (.lines r)) s
    if r.last then
      let s2 := onPub (fun u => countItem u p .picturesSent) s1
      if x.state = .ending then vacate i x.releaseOwed s2 else setSlot i { x with openPicture := false } s2
    else s1
  else s

/-- The stamp of a record as a channel maps it: plus the offset estimate of its lane, or as it is (02/R33, 04/R68). -/
def mappedStamp (s : State) (via : Origin) (t : Time) : Time :=
  match via with
  | .lane l => t + (lane s l).entry.offset
  | .internal => t

/-- A PICTURE record reaches a channel; a standard change it brings is reported once the admission is complete (05/R72,
10/R172). -/
def pictureToChannel (via : Origin) (r : PictureRecord) (k : Chan) (s : State) : State :=
  match chanConfig s k with
  | none => s
  | some g =>
    let c := chan s k
    if ofWindow ⟨s.now, g⟩ c via r.origin r.pub r.feed then
      let s1 := onChan k (takePicture ⟨s.now, g⟩ (mappedStamp s via r.stamp) via r) s
      if bringsChange r c then standardReport k s1 else s1
    else s

/-- A LINES record reaches a channel (05/R75). -/
def linesToChannel (via : Origin) (r : LinesRecord) (k : Chan) (s : State) : State :=
  match chanConfig s k with
  | none => s
  | some g =>
    if ofWindow ⟨s.now, g⟩ (chan s k) via r.origin r.pub r.feed then onChan k (takeLines ⟨s.now, g⟩ r) s else s

/-- The channels that hear a publishable on the internal path (03/R50). -/
def listeners (p : PubIx) : List Chan :=
  match outputChan p with
  | none => [0, 1]
  | some k => [otherChan k]

/-- A source forms a PICTURE record (03/R36, R38, R45, R50). -/
def publishPicture (p : PubIx) (r : PictureRecord) (s : State) : State :=
  let s1 := onPub (fun u => { u with lastSequence := u.lastSequence.set p r.sequence }) s
  let s2 := match heldSlot s1.pub p with
    | some i => pictureOnSlot i p r s1
    | none => s1
  (listeners p).foldl (fun s k => pictureToChannel .internal r k s) s2

/-- A source forms a LINES record (03/R36, R45, R50). -/
def publishLines (p : PubIx) (r : LinesRecord) (s : State) : State :=
  let s1 := match heldSlot s.pub p with
    | some i => linesOnSlot i p r s
    | none => s
  (listeners p).foldl (fun s k => linesToChannel .internal r k s) s1

/-! ## Calls and the demand table (03/R40 to R43) -/

/-- The publishables that carry a feed (03/R41, R42). -/
def carriersOf (s : State) (f : FeedNo) : List PubIx :=
  pubNos.filter fun p => carries s p && (s.config.bind (pubFeedOf · p)) = some f

/-- Set the caller's column in one row (03/R42). -/
def setDemand (p : PubIx) (caller : StationNo) (d : BitVec 8) (u : Publication) : Publication :=
  { u with demand := u.demand.modify p fun row => row.set caller d }

/-- An accepted CALL, heard on a lane (03/R41, R42). -/
def takeCall (l : LaneNo) (r : CallRecord) (s : State) : State :=
  if ownNumber s ≠ some r.target then s
  else if !isRunning s then onPub (fun u => countPub u .callIgnored) s
  else if !laneLive s l ∨ (lane s l).entry.station ≠ some r.caller then onPub (fun u => countPub u .callIgnored) s
  else match carriersOf s r.feed with
    | [] => onPub (fun u => countPub u .callNoFeed) s
    | ps => onPub (fun u => ps.foldl (fun u p => setDemand p r.caller r.duration u) (countPub u .callsTaken)) s

/-- A lane has left LIVE: the column of the station it held is cleared (03/R43). -/
def clearColumn (n : StationNo) (u : Publication) : Publication :=
  { u with demand := u.demand.map fun row => row.set n 0 }

/-- One millisecond less, and 0 stays 0 (03/R40). -/
def countDown (d : BitVec 8) : BitVec 8 := if d = 0 then 0 else d - 1

/-- A tick of the demand table (03/R40). -/
def demandTick (t : Time) (u : Publication) : Publication :=
  { u with tick := some (shift t ticksPerMs), demand := u.demand.map fun row => row.map countDown }

end Sys2Proof.Machine
end

