-- ==== Sys2Proof/Machine/Peers.lean ====
section
/-! DEFINITION. Peer Table: beacons taken, lane qualification, the offset estimator, and the reports (02). -/

namespace Sys2Proof.Machine

/-! ## The offset estimator (02/R28 to R32) -/

/-- The measurement of a beacon: arrival minus emission, modulo 2^48 (02/R28). -/
def measurementOf (arrival : Time) (b : Beacon) : Time := arrival - b.emission

/-- The estimate is initialised from a beacon (02/R29). -/
def initialiseOffset (m : Time) (x : Lane) : Lane := { x with entry := { x.entry with offset := m, stepCount := 0 } }

/-- A measurement within 2,700 ticks of the estimate (02/R28). -/
def inlier (m offset : Time) : Bool := (sdiff m offset).natAbs ≤ 2700

/-- The estimate continues from a measurement (02/R30 to R32). -/
def continueOffset (m : Time) (x : Lane) : Lane :=
  if inlier m x.entry.offset then
    { x with entry := { x.entry with
        offset := shift x.entry.offset (roundHalfAway (sdiff m x.entry.offset) 16), stepCount := 0 } }
  else if x.entry.stepCount = 0 then
    countLane { x with entry := { x.entry with stepCount := 1 } } .offsetOutlier
  else flagLane (countLane { x with entry := { x.entry with offset := m, stepCount := 0 } } .timeStep) .timeStep

/-! ## Lane qualification (02/R18 to R24) -/

/-- The beacon carries the entry's identity (02/2.1). -/
def sameIdentity (e : PeerEntry) (b : Beacon) : Bool := e.station = some b.station && e.epoch = some b.epoch

/-- In time: the entry has a last arrival and the interval is at most 40,500 ticks (02/2.2). -/
def inTime (e : PeerEntry) (arrival : Time) : Bool := e.lastArrival.any fun t => sdiff arrival t ≤ 40500

/-- Whether the estimate continues from a beacon, rather than being initialised (02/R19, R20, R22, R24). -/
def continues (e : PeerEntry) (arrival : Time) (b : Beacon) : Bool :=
  match e.state with
  | .silent => false
  | .qualifying => sameIdentity e b
  | .live =>
    sameIdentity e b && (if inTime e arrival then !b.start || e.startMark else !b.start)
  | .lapsed => sameIdentity e b && !b.start

/-- The lane state and qualification count after a beacon (02/R19, R20, R22, R24). -/
def qualify (e : PeerEntry) (arrival : Time) (b : Beacon) : LaneState × Nat :=
  match e.state with
  | .silent | .lapsed => (.qualifying, 1)
  | .qualifying =>
    if sameIdentity e b && inTime e arrival then (if 3 ≤ e.count + 1 then (.live, 3) else (.qualifying, e.count + 1))
    else (.qualifying, 1)
  | .live =>
    if sameIdentity e b && inTime e arrival && (!b.start || e.startMark) then (.live, 3) else (.qualifying, 1)

/-- Steps 1 to 3 of a taken beacon (02/R17, R18, R25). -/
def absorbBeacon (arrival : Time) (b : Beacon) (x : Lane) : Lane :=
  let e := x.entry
  let (st, n) := qualify e arrival b
  let x1 := { x with entry := { e with
    state := st, count := n, station := some b.station, epoch := some b.epoch, startMark := b.start
    lastArrival := some arrival, deadline := some (shift arrival 108000) } }
  let x2 := if e.state = .qualifying ∧ st = .live then flagLane x1 .laneLive
    else if e.state = .live ∧ st = .qualifying then countLane x1 .laneRequalified else x1
  let m := measurementOf arrival b
  let x3 := if continues e arrival b then continueOffset m x2 else initialiseOffset m x2
  { x3 with entry := { x3.entry with entries := b.entries } }

/-- The estimator steps on this beacon (02/R32). -/
def stepsOn (e : PeerEntry) (arrival : Time) (b : Beacon) : Bool :=
  continues e arrival b && !inlier (measurementOf arrival b) e.offset && e.stepCount ≠ 0

/-! ## Reports (02/R26) -/

/-- A channel's selection is a lane copy of this lane. -/
def selectedOn (s : State) (k : Chan) (l : LaneNo) : Bool := (selectionOf s k).any (·.origin = .lane l)

/-- The time step notice (02/R26, 04/R67). -/
def stepNotice (l : LaneNo) (k : Chan) (s : State) : State :=
  if selectedOn s k l then onChan k (fun c => { c with csl := { c.csl with rebasePending := true } }) s else s

/-- The deferred count at a report of a beacon on the selected copy's lane, and the pass-over at the fifth (04/R62). -/
def deferReport (l : LaneNo) (k : Chan) (s : State) : State :=
  match selectionOf s k with
  | some q =>
    if q.origin = .lane l then
      let n := if ((lane s l).entry.entries.get q.pub).status = .deferred then min ((chan s k).csl.deferred + 1) 5 else 0
      let s1 := onChan k (fun c => { c with csl := { c.csl with deferred := n } }) s
      if n = 5 ∧ isEligible s1 k q then
        onChan k (fun c => countFlag { c with csl := { c.csl with
          passOver := addPassOver s.now q l c.csl.passOver } } .copyPassedOver .copyPassedOver) s1
      else s1
    else s
  | none => s

/-- The source generation of a copy that stayed selected through a report on its lane (04/R64). -/
def followGeneration (l : LaneNo) (before : Option Copy) (k : Chan) (s : State) : State :=
  match selectionOf s k with
  | some q =>
    if before = some q ∧ q.origin = .lane l then
      onChan k (fun c => { c with csl := { c.csl with
        sourceGeneration := ((lane s l).entry.entries.get q.pub).generation } }) s
    else s
  | none => s

/-- The Publication Unit hears that a lane has left LIVE, with the station it held (02/R26, 03/R43). -/
def leftLive (e : PeerEntry) (l : LaneNo) (s : State) : State :=
  match e.state, e.station with
  | .live, some n => if laneLive s l then s else onPub (clearColumn n) s
  | _, _ => s

/-- A beacon that is not ignored (02/R17, steps 1 to 4). Of the neighbours that step 4 tells, both Copy Selectors hear
first, then the Publication Unit (DESIGN CHOICE, notes/assumptions/45). -/
def takeBeacon (l : LaneNo) (arrival : Time) (b : Beacon) (s : State) : State :=
  let e := (lane s l).entry
  let s1 := onLane l (absorbBeacon arrival b) s
  let s2 := if stepsOn e arrival b then stepNotice l 1 (stepNotice l 0 s1) else s1
  let s3 := rejudgeBoth (deferReport l 1 (deferReport l 0 s2))
  let s4 := followGeneration l (selectionOf s 1) 1 (followGeneration l (selectionOf s 0) 0 s3)
  leftLive e l s4

/-- Every accepted BEACON (02/R17). -/
def hearBeacon (l : LaneNo) (arrival : Time) (b : Beacon) (s : State) : State :=
  if ownNumber s = some b.station then onLane l (fun x => flagLane (countLane x .stationClash) .stationClash) s
  else takeBeacon l arrival b s

/-! ## Deadlines (02/R21, R23, R24) -/

/-- The entry cleared to the values of 02/R35. -/
def clearEntry (l : LaneNo) (s : State) : State := onLane l (fun x => { x with entry := .cleared }) s

/-- A LIVE lane lapses (02/R23; DEDUCED, notes/assumptions/37, 39). -/
def lapse (now : Time) (x : Lane) : Lane :=
  flagLane (countLane { x with entry := { x.entry with
    state := .lapsed, count := 0, entries := Bank.fill 3 .empty, deadline := some (shift now 6750000) } } .laneLapsed)
    .laneLapsed

/-- A deadline of a lane in a state has been reached. -/
def laneDue (s : State) (l : LaneNo) (st : LaneState) : Bool :=
  (lane s l).entry.state = st && due s.now (lane s l).entry.deadline

/-- A LIVE lane lapses; both Copy Selectors hear first, then the Publication Unit (02/R23, R26; DESIGN CHOICE,
notes/assumptions/45). -/
def lapseLane (l : LaneNo) (s : State) : State :=
  let e := (lane s l).entry
  leftLive e l (rejudgeBoth (onLane l (lapse s.now) s))

end Sys2Proof.Machine
end

