-- ==== Sys2Proof/Machine/Ingest.lean ====
section
/-! DEFINITION. Ingest Port: markers, lines, measurement, lock, and the records it forms (11). -/

namespace Sys2Proof.Machine

/-! ## Markers (11/11.1, R179) -/

inductive MarkerKind where | pictureStart | lineStart | lineEnd | blank
deriving DecidableEq, Repr

/-- The marker codes (11/11.1). -/
def markerOf (f : Sample) : Option (MarkerKind × Parity) :=
  match f.toNat with
  | 540 => some (.lineStart, 0)
  | 556 => some (.pictureStart, 0)
  | 572 => some (.lineEnd, 0)
  | 588 => some (.blank, 0)
  | 604 => some (.lineStart, 1)
  | 620 => some (.pictureStart, 1)
  | 636 => some (.lineEnd, 1)
  | 652 => some (.blank, 1)
  | _ => none

/-- The flag word of a marker (11/11.1). -/
def flagWord (k : MarkerKind) (p : Parity) : Nat :=
  (match k with
    | .lineStart => 540
    | .pictureStart => 556
    | .lineEnd => 572
    | .blank => 588) + 64 * p.val

/-- A marker is taken when its check word is 1023 − F and F is one of the eight codes (11/R179). -/
def takenMarker (f check : Sample) : Option (MarkerKind × Parity) :=
  if check = 1023 - f then markerOf f else none

def onIngest (f : Ingest → Ingest) (s : State) : State := { s with ing := f s.ing }

/-! ## Records (11/R186 to R188) -/

/-- The feed number of the ingest port's records: 0 where none is configured (11/R186). -/
def ingestFeedOf (s : State) : FeedNo := (s.config.bind (·.ingestFeed)).getD 0

/-- The PICTURE record of a raw picture whose forming begins (11/R186). -/
def ingestPicture (s : State) (own : StationNo) (p : Parity) (arrival : Time) : PictureRecord :=
  { origin := own, pub := 0, feed := ingestFeedOf s, sequence := s.ing.sequence, generation := 0
    kind := kindOf s.ing.locked p, standard := s.ing.locked, stamp := arrival, lines := rawLines s.ing.locked
    samples := (standardOf s.ing.locked).samples }

/-- At a picture-start marker: begin forming, or clear the forming mark (11/R186, R188). -/
def beginForming (p : Parity) (arrival : Time) (s : State) : State :=
  match ownNumber s with
  | some own =>
    if s.ing.state = .locked ∧ isRunning s then
      let s1 := onIngest (fun g => countIngest { g with forming := true, sequence := g.sequence + 1 } .picturesIngested) s
      publishPicture 0 (ingestPicture s1 own p arrival) s1
    else onIngest (fun g => { g with forming := false }) s
  | none => onIngest (fun g => { g with forming := false }) s

/-- How many of a line's gathered samples records may carry (11/R187). -/
def carriable (g : Ingest) (l : OpenLine) : Nat := min (2 * l.groups.length) (standardOf g.locked).samples

/-- A line whose index lies below the locked standard's line count for a raw picture (11/R187). -/
def lineInPicture (g : Ingest) (l : OpenLine) : Bool := l.index < rawLines g.locked
def isLastLine (g : Ingest) (l : OpenLine) : Bool := l.index + 1 = rawLines g.locked

/-- A LINES record with the samples gathered since the line's previous record (11/R187). -/
def ingestLines (s : State) (own : StationNo) (l : OpenLine) (last : Bool) : LinesRecord :=
  { origin := own, pub := 0, feed := ingestFeedOf s, last, sequence := s.ing.sequence, line := l.index, first := l.carried
    groups := (((l.groups.take (carriable s.ing l / 2)).drop (l.carried / 2))).map clampGroup }

/-- Form a record from the open line; `ends` says that it ends the line (11/R187). -/
def formLines (l : OpenLine) (ends : Bool) (s : State) : State :=
  match ownNumber s with
  | some own =>
    let last := ends && isLastLine s.ing l
    let r := ingestLines s own l last
    let s1 := onIngest (fun g => { g with
      openLine := some { l with carried := carriable g l }, forming := g.forming && !last }) s
    publishLines 0 r s1
  | none => s

/-- The records that a group of samples completes (11/R187). -/
def gatherRecords (s : State) : State :=
  match s.ing.openLine with
  | some l =>
    let n := carriable s.ing l
    let full := n = (standardOf s.ing.locked).samples
    if s.ing.forming ∧ lineInPicture s.ing l ∧ l.carried < n ∧ (l.carried + 256 ≤ n ∨ full) then formLines l full s else s
  | none => s

/-- The record a closing line leaves to be formed, and the end of forming at the last line (11/R187). -/
def closingRecords (s : State) : State :=
  match s.ing.openLine with
  | some l =>
    if s.ing.forming ∧ lineInPicture s.ing l then
      if l.carried < carriable s.ing l then formLines l true s
      else if isLastLine s.ing l then onIngest (fun g => { g with forming := false }) s
      else s
    else s
  | none => s

/-! ## Lines (11/R180, R181) -/

/-- The measurement's part of a closing line: its sample count, and the irregular mark (11/R181). -/
def measureLine (n : Nat) (irregular : Bool) (r : RawMeasure) : RawMeasure :=
  { r with samples := some (r.samples.getD n)
           irregular := r.irregular || irregular || r.samples.any (· ≠ n) }

/-- Close the open line, whole or cut off; the words of an incomplete group at its end are discarded (11/R180, R181). -/
def closeLine (cut : Bool) (s : State) : State :=
  match s.ing.openLine with
  | some l =>
    let s1 := closingRecords s
    onIngest (fun g => { g with
      openLine := none
      raw := g.raw.map (measureLine (2 * l.groups.length) (cut || decide (l.begun ≠ []))) }) s1
  | none => s

def openLineAt (i : Nat) (g : Ingest) : Ingest := { g with openLine := some ⟨i, [], [], 0⟩ }

/-- An ACTIVE START marker without picture-start (11/R180). -/
def startLine (p : Parity) (s : State) : State :=
  if s.ing.raw.isNone then s
  else onIngest (fun g => match g.raw with
    | some r => openLineAt r.lines { g with raw := some { r with lines := r.lines + 1, irregular := r.irregular || r.parity ≠ p } }
    | none => g) (closeLine true s)

/-! ## Measurement and matching (11/R182, R183) -/

/-- The scan inferred from the parities (11/R182). -/
def scanOf (parity : Parity) (previous : Option Parity) : Option Scan :=
  match parity.val, previous.map (·.val) with
  | 1, some 1 => none
  | 1, _ => some .interlaced
  | _, some 1 => some .interlaced
  | _, some _ => some .progressive
  | _, none => none

def measurementAt (r : RawMeasure) (previous : Option Parity) (arrival : Time) : Measurement :=
  ⟨r.lines, r.samples, sdiff arrival r.start, scanOf r.parity previous⟩

/-- The distance of a measured period from a standard's raw period. -/
def periodError (m : Measurement) (c : StdCode) : Nat := (m.period - (standardOf c).rawPeriod).natAbs

/-- The conditions of 11/R183 on a code. -/
def meets (m : Measurement) (irregular : Bool) (c : StdCode) : Bool :=
  !irregular && c ≠ 0 && m.scan = some (if (standardOf c).interlaced then .interlaced else .progressive)
    && m.lines = rawLines c && m.samples = some (standardOf c).samples
    && periodError m c ≤ (standardOf c).rawPeriod / 200

/-- The code a measurement matches: the nearest period, the lower code where equally near (11/R183). -/
def matchCode (m : Measurement) (irregular : Bool) : Option StdCode :=
  ((List.finRange 14).filter (meets m irregular)).foldl (fun best c => match best with
    | some b => if periodError m c < periodError m b then some c else some b
    | none => some c) none

/-! ## Ingest states (11/R184, R185) -/

/-- The deadline of MEASURING: floor(1.5 × 1,126,125) ticks on (11/R184). -/
def measuringDeadline (arrival : Time) : Time := shift arrival 1689187

/-- The deadline of LOCKED: floor(3·P/2) ticks on (11/R185). -/
def lockedDeadline (c : StdCode) (arrival : Time) : Time := shift arrival (3 * (standardOf c).rawPeriod / 2 : Nat)

/-- A measured raw picture in MEASURING (11/R184). At the lock the candidate becomes none and the match count 0 (DESIGN
CHOICE, notes/assumptions/60). -/
def judgeMeasuring (code : Option StdCode) (arrival : Time) (g : Ingest) : Ingest :=
  match code with
  | some c =>
    if g.candidate = some c then
      countIngest { g with state := .locked, locked := c, candidate := none, matchCount := 0
                           deadline := some (lockedDeadline c arrival), changeFlag := true } .locks
    else { g with candidate := some c, matchCount := 1, deadline := some (measuringDeadline arrival) }
  | none => { g with candidate := none, matchCount := 0, deadline := some (measuringDeadline arrival) }

/-- A measured raw picture in LOCKED (11/R185). -/
def judgeLocked (code : Option StdCode) (arrival : Time) (g : Ingest) : Ingest :=
  if code = some g.locked then { g with deadline := some (lockedDeadline g.locked arrival) }
  else
    countIngest { g with state := .measuring, locked := 0, candidate := code, matchCount := if code.isSome then 1 else 0
                         deadline := some (measuringDeadline arrival), changeFlag := true } .mismatch

/-- The raw picture in measurement ends at a picture-start marker and is judged (11/R182, R184, R185). -/
def judgeRaw (arrival : Time) (g : Ingest) : Ingest :=
  match g.state with
  | .noSignal =>
    { g with state := .measuring, previousParity := none, candidate := none, matchCount := 0
             deadline := some (measuringDeadline arrival) }
  | .measuring =>
    match g.raw with
    | some r =>
      let m := measurementAt r g.previousParity arrival
      judgeMeasuring (matchCode m r.irregular) arrival { g with previousParity := some r.parity, lastMeasure := some m }
    | none => judgeMeasuring none arrival g
  | .locked =>
    match g.raw with
    | some r =>
      let m := measurementAt r g.previousParity arrival
      judgeLocked (matchCode m r.irregular) arrival { g with previousParity := some r.parity, lastMeasure := some m }
    | none => judgeLocked none arrival g

/-- The new raw picture that a picture-start marker begins, and its first line (11/R180). -/
def beginRaw (p : Parity) (arrival : Time) (g : Ingest) : Ingest :=
  openLineAt 0 { g with raw := some ⟨p, arrival, 1, none, false⟩ }

/-- A picture-start marker (11/R180, R184 to R186). A lock or its loss reaches the publications, and through them the
channels, before the new picture's record is formed (DEDUCED, notes/assumptions/16). A last line that the marker cuts off
frees an ENDING slot, and the slot is granted only once the raw picture has been judged (DESIGN CHOICE,
notes/assumptions/56); its LINES record stays in the burst queue of an idle transmitter until the command ends, and is
flushed with it where the same marker loses the lock (DESIGN CHOICE, notes/assumptions/44). -/
def startPicture (arrival : Time) (p : Parity) (s : State) : State :=
  let s1 := closeLine true s
  beginForming p arrival (settle (onIngest (fun g => beginRaw p arrival (judgeRaw arrival g)) s1))

/-! ## The word stream (11/R179) -/

/-- A marker read whole: counted and ignored, or taken (11/R179, R180). -/
def readMarker (arrival : Time) (f check : Sample) (s : State) : State :=
  match takenMarker f check with
  | none => onIngest (fun g => countIngest g .markerError) s
  | some (.pictureStart, p) => startPicture arrival p s
  | some (.lineStart, p) => startLine p s
  | some (.lineEnd, _) => closeLine false s
  | some (.blank, _) => closeLine true s

/-- A sample word: it joins the open line, whose every fourth word completes a group; it is discarded while no line is
open (11/R180, R181, R187). -/
def sampleWord (w : Sample) (s : State) : State :=
  match s.ing.openLine with
  | none => s
  | some l => match l.begun with
    | [cb, y0, cr] =>
      gatherRecords (onIngest (fun g => { g with
        openLine := some { l with groups := l.groups ++ [⟨cb, y0, cr, w⟩], begun := [] } }) s)
    | ws => onIngest (fun g => { g with openLine := some { l with begun := ws ++ [w] } }) s

def setReader (r : Reader) (s : State) : State := onIngest (fun g => { g with reader := r }) s

/-- A word read afresh: a 1023 is held, since it may begin a marker; any other word is a sample word. -/
def freshWord (w : Sample) (s : State) : State :=
  if w = 1023 then setReader (.first s.now) s else sampleWord w (setReader .idle s)

/-- One word of the input stream (11/R179). -/
def readWord (s : State) (w : Sample) : State :=
  match s.ing.reader with
  | .idle => freshWord w s
  | .first t => if w = 0 then setReader (.zero t) s else freshWord w (sampleWord 1023 s)
  | .zero t => setReader (.flag t w) s
  | .flag t f => readMarker t f w (setReader .idle s)

def readWords (ws : List Sample) (s : State) : State := ws.foldl readWord s

/-! ## The commands -/

/-- INGEST_MARKER: the words of an incomplete group and the four words of a marker, received at this instant (11/R179;
DEDUCED, notes/assumptions/28). -/
def ingestMark (tail : List Sample) (f check : Sample) (s : State) : State := readWords (tail ++ [1023, 0, f, check]) s

/-- INGEST_SAMPLE_GROUP: four words, received at this instant (11/R179, R181). -/
def ingestGroup (q : SampleGroup) (s : State) : State := readWords [q.cb, q.y0, q.cr, q.y1] s

/-- The fields cleared at a deadline (11/R184; DEDUCED, notes/assumptions/28). -/
def loseSignal (g : Ingest) : Ingest :=
  { g with state := .noSignal, raw := none, openLine := none, candidate := none, matchCount := 0, previousParity := none
           deadline := none, forming := false }

/-- INGEST_DEADLINE (11/R184, R185). -/
def ingestLate (s : State) : State :=
  if due s.now s.ing.deadline then
    match s.ing.state with
    | .noSignal => s
    | .measuring => onIngest loseSignal s
    | .locked => onIngest (fun g => countIngest { loseSignal g with locked := 0, changeFlag := true } .signalLost) s
  else s

end Sys2Proof.Machine
end

