-- ==== Sys2Proof/Machine/Link.lean ====
section
/-! DEFINITION. Exchange Link: delivery of received records, the transmit arbiter, and the end of every command (01). -/

namespace Sys2Proof.Machine

/-! ## Receiving (01/R4, R7) -/

/-- An accepted record goes to the blocks that use its kind (01/R7). -/
def deliver (l : LaneNo) (arrival : Time) (r : LinkRecord) (s : State) : State :=
  match r with
  | .beacon b => hearBeacon l arrival b s
  | .call c => takeCall l c s
  | .picture p => pictureToChannel (.lane l) p 1 (pictureToChannel (.lane l) p 0 s)
  | .lines r => linesToChannel (.lane l) r 1 (linesToChannel (.lane l) r 0 s)

/-- A record checked whole: dropped with one counter and LINK_ERROR, or counted and delivered (01/R4; DEDUCED,
notes/assumptions/8). -/
def receiveRecord (l : LaneNo) (arrival : Time) (words : List Word) (s : State) : State :=
  match checkRecord words with
  | .error c => onLane l (fun x => flagLane (countLane x c) .linkError) s
  | .ok r => deliver l arrival r (onLane l (fun x => countLane x .rxRecords) s)

/-! ## The transmit arbiter (01/R9 to R14) -/

/-- The beacon formed at the instant it begins (01/R12). -/
def formBeacon (s : State) (g : StationConfig) : Beacon :=
  { station := g.station, start := 0 < s.tx.startCount, epoch := s.epoch, emission := s.now
    entries := ⟨[beaconEntry s 0, beaconEntry s 1, beaconEntry s 2], rfl⟩ }

/-- The slot served next: the only one that holds a record, or the one the alternation mark does not name (01/R9). -/
def servedSlot (x : Transmit) : Option PubSlotNo :=
  if x.bursts.get 0 = [] then (if x.bursts.get 1 = [] then none else some 1)
  else if x.bursts.get 1 = [] then some 0
  else if x.mark = 0 then some 1 else some 0

/-- The record a CALL entry is sent as (01/R14). -/
def callRecord (g : StationConfig) (c : Call) : LinkRecord := .call ⟨g.station, c.target, c.feed, c.duration⟩

/-- A CALL has begun to be sent in the present instant (notes/assumptions/43). -/
def noteBegun (x : Transmit) : Transmit := { x with instant := x.instant.map fun i => { i with begun := true } }

/-- Begin to send: the beacon, else the oldest call, else the oldest record of a slot (01/R9, R12, R14). -/
def beginSending (s : State) (g : StationConfig) : State :=
  let x := s.tx
  if x.beaconPending then
    let words := encodeRecord (.beacon (formBeacon s g))
    { s with tx := countTx { x with
        beaconPending := false, startCount := x.startCount - 1, sending := some words } .beacons }
  else match x.callQueue with
    | c :: rest =>
      { s with tx := countTx (noteBegun { x with
          callQueue := rest, sending := some (encodeRecord (callRecord g c)) }) .calls }
    | [] => match servedSlot x with
      | some i => match x.bursts.get i with
        | r :: rest =>
          { s with tx := countSlot { x with
              bursts := x.bursts.set i rest, mark := i, sending := some (encodeRecord r) } i .records 1 }
        | [] => s
      | none => s

/-- At a record boundary the arbiter begins the first thing that is ready, while the station is RUNNING (01/R9, R10).
-/
def arbitrateLane (s : State) : State :=
  match s.tx.sending, s.config with
  | none, some g => if isRunning s then beginSending s g else s
  | _, _ => s

/-- Steps 1 to 3 of a RESTART at the transmitter (01/R10). -/
def clearTransmit (x : Transmit) : Transmit :=
  { x with beaconDue := none, beaconPending := false, callQueue := [], instant := none
           bursts := Bank.fill 2 [], mark := 1, restartOwed := false }

/-- Steps that a RESTART owes are performed now. -/
def payRestart (x : Transmit) : Transmit := if x.restartOwed then clearTransmit x else x

/-- The last word of the record in progress has been sent (01/1.6); a RESTART that waited for it then acts (01/R10). A CALL
begun and sent within one instant takes the calls of that instant with it (notes/assumptions/43). -/
def endSending (s : State) : State :=
  onTx (fun x => payRestart { x with sending := none, instant := x.instant.filter (!·.begun) }) s

/-- The beacon timer expires (01/R11). -/
def beaconExpired (t : Time) (x : Transmit) : Transmit :=
  let x1 := { x with beaconDue := some (shift t 27000), beaconPending := true }
  if x.beaconPending then countTx x1 .beaconSkipped else x1

/-- What a command answers. -/
abbrev Result := Host.Outcome State Fault Refusal

/-- A CALL begun in this instant is the oldest of the queue that all calls of the instant have made (01/R9, R13; DESIGN
CHOICE, notes/assumptions/43). -/
def resend (g : StationConfig) (x : Transmit) : Transmit :=
  match x.callQueue with
  | c :: rest => { x with callQueue := rest, sending := some (encodeRecord (callRecord g c)) }
  | [] => x

/-- The queue takes the calls of one instant: channel 0's before channel 1's, each channel's in the order of offering,
whichever commands offer them, a release only where the other channel does not keep the demand up (01/R13, 04/R61). The
calls of the instant are taken anew, onto the queue that the instant found, at the end of each of its commands (DESIGN
CHOICE, notes/assumptions/43). -/
def takeCalls (s : State) : State :=
  let i := heldNow s.now s.tx
  if i.offered = Bank.fill 2 [] then onTx (fun x => { x with instant := none }) s
  else
    let calls := standingCalls s 0 (i.offered.get 0) ++ standingCalls s 1 (i.offered.get 1)
    let x := requeue i calls s.tx
    { s with tx := match s.config with
      | some g => if i.begun then resend g x else x
      | none => x }

/-- What every command ends with: the publications settle, the call queue takes the calls offered, and an idle
transmitter begins what is ready. It begins only then, so a release and a request of one instant for one (target, feed)
are one call (01/R9, R13; DESIGN CHOICE, notes/assumptions/43, 44), and the first beacon of a station that enters RUNNING is
formed after the channels' first re-judgement (01/R12, 12/R194; DESIGN CHOICE, notes/assumptions/57). -/
def conclude (s : State) : State := arbitrateLane (takeCalls (settle s))

/-! ## The commands of the link and of the Peer Table -/

/-- RECORD_RECEIVED (01/R4 to R8): the record ends now; its first word arrived `flight` ticks ago. -/
def receive (l : LaneNo) (flight : Nat) (words : List Word) (s : State) : State :=
  if words = [] then s else receiveRecord l (s.now - BitVec.ofNat 48 flight) words s

/-- BEACON_TIMER_EXPIRY (01/R11); the timer runs on until a RESTART has stopped it (01/R10). -/
def beaconTimer (s : State) : State :=
  match s.tx.beaconDue with
  | some t => if reached s.now t then onTx (beaconExpired t) s else s
  | none => s

/-- MILLISECOND_TICK (03/R40). -/
def millisecond (s : State) : State :=
  match s.pub.tick with
  | some t => if reached s.now t && isRunning s then onPub (demandTick t) s else s
  | none => s

def qualifyingExpired (l : LaneNo) (s : State) : State := if laneDue s l .qualifying then clearEntry l s else s
def liveExpired (l : LaneNo) (s : State) : State := if laneDue s l .live then lapseLane l s else s
def lapsedExpired (l : LaneNo) (s : State) : State := if laneDue s l .lapsed then clearEntry l s else s

/-- REFRESH_TIMER_EXPIRY: the same call again, the expiry advanced by the interval (04/R60). -/
def refreshExpired (k : Chan) (s : State) : State :=
  match (chan s k).csl.refresh, chanConfig s k with
  | some t, some g =>
    if reached s.now t then
      let s1 := onTx (holdCalls k (requestCall s k (selectionOf s k))) s
      onChan k (fun c => { c with csl := { c.csl with refresh := some (shift t (g.refreshMs * ticksPerMs : Nat)) } }) s1
    else s
  | _, _ => s

/-- PASS_OVER_EXPIRY: expired entries are removed and the Copy Selector re-judges (04/R63). -/
def passOverExpired (k : Chan) (s : State) : State :=
  let list := (chan s k).csl.passOver
  if list.any (fun e => reached s.now e.expiry) then
    rejudgeOne k (onChan k (fun c => { c with csl := { c.csl with passOver := removeExpired s.now list } }) s)
  else s

/-- The revert hold has run out with the candidate still the revert target (04/R58). -/
def revertDue (k : Chan) (s : State) : Option Copy :=
  match (chan s k).csl.revert, chanConfig s k with
  | some (q, t), some g =>
    if g.revertSeconds ≠ 0 ∧ isSelecting s k ∧ reached s.now (shift t (g.revertSeconds * ticksPerSecond : Nat)) then some q
    else none
  | _, _ => none

/-- REVERT_HOLD_EXPIRY: re-judge, and select a candidate that is still the revert target (04/R58). -/
def revertExpired (k : Chan) (s : State) : State :=
  match revertDue k s with
  | none => s
  | some q =>
    let s1 := rejudgeOne k s
    if revertDue k s1 = some q then
      let changed := switchChanges (chan s1 k) (offering s1 k q)
      let s2 := onChan k (count · .copyReverted) (switchTo k (some q) s1)
      if changed then standardReport k s2 else s2
    else s1

/-- STALL (05/R90, 10/R169). -/
def stalled (k : Chan) (s : State) : State :=
  onConfigured k (fun env c => if stallDue env c then stallReport env (noteStall c) else c) s

end Sys2Proof.Machine
end

