-- ==== Sys2Proof/Machine/Reference.lean ====
section
/-! DEFINITION. Reference Input and the alignment of the output ports to it (10/10.2). -/

namespace Sys2Proof.Machine

def onRef (f : Reference → Reference) (s : State) : State := { s with ref := f s.ref }
def onPort (f : Port → Port) (c : Channel) : Channel := { c with port := f c.port }

/-- P_ref and the pulse tolerance τ (10/10.2). -/
def refPeriod (r : Reference) : Nat := framePeriod r.standard
def refTolerance (r : Reference) : Nat := refPeriod r / 1000

/-! ## What a port makes of the reference (10/R162, R163) -/

/-- A port's reference is usable while it is VALID and of exactly the port's frame period (10/R162). -/
def usable (r : Reference) (p : Port) : Bool :=
  r.state = .valid && p.standard.any fun c => framePeriod c = refPeriod r

/-- A scanning port whose frame period differs from that of a VALID reference (10/R162). -/
def mismatched (r : Reference) (p : Port) : Bool :=
  r.state = .valid && p.standard.any fun c => framePeriod c ≠ refPeriod r

def flagMismatch (r : Reference) (p : Port) : Port := if mismatched r p then { p with mismatchFlag := true } else p

/-- The reference has stopped being usable to a port (10/R162). -/
def loseReference (p : Port) : Port := { p with lock := .freeRun, pendingError := none }

/-- A difference brought into −P/2 exclusive to P/2 inclusive by whole periods (10/R163). -/
def nearestError (d : Int) (period : Nat) : Int := if period < 2 * (d % period) then d % period - period else d % period

/-- A port measures its error from an accepted pulse (10/R163). -/
def measureError (r : Reference) (pulse : Time) (p : Port) : Port :=
  match p.standard, p.lastFrame with
  | some c, some t =>
    let next := shift t ((framePeriod c : Int) + p.correction)
    if usable r p then { p with pendingError := some (nearestError (sdiff pulse next) (framePeriod c)) } else p
  | _, _ => p

def onPorts (f : Port → Port) (s : State) : State := onChan 1 (onPort f) (onChan 0 (onPort f) s)

/-! ## Pulses (10/R160, R161) -/

/-- Every return to ABSENT (10/R160). -/
def absent (r : Reference) : Reference :=
  { r with state := .absent, lastPulse := none, good := none, expected := none, miss := none, measured := none }

/-- An interval within τ of P_ref (10/R160). -/
def goodInterval (r : Reference) (d : Int) : Bool := (d - refPeriod r).natAbs ≤ refTolerance r

/-- A pulse in QUALIFYING (10/R160); the good count that makes the input VALID stays (DEDUCED, notes/assumptions/42). -/
def qualifyingPulse (now : Time) (r : Reference) : Reference :=
  match r.lastPulse with
  | some t =>
    let d := sdiff now t
    let n := r.good.getD 0 + 1
    if goodInterval r d then
      if 4 ≤ n then
        { r with state := .valid, good := some n, measured := some d, lastPulse := some now
                 expected := some (shift now (refPeriod r)), miss := some 0 }
      else { r with measured := some d, good := some n, lastPulse := some now }
    else { r with good := some 1, lastPulse := some now }
  | none => { r with good := some 1, lastPulse := some now }

/-- Whether a pulse falls within τ of the expected time (10/R161). -/
def expectedNow (now : Time) (r : Reference) : Bool :=
  r.expected.any fun t => (sdiff now t).natAbs ≤ refTolerance r

/-- An accepted pulse (10/R161). -/
def acceptPulse (now : Time) (r : Reference) : Reference :=
  { r with measured := (if r.miss = some 0 then r.lastPulse.map fun t => sdiff now t else r.measured)
           lastPulse := some now, miss := some 0, expected := some (shift now (refPeriod r)) }

/-- REFERENCE_PULSE (10/R160 to R163; DEDUCED, notes/assumptions/23). -/
def pulse (s : State) : State :=
  if s.ref.standard = 0 then s
  else
    let s0 := onRef (countRef · .pulses) s
    match s0.ref.state with
    | .absent => onRef (fun r => { r with state := .qualifying, good := some 1, lastPulse := some s.now }) s0
    | .qualifying =>
      let s1 := onRef (qualifyingPulse s.now) s0
      if s1.ref.state = .valid then onPorts (fun p => measureError s1.ref s.now (flagMismatch s1.ref p)) s1 else s1
    | .valid =>
      if expectedNow s.now s0.ref then
        let s1 := onRef (acceptPulse s.now) s0
        onPorts (measureError s1.ref s.now) s1
      else onRef (countRef · .stray) s0

/-- REF_QUALIFY_TIMEOUT: three periods with no pulse taken (10/R160). -/
def refTimeout (s : State) : State :=
  if s.ref.state = .qualifying ∧ s.ref.lastPulse.any (fun t => reached s.now (shift t (3 * refPeriod s.ref : Nat))) then
    onRef absent s
  else s

/-- REF_MISSED: the window of the expected time has ended with no pulse accepted (10/R161, R162). -/
def refMiss (s : State) : State :=
  match s.ref.expected with
  | some t =>
    if s.ref.state = .valid ∧ reached s.now (shift t (refTolerance s.ref)) then
      let s0 := onRef (countRef · .missed) s
      let n := s.ref.miss.getD 0
      if n < 2 then onRef (fun r => { r with miss := some (n + 1), expected := some (shift t (refPeriod r)) }) s0
      else onPorts loseReference (onRef (fun r => { absent r with lostFlag := true }) s0)
    else s
  | none => s

end Sys2Proof.Machine
end

