-- ==== Sys2Proof/Machine/Output.lean ====
section
/-! DEFINITION. Output Port: the timebase, the scan source, emission, and the records of a converted output (10/10.1, 10.3,
10.5). -/

namespace Sys2Proof.Machine

/-! ## The timebase (10/R158, R164) -/

/-- A frame start: parity 0 on an interlaced standard, every scan start on a progressive one (10/10.1). -/
def isFrameStart (c : StdCode) (p : Parity) : Bool := !(standardOf c).interlaced || p = 0

/-- The parity of the picture whose scan now starts (10/R158). -/
def startParity (c : StdCode) (p : Port) : Parity :=
  if p.tOut.isNone ∨ !(standardOf c).interlaced then 0 else otherParity p.parity

/-- Within −27 to 27 ticks (10/R164). -/
def slewOf (e : Int) : Int := clampInt (-27) 27 e

def lockAfter (e : Int) : LockState := if e.natAbs ≤ 27 then .locked else .pulling

/-- The correction at a frame start, with the jump's flag; the count is the caller's (10/R164; DEDUCED,
notes/assumptions/29). -/
def correct (c : StdCode) (p : Port) : Port × Bool :=
  match p.pendingError with
  | none => ({ p with correction := 0 }, false)
  | some e =>
    if p.lock = .freeRun ∧ (standardOf c).rawPeriod / 4 < e.natAbs then
      ({ p with correction := if 0 ≤ e then e else e + framePeriod c, lock := .pulling, pendingError := none
                jumpFlag := true }, true)
    else ({ p with correction := slewOf e, lock := lockAfter e, pendingError := none }, false)

/-- Steps 1 and 2 of a scan start at `t`: correction, next scan start, number and parity (10/R158). -/
def timeScan (std : StdCode) (t : Time) (c : Channel) : Channel :=
  let p := c.port
  let parity := startParity std p
  let p1 := { p with picture := if p.tOut.isNone then 0 else p.picture + 1, parity, tOut := some t }
  let raw : Int := (standardOf std).rawPeriod
  if isFrameStart std parity then
    let (p2, jumped) := correct std p1
    let c1 := { c with port := { p2 with tNext := some (shift t (raw + p2.correction)), lastFrame := some t } }
    if jumped then count c1 .refJumps else c1
  else { c with port := { p1 with tNext := some (shift t raw) } }

/-! ## The announcement (10/R158 step 3, R168, 05/R87) -/

/-- The render point of the announced picture, R(n + 1) = T_out(n + 1) − D_eff (08/R127). -/
def announcedPoint (c : Channel) : Option Time :=
  match c.port.tNext, c.ren.dEff with
  | some t, some d => some (shift t (-(d : Int)))
  | _, _ => none

/-- The entry condition at a scan start (10/R168). -/
def entryHolds (c : Channel) : Bool :=
  (c.sup.state = .acquiring || c.sup.state = .holdover || c.sup.state = .safe)
    && 2 ≤ (c.int.committed.filter (isComplete c)).length
    && (match announcedPoint c, c.int.newest with
      | some r, some n => reached n r
      | _, _ => false)

/-- Outside CONVERTING the intake forms the retirement reference itself at each scan start (05/R87). -/
def ownReference (c : Channel) : Channel :=
  if c.sup.state = .converting then c
  else match announcedPoint c with
    | some r => match chooseAB c r with
      | some (a, _, _) => sweep { c with int := { c.int with retireRef := some a } }
      | none => c
    | none => c

/-! ## The scan source (10/R165 to R167) -/

/-- The safe picture; through LOADING a port carries black (10/R167, R177). -/
def safeSource (running : Bool) (m : SafeMode) (p : Port) : ScanSource :=
  if !running then .black
  else match m with
    | .black => .black
    | .fill => .fill
    | .bars => .bars
    | .freeze => match p.lastGood with
      | some b => .buffer b
      | none => .black

/-- Step 4 of a scan start: the source, REPEATS and PICTURES_SCANNED (10/R165). -/
def chooseSource (running : Bool) (m : SafeMode) (handed : Option BufNo) (c : Channel) : Channel :=
  let p := c.port
  let c1 := match handed with
    | some b =>
      if channelProduces c then
        { c with port := { p with
            source := .buffer b, lastGood := some b
            buffers := (p.buffers.set b { p.buffers.get b with rendered := true, parity := p.parity }).set
              (otherBuffer b) .empty } }
      else
        let c0 := emptyBuffer b c
        { c0 with port := { c0.port with source := safeSource running m c0.port } }
    | none =>
      if channelProduces c then count c .repeats else { c with port := { p with source := safeSource running m p } }
  count { c1 with port := { c1.port with emittedLines := 0, emitted := [] } } .picturesScanned

/-! ## The PICTURE record (10/R174, R175) -/

/-- The PICTURE record of the picture in scan (10/R174). -/
def outputPicture (s : State) (k : Chan) (own : StationNo) (feed : FeedNo) (std : StdCode) (t : Time) : PictureRecord :=
  let p := (chan s k).port
  { origin := own, pub := outputOf k, feed, sequence := p.sequence, generation := pubGeneration s (outputOf k)
    kind := kindOf std p.parity, standard := std, stamp := t, lines := rawLines std, samples := (standardOf std).samples }

/-- Step 5 of a scan start (10/R174). -/
def publishScan (k : Chan) (std : StdCode) (t : Time) (s : State) : State :=
  match s.config with
  | some g =>
    match (g.chans.get k).outFeed with
    | some f =>
      if channelProduces (chan s k) ∧ isRunning s then
        let s1 := onChan k (onPort fun p => { p with sequence := p.sequence + 1, publishing := true }) s
        publishPicture (outputOf k) (outputPicture s1 k g.station f std t) s1
      else onChan k (onPort fun p => { p with publishing := false }) s
    | none => onChan k (onPort fun p => { p with publishing := false }) s
  | none => s

/-! ## SCAN_START -/

/-- The entry into CONVERTING where the scan start carries one, taken at this point of it (10/R169). What the entry changes
for the other channel settles at once, so its switch is taken before any PICTURE record that this scan start still forms
(04/R64; DESIGN CHOICE, notes/assumptions/47). -/
def enterAt (k : Chan) (here : Bool) (s : State) : State := if here then settle (onConfigured k enterConverting s) else s

/-- The configured safe mode; black where the channel has no configuration. -/
def safeModeOf (s : State) (k : Chan) : SafeMode := ((chanConfig s k).map (·.safeMode)).getD .black

/-- The scan start of a scanning port at `t` (10/R158; DESIGN CHOICE and DEDUCED, notes/assumptions/4, 19). -/
def scanAt (k : Chan) (entry : EntryOrder) (std : StdCode) (t : Time) (s : State) : State :=
  let (handed, c0) := disposeRecord (chan s k)
  let c1 := timeScan std t { c0 with ren := { c0.ren with selected := false } }
  let enters := entryHolds c1 && isRunning s
  let s1 := onChan k (fun _ => ownReference c1) s
  let s2 := enterAt k (enters && entry = .beforeSource) s1
  let s3 := onChan k (chooseSource (isRunning s2) (safeModeOf s2 k) handed) s2
  let s4 := enterAt k (enters && entry = .beforeRecord) s3
  let s5 := publishScan k std t s4
  enterAt k (enters && entry = .afterRecord) s5

/-- A port falls SILENT: T_out(n), T_out(n + 1) and the last frame start become none, the rest stays (10/R177; DEDUCED,
notes/assumptions/25). -/
def silencePort (p : Port) : Port :=
  { p with standard := none, tOut := none, tNext := none, lastFrame := none, publishing := false }

/-- SCAN_START: the announced scan start of a scanning port has been reached (10/R158, R177; DESIGN CHOICE,
notes/assumptions/3). -/
def scan (k : Chan) (entry : EntryOrder) (s : State) : State :=
  match (chan s k).port.standard, (chan s k).port.tNext with
  | some std, some t =>
    if reached s.now t then
      if s.station = .configFault then onChan k (onPort silencePort) s else scanAt k entry std t s
    else s
  | _, _ => s

/-! ## Emission (10/R159, R165, R167, R174) -/

/-- Y, Cb and Cr of each bar (10/R167). -/
def barColours : List Colour :=
  [⟨721, 512, 512⟩, ⟨646, 176, 567⟩, ⟨525, 625, 176⟩, ⟨450, 289, 231⟩, ⟨335, 735, 793⟩, ⟨260, 399, 848⟩, ⟨139, 848, 457⟩,
    ⟨64, 512, 512⟩]

/-- A group of one colour. -/
def flatGroup (q : Colour) : SampleGroup :=
  ⟨BitVec.ofNat 10 q.cb, BitVec.ofNat 10 q.y, BitVec.ofNat 10 q.cr, BitVec.ofNat 10 q.y⟩

/-- The fill colour, clamped and clipped (10/R167, 09/R154). -/
def fillGroup (z : Sizer) : SampleGroup :=
  ⟨clampChroma z z.fillColour.cb, clampLuma z z.fillColour.y, clampChroma z z.fillColour.cr, clampLuma z z.fillColour.y⟩

/-- The bar a sample position lies in (10/R167). -/
def barAt (samples x : Nat) : Colour := barColours.getD (x / (samples / 8)) blackColour

/-- The frame line a raw picture's line is read from in a source of parity `q` (10/R159, R165). -/
def sourceLine (std : StdCode) (q : Parity) (i : Nat) : Nat := if (standardOf std).interlaced then 2 * i + q.val else i

/-- The samples of a pair of positions of line `i` of the picture in scan (10/R159, R165, R167). -/
def scanGroup (c : Channel) (std : StdCode) (i x : Nat) : SampleGroup :=
  match c.port.source with
  | .buffer b =>
    let buf := c.port.buffers.get b
    if buf.rendered then readGroup buf.planes (sourceLine std buf.parity i) x else flatGroup blackColour
  | .black => flatGroup blackColour
  | .fill => fillGroup c.siz
  | .bars => flatGroup (barAt (standardOf std).samples x)

/-- The groups of a whole line. -/
def scanLine (c : Channel) (std : StdCode) (i : Nat) : List SampleGroup :=
  (List.range ((standardOf std).samples / 2)).map fun j => scanGroup c std i (2 * j)

/-- The four words of a marker (11/11.1). -/
def markerWords (k : MarkerKind) (p : Parity) : List Sample :=
  let f := BitVec.ofNat 10 (flagWord k p)
  [1023, 0, f, 1023 - f]

def sampleWords (gs : List SampleGroup) : List Sample := gs.flatMap fun g => [g.cb, g.y0, g.cr, g.y1]

/-- The words of an active line: START marker, samples, END marker (10/R159). -/
def lineWords (c : Channel) (std : StdCode) (i : Nat) : List Sample :=
  markerWords (if i = 0 then .pictureStart else .lineStart) c.port.parity ++ sampleWords (scanLine c std i)
    ++ markerWords .lineEnd c.port.parity

/-- The LINES records of a line, up to 256 samples each (10/R174). -/
def lineRecords (own : StationNo) (k : Chan) (feed : FeedNo) (seq : BitVec 8) (line rows : Nat) :
    Nat → Nat → List SampleGroup → List LinesRecord
  | 0, _, _ => []
  | n + 1, first, gs =>
    if gs = [] then []
    else
      { origin := own, pub := outputOf k, feed, last := line + 1 = rows && gs.length ≤ 128, sequence := seq, line, first
        groups := gs.take 128 } :: lineRecords own k feed seq line rows n (first + 256) (gs.drop 128)

/-- The records formed as a line is emitted, while the channel is producing (10/R174, R175). -/
def publishLine (k : Chan) (std : StdCode) (i : Nat) (s : State) : State :=
  match s.config.map (fun g => (g.station, (g.chans.get k).outFeed)) with
  | some (own, some f) =>
    let c := chan s k
    if c.port.publishing ∧ channelProduces c ∧ isRunning s then
      (lineRecords own k f c.port.sequence i (rawLines std) 8 0 (scanLine c std i)).foldl
        (fun s r => publishLines (outputOf k) r s) s
    else s
  | _ => s

/-- OUTPUT_LINE_RECORDS: the next active line of the picture in scan, or, after the last, a BLANK marker of the blanking
(10/R159, R174; DESIGN CHOICE, notes/assumptions/30). -/
def emitLine (k : Chan) (s : State) : State :=
  let c := chan s k
  match c.port.standard, c.port.tOut with
  | some std, some _ =>
    let i := c.port.emittedLines
    if i < rawLines std then
      let s1 := onChan k (onPort fun p => { p with emittedLines := i + 1, emitted := lineWords c std i }) s
      publishLine k std i s1
    else onChan k (onPort fun p => { p with emitted := markerWords .blank p.parity }) s
  | _, _ => s

/-! ## Starting and stopping (10/R162, R177) -/

/-- A port that starts afresh: its first scan start is this instant (10/R177). -/
def startPort (now : Time) (std : StdCode) (p : Port) : Port :=
  { p with standard := some std, picture := 0, tOut := none, tNext := some now, parity := 0, correction := 0
           lastFrame := none, lock := .freeRun, pendingError := none, source := .black, emittedLines := 0, emitted := []
           publishing := false }

/-- The port at the entry into RUNNING (10/R162, R177). -/
def enterRunningPort (now : Time) (r : Reference) (target : StdCode) (p : Port) : Port :=
  if target = 0 then silencePort p
  else if p.standard = some target then p
  else flagMismatch r (startPort now target p)

/-- The port at RESTART: its timebase is kept, its buffers and sequence are not (10/R177; DEDUCED,
notes/assumptions/25). -/
def restartPort (p : Port) : Port :=
  { p with buffers := Bank.fill 2 .empty, lastGood := none, sequence := 0, publishing := false }

end Sys2Proof.Machine
end

