-- ==== Sys2Proof/Machine/ChannelCommands.lean ====
section
/-! DEFINITION. Commands of a channel: ring, motion, render, port and supervisor, one definition per row (05, 07, 08, 10). -/

namespace Sys2Proof.Machine

/-- FINISH_DONE (05/R82). -/
def execFinishDone (dt : Nat) (ch : Chan) (slot : SlotNo) (s : State) : Result :=
  .next (conclude (onConfigured ch (finishSlot · slot) (advance dt s)))

/-- STALL (05/R90, 10/R169). -/
def execStall (dt : Nat) (ch : Chan) (s : State) : Result :=
  .next (conclude (stalled ch (advance dt s)))

/-- MOTION_JOB_START (07/R115). -/
def execMotionJobStart (dt : Nat) (ch : Chan) (s : State) : Result :=
  .next (conclude (onConfigured ch startJob (advance dt s)))

/-- MOTION_JOB_DONE (07/R122). -/
def execMotionJobDone (dt : Nat) (ch : Chan) (s : State) : Result :=
  .next (conclude (onChan ch endJob (advance dt s)))

/-- RENDER_SELECTION (08/R127 to R129). -/
def execRenderSelection (dt : Nat) (ch : Chan) (s : State) : Result :=
  .next (conclude (onConfigured ch makeSelection (advance dt s)))

/-- RENDER_BEGIN (08/R134, R135). -/
def execRenderBegin (dt : Nat) (ch : Chan) (s : State) : Result :=
  .next (conclude (onChan ch beginRender (advance dt s)))

/-- CONCEAL_POINT (08/R135). -/
def execConcealPoint (dt : Nat) (ch : Chan) (s : State) : Result :=
  .next (conclude (onConfigured ch takeConcealPoint (advance dt s)))

/-- RENDER_COMPLETE (08/R140). -/
def execRenderComplete (dt : Nat) (ch : Chan) (s : State) : Result :=
  .next (conclude (onConfigured ch (fun env => completeRender env.cfg.target) (advance dt s)))

/-- SCAN_START (10/R158). -/
def execScanStart (dt : Nat) (ch : Chan) (entry : EntryOrder) (s : State) : Result :=
  .next (conclude (scan ch entry (advance dt s)))

/-- OUTPUT_LINE_RECORDS (10/R159, R174). -/
def execOutputLineRecords (dt : Nat) (ch : Chan) (s : State) : Result :=
  .next (conclude (emitLine ch (advance dt s)))

/-- ACQUISITION_TIMER_EXPIRY (10/R168). -/
def execAcquisitionTimerExpiry (dt : Nat) (ch : Chan) (s : State) : Result :=
  .next (conclude (acquisitionTimer ch (advance dt s)))

/-- HOLDOVER_TIMER_EXPIRY (10/R170). -/
def execHoldoverTimerExpiry (dt : Nat) (ch : Chan) (s : State) : Result :=
  .next (conclude (holdoverTimer ch (advance dt s)))

/-- DECAY_TIMER_EXPIRY (10/R169). -/
def execDecayTimerExpiry (dt : Nat) (ch : Chan) (s : State) : Result :=
  .next (conclude (decayTimer ch (advance dt s)))

end Sys2Proof.Machine
end

