-- ==== Sys2Proof/Machine/InputCommands.lean ====
section
/-! DEFINITION. Commands of the reference input and of the ingest port: one definition per row (10/10.2, 11). -/

namespace Sys2Proof.Machine

/-- REFERENCE_PULSE (10/R160, R161). -/
def execReferencePulse (dt : Nat) (s : State) : Result :=
  .next (conclude (pulse (advance dt s)))

/-- REF_QUALIFY_TIMEOUT (10/R160). -/
def execRefQualifyTimeout (dt : Nat) (s : State) : Result :=
  .next (conclude (refTimeout (advance dt s)))

/-- REF_MISSED (10/R161). -/
def execRefMissed (dt : Nat) (s : State) : Result :=
  .next (conclude (refMiss (advance dt s)))

/-- INGEST_MARKER (11/R179, R180). -/
def execIngestMarker (dt : Nat) (tail : List Sample) (flag check : Sample) (s : State) : Result :=
  .next (conclude (ingestMark tail flag check (advance dt s)))

/-- INGEST_SAMPLE_GROUP (11/R181, R187). -/
def execIngestSampleGroup (dt : Nat) (cb y0 cr y1 : Sample) (s : State) : Result :=
  .next (conclude (ingestGroup ⟨cb, y0, cr, y1⟩ (advance dt s)))

/-- INGEST_DEADLINE (11/R184, R185). -/
def execIngestDeadline (dt : Nat) (s : State) : Result :=
  .next (conclude (ingestLate (advance dt s)))

end Sys2Proof.Machine
end

