-- ==== Sys2Proof/Machine/LinkCommands.lean ====
section
/-! DEFINITION. Commands of the exchange link, the Peer Table, the Publication Unit and the Copy Selectors: one definition per row (01 to 04). -/

namespace Sys2Proof.Machine

/-- RECORD_RECEIVED (01/R4 to R8). -/
def execRecordReceived (dt : Nat) (lane : LaneNo) (flight : Nat) (words : List Word) (s : State) : Result :=
  .next (conclude (receive lane flight words (advance dt s)))

/-- RECORD_SENT: a record boundary (01/R9). -/
def execRecordSent (dt : Nat) (s : State) : Result :=
  .next (conclude (endSending (advance dt s)))

/-- BEACON_TIMER_EXPIRY (01/R11). -/
def execBeaconTimerExpiry (dt : Nat) (s : State) : Result :=
  .next (conclude (beaconTimer (advance dt s)))

/-- QUALIFYING_DEADLINE (02/R21). -/
def execQualifyingDeadline (dt : Nat) (lane : LaneNo) (s : State) : Result :=
  .next (conclude (qualifyingExpired lane (advance dt s)))

/-- LIVE_DEADLINE (02/R23). -/
def execLiveDeadline (dt : Nat) (lane : LaneNo) (s : State) : Result :=
  .next (conclude (liveExpired lane (advance dt s)))

/-- LAPSED_DEADLINE (02/R24). -/
def execLapsedDeadline (dt : Nat) (lane : LaneNo) (s : State) : Result :=
  .next (conclude (lapsedExpired lane (advance dt s)))

/-- MILLISECOND_TICK (03/R40). -/
def execMillisecondTick (dt : Nat) (s : State) : Result :=
  .next (conclude (millisecond (advance dt s)))

/-- REFRESH_TIMER_EXPIRY (04/R60). -/
def execRefreshTimerExpiry (dt : Nat) (ch : Chan) (s : State) : Result :=
  .next (conclude (refreshExpired ch (advance dt s)))

/-- PASS_OVER_EXPIRY (04/R63). -/
def execPassOverExpiry (dt : Nat) (ch : Chan) (s : State) : Result :=
  .next (conclude (passOverExpired ch (advance dt s)))

/-- REVERT_HOLD_EXPIRY (04/R58). -/
def execRevertHoldExpiry (dt : Nat) (ch : Chan) (s : State) : Result :=
  .next (conclude (revertExpired ch (advance dt s)))

end Sys2Proof.Machine
end

