-- ==== Sys2Proof/Machine/Startup.lean ====
section
/-! DEFINITION. Configuration Loader and station states: the image, its clamping, the entry into RUNNING, CONFIG_FAULT, and
RESTART (12/12.1 to 12.3). -/

namespace Sys2Proof.Machine

/-! ## The image (12/12.2, R191) -/

def imageLength : Nat := 1117

/-- The words read: one the memory does not supply is all ones (12/R191). -/
def imageWords (image : List (BitVec 32)) : List (BitVec 32) :=
  image.take imageLength ++ List.replicate (imageLength - image.length) (BitVec.allOnes 32)

/-- The sum of the first 1,116 words, modulo 2^32, equals the last (12/R191). -/
def checksumHolds (image : List (BitVec 32)) : Bool :=
  ((imageWords image).take 1116).foldl (· + ·) 0 = ((imageWords image).getLast?).getD 0

/-- How a value is treated: a range, an even range, or taken as it is (12/12.2, R192). -/
inductive Treatment where
  | range (lo hi : Int)
  | evenRange (lo hi : Int)
  | asIs
deriving DecidableEq, Repr

/-- Station values, by order (12/12.2). -/
def stationTreatment (n : Nat) : Treatment :=
  match n with
  | 1 => .range 0 7
  | 3 => .range 1 7
  | 5 => .range 0 13
  | 6 => .range 0 63
  | _ => .asIs

/-- Values of a channel, by order (12/12.2). -/
def channelTreatment (n : Nat) : Treatment :=
  match n with
  | 1 => .asIs
  | 2 => .range 0 13
  | 3 => .asIs
  | 4 => .range 1 7
  | 5 => .asIs
  | 6 => .range 0 1151
  | 7 => .range 1 1152
  | 8 => .evenRange 0 2046
  | 9 => .evenRange 2 2048
  | 10 => .range 1000000 3600000
  | 11 => .range 0 255
  | 12 => .range 0 255
  | 13 => .range 0 255
  | 14 => .range 1 63
  | 15 => .range 2 8
  | 16 => .asIs
  | 17 => .range 1 10
  | 18 => .range 100 10000
  | 19 => .range 0 15
  | 20 => .range 0 60
  | 21 => .range 1 255
  | 22 => .range 1 255
  | 23 => .range 0 1151
  | 24 => .range 1 1152
  | 25 => .evenRange 0 2046
  | 26 => .evenRange 2 2048
  | 27 => .range 4 1019
  | 28 => .range 4 1019
  | 29 => .range 4 1019
  | 30 => .range 0 3
  | 43 => .asIs
  | n => if n < 40 then .range (-4096) 4095 else if n < 43 then .range (-512) 511 else .range (-256) 511

/-- The treatment of a word by its place in the image, counted from 0: 6 station words, then 555 of each channel, then
the checksum (12/12.2). -/
def treatmentAt (i : Nat) : Treatment :=
  if i < 6 then stationTreatment (i + 1)
  else if i < 561 then channelTreatment (i - 5)
  else if i < 1116 then channelTreatment (i - 560)
  else .asIs

/-- The value left after clamping (12/R192). -/
def treat (t : Treatment) (v : Int) : Int :=
  match t with
  | .range lo hi => clampInt lo hi v
  | .evenRange lo hi => clampInt lo hi v - clampInt lo hi v % 2
  | .asIs => v

/-- The values read, as signed integers (12/12.2). -/
def rawValues (image : List (BitVec 32)) : List Int := (imageWords image).map (·.toInt)

def treatedValues (image : List (BitVec 32)) : List Int := (rawValues image).mapIdx fun i v => treat (treatmentAt i) v

/-- The clamp count: the values replaced (12/R192, DEDUCED, notes/assumptions/24). -/
def clampCountOf (image : List (BitVec 32)) : Nat :=
  ((rawValues image).zip (treatedValues image)).countP fun p => p.1 ≠ p.2

/-! ## The values of an accepted image (12/12.2) -/

/-- A feed word: a value outside 0 to 63 means none. -/
def feedOfWord (v : Int) : Option FeedNo :=
  if h : 0 ≤ v ∧ v < 64 then some ⟨v.toNat, by omega⟩ else none

def onOff (v : Int) : Bool := v ≠ 0

def natOf (v : Int) : Nat := v.toNat
def stdOfWord (v : Int) : StdCode := Fin.ofNat 14 v.toNat
def rankOfWord (v : Int) : Rank := Fin.ofNat 8 v.toNat

def safeOfWord (v : Int) : SafeMode := if v = 0 then .black else if v = 1 then .fill else if v = 2 then .bars else .freeze

def rectOfWords (v : Nat → Int) (n : Nat) : Rect := ⟨natOf (v n), natOf (v (n + 1)), natOf (v (n + 2)), natOf (v (n + 3))⟩

/-- A filter table whose first coefficient is the value of order `n`. -/
def tableOfWords (v : Nat → Int) (n : Nat) : FilterTable := Bank.ofFn fun p => Bank.ofFn fun c => v (n + 4 * p.val + c.val)

/-- A channel's configured values, `v` giving the value of each order (12/12.2). -/
def chanConfigOf (v : Nat → Int) : ChanConfig :=
  { feed := feedOfWord (v 1), target := stdOfWord (v 2), outFeed := feedOfWord (v 3), outRank := rankOfWord (v 4)
    outPublish := onOff (v 5), crop := rectOfWords v 6, delay := natOf (v 10), stillThreshold := natOf (v 11)
    repeatThreshold := natOf (v 12), combThreshold := natOf (v 13), matchLimit := natOf (v 14), lockCycles := natOf (v 15)
    cadenceEnable := onOff (v 16), acquisitionSeconds := natOf (v 17), holdoverMs := natOf (v 18)
    relockLimit := natOf (v 19), revertSeconds := natOf (v 20), callDuration := BitVec.ofNat 8 (natOf (v 21))
    refreshMs := natOf (v 22), placement := rectOfWords v 23
    fillColour := ⟨natOf (v 27), natOf (v 28), natOf (v 29)⟩, safeMode := safeOfWord (v 30)
    matrix := Bank.ofFn fun i => v (31 + i.val), offsets := Bank.ofFn fun i => v (40 + i.val), legal := onOff (v 43)
    vTable := tableOfWords v 44, hTable := tableOfWords v 300 }

/-- The configuration of an accepted image (12/R192, R194). -/
def configOf (image : List (BitVec 32)) : StationConfig :=
  let vs := treatedValues image
  let v := fun n => vs.getD (n - 1) 0
  { station := Fin.ofNat 8 (natOf (v 1)), ingestFeed := feedOfWord (v 2), ingestRank := rankOfWord (v 3)
    ingestPublish := onOff (v 4), reference := stdOfWord (v 5), eventMask := BitVec.ofNat 6 (natOf (v 6))
    chans := ⟨[chanConfigOf fun n => v (6 + n), chanConfigOf fun n => v (561 + n)], rfl⟩ }

/-! ## Judging a channel (12/R193) -/

inductive Judgement where | notConfigured | refused | configured
deriving DecidableEq, Repr

def judgeChannel (g : ChanConfig) : Judgement :=
  match g.feed with
  | none => .notConfigured
  | some f => if g.target = 0 then .refused else if g.outFeed = some f then .refused else .configured

/-! ## The entry into RUNNING (12/R194) -/

/-- The Reference Input takes the configured standard (10/R177). -/
def takeReference (std : StdCode) (r : Reference) : Reference :=
  if r.standard = std then r else { absent r with standard := std }

/-- A change of the reference standard of a VALID reference takes it from the ports (10/R162). -/
def portsLoseReference (std : StdCode) (s : State) : State :=
  if s.ref.standard ≠ std ∧ s.ref.state = .valid then onPorts loseReference s else s

/-- Steps 1 and 2: the values in force, the reference and the ports (12/R194). -/
def takeConfig (g : StationConfig) (s : State) : State :=
  let s1 := { s with station := .running, config := some g, eventMask := g.eventMask }
  let s2 := onRef (takeReference g.reference) (portsLoseReference g.reference s1)
  let port := fun (k : Chan) => onChan k fun c =>
    takeColour (g.chans.get k) (onPort (enterRunningPort s2.now s2.ref (g.chans.get k).target) c)
  port 1 (port 0 s2)

/-- Step 3: the beacon timer, the tick and the statuses (12/R194). The first beacon is due at the entry itself, so the
timer's first expiry is taken here (01/R11; DEDUCED, notes/assumptions/48); a RESTART that still waits for the record in
progress acts before it (DEDUCED, notes/assumptions/9). The re-judgements of step 4 hear the statuses (04/R53). -/
def startPublishing (s : State) : State :=
  hearAdverts (storeAdverts { s with
    tx := beaconExpired s.now { payRestart s.tx with startCount := 16 }
    pub := { s.pub with tick := some (shift s.now ticksPerMs) } })

/-- Step 4 for one channel (12/R193, R194). -/
def startChannel (g : StationConfig) (s : State) (k : Chan) : State :=
  let cfg := g.chans.get k
  match judgeChannel cfg with
  | .notConfigured => s
  | .refused => onChan k (flag · .channelRefused) s
  | .configured => enterAcquiring k (onChan k (fun c => formTables cfg (formPlacement cfg c)) s)

def enterRunning (g : StationConfig) (s : State) : State :=
  startChannel g (startChannel g (startPublishing (takeConfig g s)) 0) 1

/-- CONFIG_READ_DONE (12/R191 to R195). Only a station that is LOADING has a read in progress. -/
def readDone (image : List (BitVec 32)) (s : State) : State :=
  if s.station ≠ .loading then s
  else if checksumHolds image then
    let n := clampCountOf image
    let s1 := { countStation s .loads with clampCount := some n }
    enterRunning (configOf image) (if n = 0 then s1 else flagStation s1 .configClamped)
  else flagStation { countStation s .configFaults with station := .configFault } .configFault

/-! ## RESTART (12/R196) -/

/-- A channel at RESTART: the flush, then every block's power-on values but for counters and flags (04/R69, 05/R92,
06/R112, 07/R125, 08/R144, 09/R157, 10/R177, R178). -/
def restartChannel (now : Time) (c : Channel) : Channel :=
  let c1 := flush now c
  { c1 with csl := .powerOn, int := .powerOn, cad := .powerOn, meu := .powerOn, ren := .powerOn, siz := .powerOn
            sup := .powerOn, port := restartPort c1.port }

/-- The transmitter at RESTART: a record being sent is completed first, and the rest waits for it (01/R10; DEDUCED,
notes/assumptions/9). -/
def restartTransmit (x : Transmit) : Transmit :=
  if x.sending.isSome then { x with restartOwed := true, instant := none } else clearTransmit x

/-- The Publication Unit at RESTART (03/R52). -/
def restartPublication (u : Publication) : Publication :=
  { u with adverts := u.adverts.map fun a => { a with status := .none }, lastSequence := Bank.fill 3 0
           demand := Bank.fill 3 (Bank.fill 8 0), slots := Bank.fill 2 .freed, tick := none }

/-- RESTART, as one action (12/R196). -/
def restartStation (s : State) : State :=
  flagStation { s with
    epoch := s.epoch + 1, station := .loading, tx := restartTransmit s.tx
    lanes := s.lanes.map fun x => { x with entry := .cleared }
    pub := restartPublication s.pub, ing := { s.ing with forming := false }
    chans := s.chans.map (restartChannel s.now) } .restarted

end Sys2Proof.Machine
end

