-- ==== Sys2Proof/Machine/Snapshot.lean ====
section
/-! DEFINITION. The snapshots that reads return, as bytes (12/R197, R200). A part of variable length is sent padded with
none to its greatest length (DESIGN CHOICE, notes/assumptions/21). -/

namespace Sys2Proof.Machine

/-! ## Values (12/R197) -/

/-- A value of a snapshot: a 64-bit integer, eight bytes, most significant first (12/R197). -/
def valueBytes (v : BitVec 64) : List Byte := (List.range 8).map fun i => BitVec.ofNat 8 (v.toNat / 2 ^ (8 * (7 - i)))

def noneValue : BitVec 64 := BitVec.ofNat 64 (2 ^ 63)

abbrev Values := List (BitVec 64)

def vNat (n : Nat) : Values := [BitVec.ofNat 64 n]
def vInt (x : Int) : Values := [BitVec.ofInt 64 x]
def vBits {n : Nat} (b : BitVec n) : Values := [BitVec.ofNat 64 b.toNat]
/-- Set or on is sent as 1, clear or off as 0, in every snapshot (DESIGN CHOICE, notes/assumptions/50). -/
def vBool (b : Bool) : Values := vNat (if b then 1 else 0)
def vFin {n : Nat} (i : Fin n) : Values := vNat i.val
def vNones (n : Nat) : Values := List.replicate n noneValue

/-- A value or none, `n` values long. -/
def vOpt {α : Type} (n : Nat) (f : α → Values) : Option α → Values
  | some a => f a
  | none => vNones n

def vOptNat : Option Nat → Values := vOpt 1 vNat
def vTime : Option Time → Values := vOpt 1 vBits

/-- A list of up to `k` things, `n` values each, padded with none. -/
def vList {α : Type} (k n : Nat) (f : α → Values) (xs : List α) : Values :=
  (xs.take k).flatMap f ++ vNones ((k - xs.length) * n)

def vBank {n : Nat} {α : Type} (f : α → Values) (b : Bank n α) : Values := b.items.flatMap f

def vCounts {n : Nat} (b : Bank n Count) : Values := vBank vBits b

/-- The counters of a channel from one place on, so many of them. -/
def vSlice (c : Channel) (x : ChanCtr) (n : Nat) : Values := ((c.tally.items.drop x.ctorIdx).take n).flatMap vBits

def vRect (r : Rect) : Values := vNat r.firstLine ++ vNat r.lineCount ++ vNat r.firstSample ++ vNat r.sampleCount

/-! ## READ_SUMMARY (12/R200) -/

def summaryValues (s : State) : Values :=
  vNat s.station.ctorIdx ++ vBits s.epoch ++ vBits s.now ++ vOpt 1 vFin (ownNumber s) ++ vOptNat s.clampCount
    ++ vBits s.eventMask ++ (List.range 6).flatMap fun g => (groupFlags s g).flatMap vBool

/-! ## READ_CHANNEL (12/R200) -/

/-- The configured values of the orders 1 to 43; filter coefficients are not returned (12/12.2, 09/R156). -/
def configValues (g : ChanConfig) : Values :=
  vOpt 1 vFin g.feed ++ vFin g.target ++ vOpt 1 vFin g.outFeed ++ vFin g.outRank ++ vBool g.outPublish ++ vRect g.crop
    ++ vNat g.delay ++ vNat g.stillThreshold ++ vNat g.repeatThreshold ++ vNat g.combThreshold ++ vNat g.matchLimit
    ++ vNat g.lockCycles ++ vBool g.cadenceEnable ++ vNat g.acquisitionSeconds ++ vNat g.holdoverMs
    ++ vNat g.relockLimit ++ vNat g.revertSeconds ++ vBits g.callDuration ++ vNat g.refreshMs ++ vRect g.placement
    ++ vNat g.fillColour.y ++ vNat g.fillColour.cb ++ vNat g.fillColour.cr ++ vNat g.safeMode.ctorIdx
    ++ vBank vInt g.matrix ++ vBank vInt g.offsets ++ vBool g.legal

/-- The origin of a copy, numbered as FORCE_COPY's argument is (12/R199; DESIGN CHOICE, notes/assumptions/61). -/
def vOrigin : Origin → Values
  | .lane l => vFin l
  | .internal => vNat 7

def vCopy (q : Copy) : Values := vOrigin q.origin ++ vFin q.station ++ vFin q.pub

/-- AUTO is sent with the origin by which FORCE_COPY names it, and no station and index (12/R199; DESIGN CHOICE,
notes/assumptions/61). -/
def vForced : Option Copy → Values
  | some q => vCopy q
  | none => vNat 255 ++ vNones 2

def vCandidate (s : State) (k : Chan) (d : Candidate) : Values :=
  vOrigin d.origin ++ vOpt 1 vFin d.station ++ vFin d.pub ++ vOpt 1 vFin d.feed ++ vOpt 1 vFin d.rank
    ++ vNat d.status.ctorIdx ++ vFin d.generation ++ vFin d.standard ++ vBool (eligible s k d)

/-- Copy Selector (04/4.1, 4.8). A stopped refresh timer is sent as none (DESIGN CHOICE, notes/assumptions/58), and an entry
of the pass-over list as lane, station, publishable and expiry (DESIGN CHOICE, notes/assumptions/59). -/
def selectorValues (s : State) (k : Chan) : Values :=
  let q := (chan s k).csl
  vOpt 3 vCopy q.selection ++ vForced q.forced
    ++ vList 4 4 (fun (e : PassOver) => vFin e.lane ++ vFin e.station ++ vFin e.pub ++ vBits e.expiry) q.passOver
    ++ vOpt 4 (fun (r : Copy × Time) => vCopy r.1 ++ vBits r.2) q.revert ++ vTime q.refresh ++ vOpt 1 vFin q.callTarget
    ++ vNat q.deferred ++ vInt q.rebase ++ vNat q.rebaseStep ++ vBool q.rebasePending ++ vFin q.sourceGeneration
    ++ (candidates s k).flatMap (vCandidate s k)
    ++ vSlice (chan s k) .copySwitch 4

def vRaw (r : RawPicture) : Values :=
  vNat r.kind.ctorIdx ++ vOpt 1 vFin (parityOf r.kind) ++ vBits r.sequence ++ vBits r.stamp ++ vBits r.switchCount

/-- Cadence flags, numbered R, N, S and S, L, H (05/R79, 06/6.1, R98; DESIGN CHOICE, notes/assumptions/64). -/
def vFlags (r : RawPicture) : Values :=
  vOpt 2 (fun (f : RepeatFlag × CombFlag) => vNat f.1.ctorIdx ++ vNat f.2.ctorIdx) r.flags

def slotValues (c : Channel) (i : SlotNo) : Values :=
  let s := slotOf c i
  vNat s.state.ctorIdx ++ vList 2 5 vRaw s.raws ++ vTime s.committed ++ vList 2 2 vFlags s.raws
    ++ vBool (renderMark c i) ++ vBool (motionMark c i) ++ vBool (historyMark c i) ++ vBool (finishMark c i)
    ++ vNat s.missing ++ vBool s.table.isSome

/-- Intake Unit (05/R91). An entry of the field history is sent as the slot that holds the raw picture and its place
there (DESIGN CHOICE, notes/assumptions/51). -/
def intakeValues (c : Channel) : Values :=
  let n := c.int
  vOpt 3 vCopy n.aim ++ vFin n.standard ++ vOpt 4 vRect n.crop ++ vOpt 1 vFin n.openSlot ++ vOpt 1 vBits n.refused
    ++ vBits n.switchCount ++ vNat n.pEst ++ vTime n.lastClosed ++ vTime n.newest ++ vTime n.lastCommitted
    ++ vList 12 1 vFin n.committed ++ vList 2 2 (fun (e : HistoryEntry) => vFin e.slot ++ vNat e.index) n.history
    ++ vOpt 1 vFin n.retireRef ++ vTime n.lastCommitTime ++ vBool n.stallMark
    ++ slotNumbers.flatMap (slotValues c) ++ vSlice c .picturesAdmitted 13

/-- Numbered FILM32, FILM22, REP32, REP22 (06/6.1; DESIGN CHOICE, notes/assumptions/64). -/
def vFamily (f : Family) : Values := vNat f.ctorIdx

/-- A hypothesis record; the family of an unused one is sent as none (DESIGN CHOICE, notes/assumptions/58). -/
def vHypothesis (h : Hypothesis) : Values := vOpt 1 vFamily h.family ++ vOptNat h.next ++ vNat h.count

/-- Cadence Detector (06/R111). The last repeat flag is numbered as vFlags numbers one. An absent entry of the repeat or comb history is sent as none (DESIGN CHOICE,
notes/assumptions/58). -/
def cadenceValues (c : Channel) : Values :=
  let d := c.cad
  vList 2 1 vFamily (huntedSet d) ++ vNat (match d.mode with | some f => f.ctorIdx + 1 | none => 0)
    ++ vHypothesis d.rec32 ++ vHypothesis d.rec22 ++ vOpt 1 vFamily d.pendingLock ++ vTime d.anchor
    ++ vList 5 1 vOptNat d.repeats ++ vList 2 1 vOptNat d.combs
    ++ vOpt 1 (fun (f : RepeatFlag) => vNat f.ctorIdx) d.lastFlag
    ++ slotNumbers.flatMap (fun i => vList 2 2 vFlags (slotOf c i).raws) ++ vNat (pCommit d.mode c.int.pEst)
    ++ vSlice c .cadenceLocks 3

def vVec (v : Vec) : Values := vInt v.x ++ vInt v.y

/-- Motion Estimator (07/R125). -/
def motionValues (k : Chan) (now : Time) (c : Channel) : Values :=
  vList 12 2 (fun (q : Pair) => vFin q.b ++ vFin q.a) c.meu.pending
    ++ vOpt 5 (fun (j : Job) => vFin j.pair.b ++ vFin j.pair.a ++ vNat j.columns ++ vNat j.rows
        ++ vNat (recordsWritten k now j)) c.meu.job
    ++ slotNumbers.flatMap (fun i => vNat (vectorState c i).ctorIdx
        ++ vOpt 4 (fun (t : VectorTable) => vNat t.invalid ++ vOpt 2 vVec t.globalVec ++ vBool t.cut) (slotOf c i).table)
    ++ vSlice c .motionJobs 4

/-- Which of A-only, needs B and awaiting B applies to a WAITING record: 0, 1 or 2 in the order of 08/R143, none of any
other record (DESIGN CHOICE, notes/assumptions/52). -/
def readinessValue (r : RenderRecord) : Values :=
  if r.state ≠ .waiting then vNones 1 else if isAOnly r then vNat 0 else if needsB r then vNat 1 else vNat 2

/-- The render mode by its position in "none, VECTORED, PLAIN, A_ONLY" (08/8.1, 12/R197); none, which takes the first
position of that list, is sent as every none is (DEDUCED, notes/assumptions/53). -/
def vMode : Option RenderMode → Values := vOpt 1 fun m => vNat (m.ctorIdx + 1)

/-- The fields of 08/8.1 in the table's order, then the readiness, whose place the manual does not give (DESIGN CHOICE,
notes/assumptions/52). -/
def recordValues (r : RenderRecord) : Values :=
  vNat r.picture ++ vBits r.tOut ++ vBits r.select ++ vBits r.conceal ++ vBits r.point ++ vNat r.state.ctorIdx
    ++ vFin r.a ++ vOpt 1 vFin r.b ++ vBool r.early ++ vOptNat r.prelim
    ++ vMode r.mode ++ vOptNat r.weight ++ vFin r.buffer ++ readinessValue r

/-- Render Engine (08/R143). -/
def renderValues (c : Channel) : Values :=
  vOptNat c.ren.dEff ++ vOpt 14 recordValues c.ren.record ++ vSlice c .renders 9

/-- Sizer and colour stage (09/R156). -/
def sizerValues (z : Sizer) : Values :=
  vOpt 4 vRect z.placement ++ vOptNat z.vStep ++ vOptNat z.hStep ++ vBool z.vReplaced ++ vBool z.hReplaced
    ++ vBank vInt z.matrix ++ vBank vInt z.offsets ++ vBool z.legal
    ++ vNat z.fillColour.y ++ vNat z.fillColour.cb ++ vNat z.fillColour.cr

/-- Numbered buffer 0, buffer 1, BLACK, FILL, BARS (10/10.1; DESIGN CHOICE, notes/assumptions/64). -/
def vSource : ScanSource → Values
  | .buffer b => vFin b
  | .black => vNat 2
  | .fill => vNat 3
  | .bars => vNat 4

def vBuffer (b : Buffer) : Values := vBool b.rendered ++ vFin b.parity

/-- The port's fields (10/10.1). SILENT, which names no standard, is sent as none (DESIGN CHOICE,
notes/assumptions/54). -/
def portValues (p : Port) : Values :=
  vOpt 1 vFin p.standard ++ vNat p.picture ++ vTime p.tOut ++ vTime p.tNext ++ vFin p.parity ++ vInt p.correction
    ++ vNat p.lock.ctorIdx ++ vOpt 1 vInt p.pendingError ++ vBank vBuffer p.buffers ++ vSource p.source
    ++ vOpt 1 vFin p.lastGood ++ vBits p.sequence

/-- The Reference Input's fields (10/10.2). -/
def referenceValues (r : Reference) : Values :=
  vNat r.state.ctorIdx ++ vFin r.standard ++ vTime r.lastPulse ++ vOptNat r.good ++ vTime r.expected ++ vOptNat r.miss
    ++ vOpt 1 vInt r.measured

/-- Channel Supervisor, port and Reference Input (10/R176). A stopped timer is sent as none (DESIGN CHOICE,
notes/assumptions/58). -/
def supervisorValues (s : State) (k : Chan) : Values :=
  let c := chan s k
  vNat c.sup.state.ctorIdx ++ vNat c.sup.relock ++ vOptNat ((chanConfig s k).map (·.relockLimit))
    ++ vTime c.sup.acquisition ++ vTime c.sup.holdover ++ vTime c.sup.decay ++ portValues c.port
    ++ referenceValues s.ref ++ vSlice c .picturesScanned 3 ++ vCounts s.ref.tally ++ vSlice c .convertStarts 6

def channelValues (s : State) (k : Chan) : Values :=
  vOpt 43 configValues (chanConfig s k) ++ selectorValues s k ++ intakeValues (chan s k) ++ cadenceValues (chan s k)
    ++ motionValues k s.now (chan s k) ++ renderValues (chan s k) ++ sizerValues (chan s k).siz ++ supervisorValues s k

/-! ## READ_PEERS (02/R34) -/

/-- An entry of feed none is sent with the zeros it holds (DESIGN CHOICE, notes/assumptions/46). -/
def vEntry (e : PubEntry) : Values :=
  vOpt 1 vFin e.feed ++ vFin e.rank ++ vFin e.generation ++ vNat e.status.ctorIdx ++ vFin e.standard ++ vBits e.sequence

/-- The fields of 02/2.1 and the lane's counters; the start mark as 1 or 0 (DESIGN CHOICE, notes/assumptions/50). -/
def laneValues (x : Lane) : Values :=
  let e := x.entry
  vNat e.state.ctorIdx ++ vOpt 1 vFin e.station ++ vOpt 1 vBits e.epoch ++ vNat e.count ++ vBool e.startMark
    ++ vTime e.lastArrival ++ vTime e.deadline ++ vBits e.offset ++ vNat e.stepCount ++ vBank vEntry e.entries
    ++ vCounts x.tally

def peerValues (s : State) : Values := vBank laneValues s.lanes

/-! ## READ_COUNTERS (12/R200) -/

def transmitValues (x : Transmit) : Values := vCounts x.tally ++ vBank vCounts x.slotTally

/-- The reason is numbered YIELD, RELEASE (03/3.5; DESIGN CHOICE, notes/assumptions/64). -/
def pubSlotValues (x : PubSlot) : Values :=
  vNat x.state.ctorIdx ++ vOpt 1 vFin x.holder ++ vBool x.openPicture
    ++ vOpt 1 (fun (r : EndReason) => vNat r.ctorIdx) x.reason

/-- The counters of the Publication Unit with its snapshot (03/3.7). -/
def publicationValues (u : Publication) : Values :=
  vCounts u.tally ++ vBank vCounts u.itemTally ++ vBank (fun (a : Advert) => vNat a.status.ctorIdx) u.adverts
    ++ vBank (vBank vBits) u.demand ++ vBank pubSlotValues u.slots

/-- Numbered interlaced, progressive (DESIGN CHOICE, notes/assumptions/64). -/
def vScan (x : Scan) : Values := vNat x.ctorIdx

def measureValues (r : RawMeasure) : Values :=
  vFin r.parity ++ vBits r.start ++ vNat r.lines ++ vOptNat r.samples ++ vBool r.irregular

/-- An open line: its index, how many words it has so far, and those words. -/
def openLineValues (l : OpenLine) : Values :=
  vNat l.index ++ vNat (4 * l.groups.length + l.begun.length)
    ++ l.groups.flatMap (fun g => vBits g.cb ++ vBits g.y0 ++ vBits g.cr ++ vBits g.y1) ++ l.begun.flatMap vBits

/-- The ingest port's counters, fields and last measurement (11/R189). -/
def ingestValues (g : Ingest) : Values :=
  vCounts g.tally ++ vNat g.state.ctorIdx ++ vFin g.locked ++ vOpt 1 vFin g.candidate ++ vNat g.matchCount
    ++ vOpt 5 measureValues g.raw ++ vOpt 1 vFin g.previousParity ++ vOpt 2 openLineValues g.openLine ++ vTime g.deadline
    ++ vBits g.sequence ++ vBool g.forming
    ++ vOpt 4 (fun (m : Measurement) => vNat m.lines ++ vOptNat m.samples ++ vInt m.period ++ vOpt 1 vScan m.scan)
      g.lastMeasure

/-- The snapshot of a READ_COUNTERS block; none for an unknown block (12/R199, R200). -/
def counterValues (s : State) (block : Byte) : Option Values :=
  match block.toNat with
  | 0 => some (transmitValues s.tx)
  | 1 => some (publicationValues s.pub)
  | 2 => some (ingestValues s.ing)
  | 3 => some (vCounts s.ref.tally ++ referenceValues s.ref)
  | 4 => some (vCounts s.tally)
  | _ => none

end Sys2Proof.Machine
end

