-- ==== Sys2Proof/Machine/Management.lean ====
section
/-! DEFINITION. Management Port: transactions, outcomes, and the commands it carries (12/12.4). -/

namespace Sys2Proof.Machine

/-! ## Outcomes (12/R197 to R199) -/

inductive Refused where | badArgument | badChannel | notRunning | notLatched
deriving DecidableEq, Repr

/-- The reason byte of a refusal (12/R199). -/
def reasonByte : Refused → Byte
  | .badArgument => 1
  | .badChannel => 2
  | .notRunning => 3
  | .notLatched => 4

def onMgmt (f : Management → Management) (s : State) : State := { s with mgp := f s.mgp }

/-- The command has been received: the bytes clocked out after it (12/R197). -/
def answer (bytes : List Byte) (s : State) : State :=
  onMgmt (fun m => { m with phase := .received, response := bytes }) s

/-- A refused command changes no state but its count and its outcome (12/R198). -/
def refuseWith (r : Refused) (s : State) : State := answer [reasonByte r] (countStation s .commandsRefused)

/-- An accepted command that asks for no snapshot. -/
def accept (s : State) : State := answer [0] (countStation s .commandsAccepted)

/-- An accepted read: the snapshot is taken with the command counted (DESIGN CHOICE, notes/assumptions/22, 6). -/
def acceptRead (values : State → Values) (s : State) : State :=
  let s1 := countStation s .commandsAccepted
  answer (0 :: (values s1).flatMap valueBytes) s1

/-- A channel byte; none above 1 (12/R198). -/
def channelOf (b : Byte) : Option Chan := if b = 0 then some 0 else if b = 1 then some 1 else none

/-- The channel a byte names, where it is not IDLE (12/R198). -/
def activeChannel (b : Byte) (s : State) : Option Chan :=
  match channelOf b with
  | some k => if (chan s k).sup.state = .idle then none else some k
  | none => none

/-- The byte clocked out at a place after the command: the outcome, the snapshot, and 0 after the end of the response
(12/R197). -/
def responseByte (m : Management) (i : Nat) : Byte := m.response.getD i 0

/-! ## Transactions (12/R197) -/

/-- SELECT_ASSERTED: the summary is taken as the first byte out. The end of a transaction whose command was received is no
command of the table, so the next assertion ends it (DESIGN CHOICE, notes/assumptions/6). -/
def selectStart (s : State) : State :=
  match s.mgp.phase with
  | .selected => s
  | _ => onMgmt (fun _ => { phase := .selected, summary := eventSummary s, response := [] }) s

/-- SELECT_RELEASED_EARLY: before the command is received the transaction is aborted and counted; after it only the
clocking out ends. -/
def selectEnd (s : State) : State :=
  match s.mgp.phase with
  | .idle => s
  | .selected => onMgmt (fun m => { m with phase := .idle, response := [] }) (countStation s .mgpAborted)
  | .received => onMgmt (fun m => { m with phase := .idle, response := [] }) s

/-! ## Reads (12/R200) -/

def readChannelCmd (b : Byte) (s : State) : State :=
  match channelOf b with
  | some k => acceptRead (channelValues · k) s
  | none => refuseWith .badChannel s

def readCountersCmd (b : Byte) (s : State) : State :=
  if b.toNat ≤ 4 then acceptRead (fun s => (counterValues s b).getD []) s else refuseWith .badArgument s

/-! ## Other commands -/

/-- CLEAR_EVENTS (12/R198, R202). -/
def clearEventsCmd (g f inst : Byte) (s : State) : State :=
  if s.station = .loading then refuseWith .notRunning s
  else match clearFlags s g.toNat f.toNat inst.toNat with
    | some s1 => accept s1
    | none => refuseWith .badArgument s

/-- RELEASE_LATCH (12/R198, 10/R173). -/
def releaseLatchCmd (b : Byte) (s : State) : State :=
  if !isRunning s then refuseWith .notRunning s
  else match activeChannel b s with
    | none => refuseWith .badChannel s
    | some k =>
      if (chan s k).sup.state = .latched then
        accept (enterAcquiring k
          (onChan k (fun c => { c with sup := { c.sup with relock := 0 } }) s))
      else refuseWith .notLatched s

/-- The copy that FORCE_COPY names: none where it is refused; `some none` is AUTO (12/R199, 04/R59; DEDUCED,
notes/assumptions/38). -/
def forcedOf (s : State) (k : Chan) (origin station pub : Byte) : Option (Option Copy) :=
  if origin = 255 then some none
  else if hs : station.toNat < 8 then
    if hp : pub.toNat < 3 then
      let n : StationNo := ⟨station.toNat, hs⟩
      let p : PubIx := ⟨pub.toNat, hp⟩
      if hl : origin.toNat < 7 then some (some ⟨.lane ⟨origin.toNat, hl⟩, n, p⟩)
      else if origin = 7 then (if p = outputOf k ∨ ownNumber s ≠ some n then none else some (some ⟨.internal, n, p⟩))
      else none
    else none
  else none

/-- FORCE_COPY (12/R198, 04/R59). A channel that is LATCHED does not re-judge. -/
def forceCopyCmd (b origin station pub : Byte) (s : State) : State :=
  if !isRunning s then refuseWith .notRunning s
  else match activeChannel b s with
    | none => refuseWith .badChannel s
    | some k => match forcedOf s k origin station pub with
      | none => refuseWith .badArgument s
      | some q => accept (rejudgeOne k (onChan k (fun c => { c with csl := { c.csl with forced := q } }) s))

/-- RESTART (12/R196). -/
def restartCmd (s : State) : State := accept (restartStation s)

end Sys2Proof.Machine
end

