-- ==== Sys2Proof/Machine/StationCommands.lean ====
section
/-! DEFINITION. Start-up and management commands: one definition per row of the opcode table (12). -/

namespace Sys2Proof.Machine

/-- POWER_ON: every block takes its power-on values; what waits in the queue waits on (12/R190, DESIGN CHOICE,
notes/assumptions/40). -/
def execPowerOn (s : State) : Result :=
  .next { State.reset with pending := s.pending }

/-- CONFIG_READ_DONE (12/R191 to R195). -/
def execConfigReadDone (dt : Nat) (image : List (BitVec 32)) (s : State) : Result :=
  .next (conclude (readDone image (advance dt s)))

/-- SELECT_ASSERTED (12/R197, step 1). -/
def execSelectAsserted (dt : Nat) (s : State) : Result :=
  .next (conclude (selectStart (advance dt s)))

/-- SELECT_RELEASED_EARLY (12/R197). -/
def execSelectReleasedEarly (dt : Nat) (s : State) : Result :=
  .next (conclude (selectEnd (advance dt s)))

/-- READ_SUMMARY (12/R200). -/
def execReadSummary (dt : Nat) (s : State) : Result :=
  .next (conclude (acceptRead summaryValues (advance dt s)))

/-- READ_CHANNEL (12/R200). -/
def execReadChannel (dt : Nat) (channel : Byte) (s : State) : Result :=
  .next (conclude (readChannelCmd channel (advance dt s)))

/-- READ_PEERS (02/R34, 12/R200). -/
def execReadPeers (dt : Nat) (s : State) : Result :=
  .next (conclude (acceptRead peerValues (advance dt s)))

/-- READ_COUNTERS (12/R200). -/
def execReadCounters (dt : Nat) (block : Byte) (s : State) : Result :=
  .next (conclude (readCountersCmd block (advance dt s)))

/-- CLEAR_EVENTS (12/R202). -/
def execClearEvents (dt : Nat) (group flag inst : Byte) (s : State) : Result :=
  .next (conclude (clearEventsCmd group flag inst (advance dt s)))

/-- RELEASE_LATCH (10/R173, 12/R198). -/
def execReleaseLatch (dt : Nat) (channel : Byte) (s : State) : Result :=
  .next (conclude (releaseLatchCmd channel (advance dt s)))

/-- FORCE_COPY (04/R59, 12/R198). -/
def execForceCopy (dt : Nat) (channel origin station publishable : Byte) (s : State) : Result :=
  .next (conclude (forceCopyCmd channel origin station publishable (advance dt s)))

/-- RESTART (12/R196). -/
def execRestart (dt : Nat) (s : State) : Result :=
  .next (conclude (restartCmd (advance dt s)))

/-- An unknown code: refused with BAD_ARGUMENT (12/R197). -/
def execUnknownCode (dt : Nat) (_code : Byte) (s : State) : Result :=
  .next (conclude (refuseWith .badArgument (advance dt s)))

end Sys2Proof.Machine
end

