-- ==== Sys2Proof/Machine/Dispatch.lean ====
section
/-! DEFINITION. The dispatch: one arm per command. -/

namespace Sys2Proof.Machine

def exec (i : Instr) (s : State) : Host.Outcome State Fault Refusal :=
  match i with
  | .powerOn => Sys2Proof.Machine.execPowerOn s
  | .configReadDone dt image => Sys2Proof.Machine.execConfigReadDone dt image s
  | .selectAsserted dt => Sys2Proof.Machine.execSelectAsserted dt s
  | .selectReleasedEarly dt => Sys2Proof.Machine.execSelectReleasedEarly dt s
  | .readSummary dt => Sys2Proof.Machine.execReadSummary dt s
  | .readChannel dt channel => Sys2Proof.Machine.execReadChannel dt channel s
  | .readPeers dt => Sys2Proof.Machine.execReadPeers dt s
  | .readCounters dt block => Sys2Proof.Machine.execReadCounters dt block s
  | .clearEvents dt group flag inst => Sys2Proof.Machine.execClearEvents dt group flag inst s
  | .releaseLatch dt channel => Sys2Proof.Machine.execReleaseLatch dt channel s
  | .forceCopy dt channel origin station publishable => Sys2Proof.Machine.execForceCopy dt channel origin station publishable s
  | .restart dt => Sys2Proof.Machine.execRestart dt s
  | .unknownCode dt code => Sys2Proof.Machine.execUnknownCode dt code s
  | .recordReceived dt lane flight words => Sys2Proof.Machine.execRecordReceived dt lane flight words s
  | .recordSent dt => Sys2Proof.Machine.execRecordSent dt s
  | .beaconTimerExpiry dt => Sys2Proof.Machine.execBeaconTimerExpiry dt s
  | .qualifyingDeadline dt lane => Sys2Proof.Machine.execQualifyingDeadline dt lane s
  | .liveDeadline dt lane => Sys2Proof.Machine.execLiveDeadline dt lane s
  | .lapsedDeadline dt lane => Sys2Proof.Machine.execLapsedDeadline dt lane s
  | .millisecondTick dt => Sys2Proof.Machine.execMillisecondTick dt s
  | .refreshTimerExpiry dt ch => Sys2Proof.Machine.execRefreshTimerExpiry dt ch s
  | .passOverExpiry dt ch => Sys2Proof.Machine.execPassOverExpiry dt ch s
  | .revertHoldExpiry dt ch => Sys2Proof.Machine.execRevertHoldExpiry dt ch s
  | .finishDone dt ch slot => Sys2Proof.Machine.execFinishDone dt ch slot s
  | .stall dt ch => Sys2Proof.Machine.execStall dt ch s
  | .motionJobStart dt ch => Sys2Proof.Machine.execMotionJobStart dt ch s
  | .motionJobDone dt ch => Sys2Proof.Machine.execMotionJobDone dt ch s
  | .renderSelection dt ch => Sys2Proof.Machine.execRenderSelection dt ch s
  | .renderBegin dt ch => Sys2Proof.Machine.execRenderBegin dt ch s
  | .concealPoint dt ch => Sys2Proof.Machine.execConcealPoint dt ch s
  | .renderComplete dt ch => Sys2Proof.Machine.execRenderComplete dt ch s
  | .scanStart dt ch entry => Sys2Proof.Machine.execScanStart dt ch entry s
  | .outputLineRecords dt ch => Sys2Proof.Machine.execOutputLineRecords dt ch s
  | .referencePulse dt => Sys2Proof.Machine.execReferencePulse dt s
  | .refQualifyTimeout dt => Sys2Proof.Machine.execRefQualifyTimeout dt s
  | .refMissed dt => Sys2Proof.Machine.execRefMissed dt s
  | .acquisitionTimerExpiry dt ch => Sys2Proof.Machine.execAcquisitionTimerExpiry dt ch s
  | .holdoverTimerExpiry dt ch => Sys2Proof.Machine.execHoldoverTimerExpiry dt ch s
  | .decayTimerExpiry dt ch => Sys2Proof.Machine.execDecayTimerExpiry dt ch s
  | .ingestMarker dt tail flag check => Sys2Proof.Machine.execIngestMarker dt tail flag check s
  | .ingestSampleGroup dt cb y0 cr y1 => Sys2Proof.Machine.execIngestSampleGroup dt cb y0 cr y1 s
  | .ingestDeadline dt => Sys2Proof.Machine.execIngestDeadline dt s

end Sys2Proof.Machine
end

