-- ==== Sys2Proof/Safety.lean ====
section
/-! DEFINITION. What a safe state of the part is: the laws that the rules state of each block's fields, and what counts as
a command sent on time. Each law is a decidable proposition over one state. -/

namespace Sys2Proof.Machine

/-! ## Commands on time -/

/-- A timer that is stopped, or whose expiry has not yet passed. -/
def notPassed (now : Time) (t : Option Time) : Bool := t.all fun x => !later now x

/-- No running timer of a channel stands before the present time. -/
def channelOnTime (now : Time) (c : Channel) : Bool :=
  notPassed now c.csl.refresh && notPassed now c.sup.acquisition && notPassed now c.sup.holdover
    && notPassed now c.sup.decay && notPassed now c.port.tNext
    && c.csl.passOver.all fun e => notPassed now (some e.expiry)

/-- Every expiry of the part has been taken when it fell due (DESIGN CHOICE, notes/assumptions/3). -/
def onTime (s : State) : Bool :=
  s.lanes.items.all (fun x => notPassed s.now x.entry.deadline) && notPassed s.now s.tx.beaconDue
    && notPassed s.now s.pub.tick && notPassed s.now s.ing.deadline && s.chans.items.all (channelOnTime s.now)

/-! ## Which commands act on which part -/

def isPowerOn : Instr → Bool
  | .powerOn => true
  | _ => false

def isRestart : Instr → Bool
  | .restart _ => true
  | _ => false

def isConfigRead : Instr → Bool
  | .configReadDone _ _ => true
  | _ => false

def clearsFlags : Instr → Bool
  | .clearEvents _ _ _ _ => true
  | _ => false

/-- A command of the management port (12/12.4). -/
def isManagement : Instr → Bool
  | .selectAsserted _ | .selectReleasedEarly _ | .readSummary _ | .readChannel _ _ | .readPeers _ | .readCounters _ _
  | .clearEvents _ _ _ _ | .releaseLatch _ _ | .forceCopy _ _ _ _ _ | .restart _ | .unknownCode _ _ => true
  | _ => false

/-- A record or a deadline of one lane, or a command that acts on every lane. -/
def touchesLane (l : LaneNo) : Instr → Bool
  | .recordReceived _ m _ _ => m = l
  | .qualifyingDeadline _ m | .liveDeadline _ m | .lapsedDeadline _ m => m = l
  | .powerOn | .restart _ | .clearEvents _ _ _ _ => true
  | _ => false

def touchesIngest : Instr → Bool
  | .ingestMarker _ _ _ _ | .ingestSampleGroup _ _ _ _ _ | .ingestDeadline _ => true
  | .powerOn | .restart _ | .clearEvents _ _ _ _ => true
  | _ => false

def touchesReference : Instr → Bool
  | .referencePulse _ | .refQualifyTimeout _ | .refMissed _ => true
  | .powerOn | .configReadDone _ _ | .clearEvents _ _ _ _ => true
  | _ => false

/-- A command that can move the timebase of a channel's port, or its alignment to the reference (10/R158, R162, R163). -/
def touchesTimebase (k : Chan) : Instr → Bool
  | .scanStart _ ch _ => ch = k
  | .referencePulse _ | .refMissed _ | .configReadDone _ _ | .powerOn => true
  | _ => false

/-- A command that can change the demand table: a record, a tick, a lane that leaves LIVE (03/R40 to R43, R52). -/
def touchesDemand : Instr → Bool
  | .recordReceived _ _ _ _ | .millisecondTick _ | .liveDeadline _ _ | .powerOn | .restart _ => true
  | _ => false

/-- A command that can change a channel that selects nothing and aims at nothing: its own, those of the station, and those
of the Reference Input at its port. -/
def touchesChannel (k : Chan) : Instr → Bool
  | .finishDone _ ch _ | .stall _ ch | .motionJobStart _ ch | .motionJobDone _ ch | .renderSelection _ ch
  | .renderBegin _ ch | .concealPoint _ ch | .renderComplete _ ch | .scanStart _ ch _ | .outputLineRecords _ ch
  | .acquisitionTimerExpiry _ ch | .decayTimerExpiry _ ch | .refreshTimerExpiry _ ch | .passOverExpiry _ ch
  | .revertHoldExpiry _ ch | .holdoverTimerExpiry _ ch => ch = k
  | .releaseLatch _ b | .forceCopy _ b _ _ _ => b.toNat = k.val
  | .referencePulse _ | .refMissed _ | .configReadDone _ _ | .powerOn | .restart _ | .clearEvents _ _ _ _ => true
  | _ => false

/-- A command that can change the copy forced on a channel (04/R59, R69). -/
def touchesForced (k : Chan) : Instr → Bool
  | .forceCopy _ b _ _ _ => b.toNat = k.val
  | .powerOn | .restart _ => true
  | _ => false

/-- What the sizer and the colour stage hold but for the steps, which follow the source (09/R146, R157). -/
def configuredSizer (z : Sizer) : Sizer := { z with vStep := none, hStep := none }

/-- What a port's timebase holds. -/
def timebaseOf (p : Port) : Option StdCode × Nat × Option Time × Option Time × Parity × Int × LockState × Option Int :=
  (p.standard, p.picture, p.tOut, p.tNext, p.parity, p.correction, p.lock, p.pendingError)

/-! ## What a command of the management port leaves -/

/-- Time passes, the command is counted and its response stands ready; nothing else follows from it (12/R197, R198). -/
def answered (bytes : List Byte) (c : StationCtr) (dt : Nat) (s : State) : State :=
  { conclude (advance dt s) with
    mgp := { s.mgp with phase := .received, response := bytes }, tally := addCount s.tally (stationCtrIx c) 1 }

/-- The state with every flag clear, so that two states can be compared but for their flags. -/
def eraseFlags (s : State) : State :=
  { s with
    lanes := s.lanes.map fun x => { x with flags := Bank.fill 5 false }
    pub := { s.pub with deferredFlags := Bank.fill 3 false }
    ing := { s.ing with changeFlag := false }
    ref := { s.ref with lostFlag := false }
    chans := s.chans.map fun c => { c with
      flags := Bank.fill 15 false, port := { c.port with jumpFlag := false, mismatchFlag := false } }
    flags := Bank.fill 3 false }

/-- Whether CLEAR_EVENTS names flags that exist (the list of 12/12.5, 12/R199). -/
def flagsExist (g f inst : Nat) : Bool :=
  match g with
  | 0 => f = 255 || (f < 5 && (inst = 255 || inst < 7))
  | 1 => f = 255 || (f = 0 && (inst = 255 || inst < 3))
  | 2 => f = 255 || f < 2 || (f < 4 && (inst = 255 || inst < 2))
  | 3 | 4 => f = 255 || f < 15
  | 5 => f = 255 || f < 3
  | _ => false

/-- Whether CLEAR_EVENTS on a flag and instance of a group clears the group's flag at place `j` (12/R202). -/
def isCleared (g f inst j : Nat) : Bool :=
  f = 255 ||
  match g with
  | 0 => j / 7 = f && (inst = 255 || j % 7 = inst)
  | 1 => inst = 255 || j = inst
  | 2 => match f with
    | 0 => j = 0
    | 1 => j = 1
    | 2 => (2 ≤ j && j < 4) && (inst = 255 || j = 2 + inst)
    | _ => (4 ≤ j && j < 6) && (inst = 255 || j = 4 + inst)
  | _ => j = f

/-- Whether FORCE_COPY on a channel names AUTO or a copy that it may name (04/R59). -/
def forceable (s : State) (k : Chan) (origin station pub : Byte) : Bool :=
  origin = 255 || (station.toNat < 8 && pub.toNat < 3 && (origin.toNat < 7
    || (origin = 7 && pub.toNat ≠ 1 + k.val && (ownNumber s).map (·.val) = some station.toNat)))

/-! ## Rectangles cut to a frame (05/R71, 09/R145) -/

/-- A rectangle has a line and a sample inside a frame of so many lines and samples. -/
abbrev meetsFrame (a : Rect) (lines samples : Nat) : Prop :=
  0 < a.lineCount ∧ 0 < a.sampleCount ∧ a.firstLine < lines ∧ a.firstSample < samples

/-- A rectangle cut to a frame; the whole frame stands for one that lies wholly outside it. -/
def cutTo (a : Rect) (lines samples : Nat) : Rect :=
  if meetsFrame a lines samples then
    ⟨a.firstLine, min a.lineCount (lines - a.firstLine), a.firstSample, min a.sampleCount (samples - a.firstSample)⟩
  else ⟨0, lines, 0, samples⟩

/-! ## Configuration (12/R192) -/

/-- A configured rectangle lies in the ranges of 12/12.2. -/
abbrev rectInRange (r : Rect) : Prop :=
  r.firstLine ≤ 1151 ∧ 1 ≤ r.lineCount ∧ r.lineCount ≤ 1152 ∧ r.firstSample ≤ 2046 ∧ r.firstSample % 2 = 0
    ∧ 2 ≤ r.sampleCount ∧ r.sampleCount ≤ 2048 ∧ r.sampleCount % 2 = 0

abbrev tableInRange (t : FilterTable) : Prop := ∀ p i, -256 ≤ (t.get p).get i ∧ (t.get p).get i ≤ 511

/-- The configured values of a channel lie in the ranges of 12/12.2. -/
abbrev chanConfigLaw (g : ChanConfig) : Prop :=
  g.outRank ≠ 0 ∧ rectInRange g.crop ∧ 1000000 ≤ g.delay ∧ g.delay ≤ 3600000 ∧ g.stillThreshold ≤ 255
    ∧ g.repeatThreshold ≤ 255 ∧ g.combThreshold ≤ 255 ∧ 1 ≤ g.matchLimit ∧ g.matchLimit ≤ 63 ∧ 2 ≤ g.lockCycles
    ∧ g.lockCycles ≤ 8 ∧ 1 ≤ g.acquisitionSeconds ∧ g.acquisitionSeconds ≤ 10 ∧ 100 ≤ g.holdoverMs
    ∧ g.holdoverMs ≤ 10000 ∧ g.relockLimit ≤ 15 ∧ g.revertSeconds ≤ 60 ∧ g.callDuration ≠ 0 ∧ 1 ≤ g.refreshMs
    ∧ g.refreshMs ≤ 255 ∧ rectInRange g.placement ∧ 4 ≤ g.fillColour.y ∧ g.fillColour.y ≤ 1019
    ∧ 4 ≤ g.fillColour.cb ∧ g.fillColour.cb ≤ 1019 ∧ 4 ≤ g.fillColour.cr ∧ g.fillColour.cr ≤ 1019
    ∧ (∀ i, -4096 ≤ g.matrix.get i ∧ g.matrix.get i ≤ 4095) ∧ (∀ i, -512 ≤ g.offsets.get i ∧ g.offsets.get i ≤ 511)
    ∧ tableInRange g.vTable ∧ tableInRange g.hTable

abbrev stationConfigLaw (g : StationConfig) : Prop := g.ingestRank ≠ 0 ∧ ∀ k, chanConfigLaw (g.chans.get k)

/-- Every configured value in force lies in its range, and a RUNNING station has a configuration (12/R192, R194). -/
abbrev configLaw (s : State) : Prop :=
  (s.station = .running → s.config.isSome) ∧ ∀ g ∈ s.config, stationConfigLaw g

/-! ## Receive lanes (02/2.1, R18 to R25) -/

/-- The entry counts a station and an epoch, and its silence is acted on four beacon periods after its last beacon. -/
abbrev countsIdentity (e : PeerEntry) : Prop := e.station.isSome ∧ e.epoch.isSome ∧ e.lastArrival.isSome

abbrev peerLaw (e : PeerEntry) : Prop :=
  (∀ p, entryOk (e.entries.get p)) ∧ e.stepCount ≤ 1
    ∧ (e.state = .silent → e = .cleared)
    ∧ (e.state = .qualifying → (e.count = 1 ∨ e.count = 2) ∧ countsIdentity e
        ∧ e.deadline = e.lastArrival.map (shift · 108000))
    ∧ (e.state = .live → e.count = 3 ∧ countsIdentity e ∧ e.deadline = e.lastArrival.map (shift · 108000))
    ∧ (e.state = .lapsed → e.count = 0 ∧ countsIdentity e ∧ e.deadline.isSome ∧ e.entries = Bank.fill 3 .empty)

abbrev laneLaw (s : State) : Prop := ∀ l, peerLaw (lane s l).entry

/-! ## Transmit lane (01/R11, R13, R15) -/

/-- A record that a publication slot can carry. -/
def isPublished : LinkRecord → Bool
  | .picture _ | .lines _ => true
  | .beacon _ | .call _ => false

/-- A call queue: at most 8, no two for one (target, feed). -/
abbrev callQueueLaw (q : List Call) : Prop := q.length ≤ 8 ∧ q.Pairwise (fun a b => samePair a b = false)

/-- What is kept of an instant: the queue that it found, and that a CALL begun in it is still being sent
(notes/assumptions/43). -/
abbrev instantLaw (s : State) (i : CallInstant) : Prop :=
  callQueueLaw i.queue ∧ (i.begun = true → s.tx.sending.isSome)

/-- Between commands every call offered stands in the queue, and only a record in progress keeps a RESTART waiting. -/
abbrev transmitLaw (s : State) : Prop :=
  callQueueLaw s.tx.callQueue ∧ s.tx.startCount ≤ 16 ∧ (∀ i ∈ s.tx.instant, instantLaw s i)
    ∧ s.tx.offers = Bank.fill 2 [] ∧ (s.tx.restartOwed = true → s.tx.sending.isSome ∧ s.station ≠ .running)
    ∧ ∀ k, (s.tx.bursts.get k).length ≤ 32 ∧ ∀ r ∈ s.tx.bursts.get k, isPublished r = true

/-- Outside RUNNING, once a RESTART has acted, the timer stands still and nothing waits (01/R10). -/
abbrev quietLaw (s : State) : Prop :=
  s.station ≠ .running → s.tx.restartOwed = false →
    s.tx.beaconDue = none ∧ s.tx.beaconPending = false ∧ s.tx.callQueue = [] ∧ s.tx.instant = none
      ∧ s.tx.bursts = Bank.fill 2 [] ∧ s.tx.mark = 1

/-! ## Publication Unit (03/3.5, R51, R52) -/

abbrev pubSlotLaw (x : PubSlot) : Prop :=
  (x.state = .free → x = .freed) ∧ (x.holder = none → x.state = .free)
    ∧ (x.state = .granted → x.openPicture = false) ∧ (x.state = .ending → x.openPicture = true)
    ∧ (x.reason.isSome ↔ x.state = .ending) ∧ (x.releaseOwed = true → x.state = .ending)

/-- Outside RUNNING nothing is offered, demanded or held (03/R52). -/
abbrev unpublished (u : Publication) : Prop :=
  (∀ p, (u.adverts.get p).status = .none) ∧ (∀ p n, (u.demand.get p).get n = 0) ∧ u.slots = Bank.fill 2 .freed
    ∧ u.tick = none

/-- Every change of an advert has been heard once its command has ended (04/R53; notes/assumptions/14). -/
abbrev publicationLaw (s : State) : Prop :=
  (∀ i, pubSlotLaw (s.pub.slots.get i)) ∧ s.pub.unheard = false
    ∧ ((s.pub.slots.get 0).holder.isSome → (s.pub.slots.get 0).holder ≠ (s.pub.slots.get 1).holder)
    ∧ (s.station ≠ .running → unpublished s.pub)

/-! ## Ingest Port (11/11.2, R180 to R187) -/

abbrev openLineLaw (g : Ingest) (l : OpenLine) : Prop :=
  g.raw.map (·.lines) = some (l.index + 1) ∧ l.carried ≤ 2 * l.groups.length ∧ l.carried % 2 = 0
    ∧ l.begun.length ≤ 3

abbrev ingestPortLaw (g : Ingest) : Prop :=
  (g.state = .locked ↔ g.locked ≠ 0) ∧ g.candidate ≠ some 0 ∧ (g.candidate.isSome → g.state = .measuring)
    ∧ g.matchCount = (if g.candidate.isSome then 1 else 0)
    ∧ (g.state = .noSignal → g.raw = none ∧ g.openLine = none ∧ g.previousParity = none ∧ g.deadline = none)
    ∧ (g.state ≠ .noSignal → g.raw.isSome ∧ g.deadline.isSome) ∧ (g.forming = true → g.state = .locked)
    ∧ ∀ l ∈ g.openLine, openLineLaw g l

abbrev ingestLaw (s : State) : Prop := ingestPortLaw s.ing ∧ (s.ing.forming = true → s.station = .running)

/-! ## Reference Input (10/10.2, R160, R161) -/

abbrev refInputLaw (r : Reference) : Prop :=
  (r.standard = 0 → r.state = .absent) ∧ (r.state = .absent → r.lastPulse = none ∧ r.measured = none)
    ∧ (r.state = .absent ↔ r.good = none) ∧ (∀ n ∈ r.good, 1 ≤ n ∧ if r.state = .valid then n = 4 else n ≤ 3)
    ∧ (r.state ≠ .absent → r.lastPulse.isSome)
    ∧ (r.state = .valid ↔ r.expected.isSome) ∧ (r.state = .valid ↔ r.miss.isSome) ∧ (∀ n ∈ r.miss, n ≤ 2)
    ∧ (r.state = .valid → r.measured.isSome)

abbrev referenceLaw (s : State) : Prop := refInputLaw s.ref

/-! ## Output ports (10/10.1, R163, R164) -/

/-- The next scan start lies one raw picture after the present one, but for a slew or one jump. -/
def nextScanInReach (c : StdCode) (p : Port) : Bool :=
  match p.tOut, p.tNext with
  | some t0, some t1 =>
    ((standardOf c).rawPeriod : Int) - 27 ≤ sdiff t1 t0 && sdiff t1 t0 < (standardOf c).rawPeriod + framePeriod c
  | _, _ => true

/-- An error lies within half a frame of the grid, a correction within a slew or one jump. -/
abbrev timebaseLaw (c : StdCode) (p : Port) : Prop :=
  c ≠ 0 ∧ p.tNext.isSome
    ∧ (∀ e ∈ p.pendingError, -(framePeriod c : Int) < 2 * e ∧ 2 * e ≤ framePeriod c)
    ∧ -27 ≤ p.correction ∧ p.correction < framePeriod c ∧ nextScanInReach c p = true

/-- The buffer scanned is the last good one, unless a RESTART has just cleared that name (10/R165, R177). -/
def scansLastGood (p : Port) : Bool :=
  match p.source with
  | .buffer b => p.lastGood = none || p.lastGood = some b
  | _ => true

abbrev outputPortLaw (p : Port) : Prop :=
  (p.standard = none → p.tOut = none ∧ p.tNext = none ∧ p.publishing = false) ∧ (∀ c ∈ p.standard, timebaseLaw c p)
    ∧ scansLastGood p = true

abbrev portLaw (s : State) : Prop := ∀ k, outputPortLaw (chan s k).port

/-! ## Channel Supervisor (10/10.4, R168 to R173, R178) -/

abbrev timersLaw (x : Supervisor) : Prop :=
  (x.state = .acquiring ↔ x.acquisition.isSome) ∧ (x.state = .holdover ↔ x.holdover.isSome)
    ∧ (x.state = .converting ↔ x.decay.isSome)

/-- With a nonzero limit the counter never exceeds the limit, and the channel is LATCHED exactly while the counter equals
it (10/R172). -/
abbrev latchLaw (limit : Nat) (x : Supervisor) : Prop :=
  if limit = 0 then x.state ≠ .latched else x.relock ≤ limit ∧ (x.state = .latched ↔ x.relock = limit)

abbrev supervisorLaw (s : State) : Prop :=
  ∀ k, timersLaw (chan s k).sup ∧ (chan s k).sup.relock ≤ 15
    ∧ (s.station ≠ .running → (chan s k).sup.state = .idle ∧ (chan s k).sup.relock = 0)
    ∧ ∀ g ∈ chanConfig s k, latchLaw g.relockLimit (chan s k).sup

/-! ## Copy Selector (04/4.1, R53, R58, R60, R62, R63, R67, 05/R70) -/

/-- The station that a selection's calls are addressed to. -/
def callStation (q : Option Copy) : Option StationNo :=
  q.bind fun q => match q.origin with
    | .lane _ => some q.station
    | .internal => none

abbrev selectorLaw (k : Chan) (c : Channel) : Prop :=
  c.int.aim = c.csl.selection ∧ (activeState c.sup.state = false → c.csl.selection = none)
    ∧ c.csl.callTarget = callStation c.csl.selection ∧ (c.csl.refresh.isSome ↔ c.csl.callTarget.isSome)
    ∧ c.csl.passOver.length ≤ 4 ∧ c.csl.deferred ≤ 5 ∧ (c.csl.rebasePending = true → c.csl.selection.isSome)
    ∧ (c.csl.selection = none → c.csl.revert = none)
    ∧ (c.csl.forced.isSome → c.csl.forced = c.csl.selection → c.csl.revert = none)
    ∧ ∀ q ∈ c.csl.selection, q.origin = .internal → q.pub ≠ outputOf k

abbrev selectionLaw (s : State) : Prop := ∀ k, selectorLaw k (chan s k)

/-! ## Cadence Detector (06/6.1, R93, R99 to R101) -/

/-- An unphased record has count 0; a record not in use is unphased; a position lies in its family's cycle. -/
abbrev hypothesisLaw (h : Hypothesis) : Prop :=
  h.count ≤ 40 ∧ (h.next = none → h.count = 0) ∧ (h.family = none → h.next = none)
    ∧ ∀ f ∈ h.family, ∀ p ∈ h.next, p < cycleOf f

/-- The record that holds a family is phased. -/
def phasedIn (d : Cadence) (f : Family) : Bool :=
  (d.rec32.family = some f && d.rec32.next.isSome) || (d.rec22.family = some f && d.rec22.next.isSome)

abbrev detectorLaw (source : StdCode) (d : Cadence) : Prop :=
  hypothesisLaw d.rec32 ∧ hypothesisLaw d.rec22
    ∧ ((d.rec32.family, d.rec22.family) = huntedFor true source
        ∨ (d.rec32.family, d.rec22.family) = huntedFor false source)
    ∧ (d.mode.isSome ↔ d.anchor.isSome) ∧ (d.mode.isSome → d.pendingLock = none)
    ∧ (∀ f ∈ d.mode, phasedIn d f = true
        ∧ (d.rec32.next = none ∨ d.rec22.next = none)) ∧ (∀ f ∈ d.pendingLock, phasedIn d f = true)
    ∧ d.repeats.length ≤ 5 ∧ d.combs.length ≤ 2

abbrev cadenceLaw (s : State) : Prop := ∀ k, detectorLaw (chan s k).int.standard (chan s k).cad

/-! ## Picture ring (05/5.1, 5.6, R80, R85 to R88, 07/R114, R115) -/

/-- What a slot of each state holds (the table of slot states in 05/5.6): a slot in PAIRING, one raw picture. -/
abbrev slotLaw (x : Slot) : Prop :=
  (x.state = .free → x = .empty) ∧ (x.state ≠ .free → x.raws ≠ [] ∧ x.raws.length ≤ 2)
    ∧ (x.state = .pairing → x.raws.length = 1)
    ∧ (x.finish.isSome ↔ x.state = .finishing)
    ∧ (x.committed.isSome ↔ (x.state = .finishing ∨ x.state = .complete)) ∧ (x.table.isSome → x.state = .complete)

/-- A raw picture kept for reference stands in a slot that is not FREE; of the slot receiving lines, it is the first. -/
abbrev entryHeld (c : Channel) (e : HistoryEntry) : Prop :=
  (slotOf c e.slot).state ≠ .free ∧ e.index < (slotOf c e.slot).raws.length
    ∧ ((slotOf c e.slot).state = .filling → e.index + 1 < (slotOf c e.slot).raws.length)

/-- The raw pictures that a finish in progress reads. -/
def finishEntries : Option Finish → List HistoryEntry
  | some (.deinterlace p b) => p.toList ++ b.toList
  | _ => []

/-- The slots of a ring: a second field receives its lines in its partner's slot only as the detector's next position has
it (06/R102). -/
abbrev ringLaw (c : Channel) : Prop :=
  (∀ i, slotLaw (slotOf c i))
    ∧ (∀ i, c.int.openSlot = some i ↔ (slotOf c i).state = .filling)
    ∧ (∀ i, (slotOf c i).state = .filling → (slotOf c i).raws.length = 2 → placesWithPartner c.cad = true)
    ∧ (∀ i j, ((slotOf c i).state = .filling ∨ (slotOf c i).state = .pairing)
        → ((slotOf c j).state = .filling ∨ (slotOf c j).state = .pairing) → i = j)
    ∧ c.int.committed.Nodup ∧ (∀ i, i ∈ c.int.committed ↔ (slotOf c i).committed.isSome)
    ∧ (c.int.standard = 0 ↔ c.int.crop = none)
    ∧ (c.int.standard = 0 → ∀ i, (slotOf c i).state = .free)

/-- No slot referenced by a history entry, a finish, a render or a motion job in progress is freed or recycled (05/R86). -/
abbrev referencesLaw (c : Channel) : Prop :=
  c.int.history.length ≤ 2 ∧ (∀ e ∈ c.int.history, entryHeld c e)
    ∧ (∀ i, ∀ e ∈ finishEntries (slotOf c i).finish, entryHeld c e)
    ∧ (∀ r ∈ c.int.retireRef, r ∈ c.int.committed)
    ∧ (∀ r ∈ c.ren.record, r.state ≠ .done → r.a ∈ c.int.committed ∧ ∀ b ∈ r.b, b ∈ c.int.committed)
    ∧ (∀ j ∈ c.meu.job, isComplete c j.pair.a = true ∧ isComplete c j.pair.b = true)
    ∧ (∀ q ∈ c.meu.pending, q.a ∈ c.int.committed ∧ q.b ∈ c.int.committed)

abbrev pictureRingLaw (s : State) : Prop := ∀ k, ringLaw (chan s k) ∧ referencesLaw (chan s k)

/-! ## Render Engine (08/8.1, R126, R129, R133, R142, 10/R165) -/

/-- What a render record of each state holds. -/
abbrev renderRecordLaw (r : RenderRecord) : Prop :=
  (r.state = .waiting ↔ r.mode = none) ∧ (r.state = .waiting ↔ r.weight = none)
    ∧ (r.mode = some .aOnly → r.weight = some 0) ∧ (r.b.isSome ↔ r.prelim.isSome) ∧ (r.early = true → r.b = none)

/-- A render is in progress only while CONVERTING, and never writes the buffer in scan or the last good one. -/
abbrev renderEngineLaw (c : Channel) : Prop :=
  (∀ r ∈ c.ren.record, renderRecordLaw r ∧ (r.state ≠ .done → c.sup.state = .converting)
      ∧ c.port.source ≠ .buffer r.buffer ∧ c.port.lastGood ≠ some r.buffer)
    ∧ ∀ d ∈ c.ren.dEff, 1000000 ≤ d ∧ d ≤ 3600000

abbrev renderLaw (s : State) : Prop := ∀ k, renderEngineLaw (chan s k) ∧ (s.station ≠ .running → (chan s k).ren.record = none)

/-! ## Picture stores (DESIGN CHOICE, notes/assumptions/7) -/

/-- Every picture store is in its canonical form. -/
abbrev planesLaw (s : State) : Prop :=
  ∀ k, (∀ i, planesWf (slotOf (chan s k) i).planes = true)
    ∧ ∀ b, planesWf ((chan s k).port.buffers.get b).planes = true

end Sys2Proof.Machine
end

