-- ==== Sys2Proof/Certificates/Slice0/Obligations.lean ====
section
/-! DEFINITION. The statements for the provers: what each command does, what no command does, the laws every step keeps,
and the rules of arithmetic the manual states. -/

open Sys2Proof Sys2Proof.Machine

/-! ## The queue and the whole part -/

/-- A step runs the command at the front of the queue with the queue's rest; with nothing waiting, one tick passes (the
model's choice, notes/assumptions/1). -/
def Obligations.StepRunsTheFrontCommand : Prop :=
  (∀ (c : Instr) (rest : List Instr) (s : State), s.pending = c :: rest → step s = exec c { s with pending := rest })
    ∧ ∀ s : State, s.pending = [] → step s = .next { s with now := s.now + 1 }

/-- No command stops the part, and none but the sender changes the queue. Station time counts the ticks each command
carries; the epoch grows by one at each RESTART and at nothing else (12/R190, R196). That a command carries its ticks is
the model's form of time (notes/assumptions/1). -/
def Obligations.EveryCommandAnswersNext : Prop :=
  (∀ (c : Instr) (s : State), ∃ t, exec c s = .next t ∧ t.pending = s.pending)
  ∧ (∀ (c : Instr) (s t : State), c ≠ .powerOn → exec c s = .next t →
      t.now = s.now + BitVec.ofNat 48 c.elapsed ∧ t.epoch = (if isRestart c then s.epoch + 1 else s.epoch))

/-- Power-on leaves the part as the rules of each block say, whatever it held before (12/R190); a value no rule gives,
and the queue kept as it is, are the model's (notes/assumptions/26, 40). -/
def Obligations.PowerOnValues : Prop :=
  ∀ s : State, ∃ t, exec .powerOn s = .next t ∧ t = { State.reset with pending := s.pending }
    ∧ t.station = .loading ∧ t.now = 0 ∧ t.epoch = 0 ∧ ownNumber t = none ∧ t.clampCount = none ∧ t.eventMask = 0
    ∧ eventLine t = false ∧ (∀ l, (lane t l).entry.state = .silent)
    ∧ (∀ k, (chan t k).sup.state = .idle ∧ (chan t k).csl.selection = none ∧ (chan t k).port.standard = none
        ∧ ∀ i, (slotOf (chan t k) i).state = .free)
    ∧ t.ing.state = .noSignal ∧ t.ref.state = .absent ∧ t.tx.mark = 1 ∧ t.tx.sending = none

/-- A flag already set stays set through every command but CLEAR_EVENTS and power-on, RESTART and reads among them
(12/R201). -/
def Obligations.FlagsStaySet : Prop :=
  ∀ (c : Instr) (s t : State), isPowerOn c = false → clearsFlags c = false → exec c s = .next t →
    ∀ g j : Nat, (groupFlags s g)[j]? = some true → (groupFlags t g)[j]? = some true

/-- The event line shows an unmasked group, the mask changes only at the entry into RUNNING, and a station whose first
image is rejected, LOADING with an empty mask, asserts the line with the CONFIG_FAULT flag (12/R203). -/
def Obligations.EventLineAndMask : Prop :=
  (∀ s : State, eventLine s = true ↔ ∃ g, g < 6 ∧ (∃ j : Nat, (groupFlags s g)[j]? = some true)
      ∧ s.eventMask.getLsbD g = false)
    ∧ (∀ (c : Instr) (s t : State), isPowerOn c = false → exec c s = .next t → t.eventMask ≠ s.eventMask →
        s.station = .loading ∧ t.station = .running ∧ t.config.map (·.eventMask) = some t.eventMask)
    ∧ State.reset.eventMask = 0
    ∧ ∀ (dt : Nat) (image : List (BitVec 32)) (s : State), s.station = .loading → s.eventMask = 0 →
        checksumHolds image = false →
        ∃ t, exec (.configReadDone dt image) s = .next t ∧ t.eventMask = 0 ∧ (groupFlags t 5)[2]? = some true
          ∧ eventLine t = true

/-- Each block changes only by the commands that reach it: a lane by its own records and deadlines, the ingest port and
the reference input by their own inputs, the management port by its own transactions, the demand table by records, ticks
and lanes that leave LIVE, a port's timebase and scan source by its own scan starts and the reference alone, whatever its
channel does, the sizer but for its steps by the configuration alone, the forced copy by FORCE_COPY, and a whole channel
that selects nothing and aims at nothing by its own commands. -/
def Obligations.BlocksChangeOnlyByTheirCommands : Prop :=
  ∀ (c : Instr) (s t : State), exec c s = .next t →
    (∀ l, touchesLane l c = false → lane t l = lane s l)
    ∧ (touchesIngest c = false → t.ing = s.ing)
    ∧ (touchesReference c = false → t.ref = s.ref)
    ∧ (isManagement c = false → isPowerOn c = false → t.mgp = s.mgp)
    ∧ (isConfigRead c = false → isPowerOn c = false →
        t.config = s.config ∧ t.clampCount = s.clampCount ∧ t.eventMask = s.eventMask
        ∧ (isRestart c = false → t.station = s.station)
        ∧ (isManagement c = false → t.tally = s.tally ∧ t.flags = s.flags))
    ∧ (touchesDemand c = false → t.pub.demand = s.pub.demand)
    ∧ ∀ k, (touchesTimebase k c = false →
          timebaseOf (chan t k).port = timebaseOf (chan s k).port ∧ (chan t k).port.source = (chan s k).port.source)
        ∧ (isConfigRead c = false → isPowerOn c = false → isRestart c = false →
          configuredSizer (chan t k).siz = configuredSizer (chan s k).siz)
        ∧ (touchesForced k c = false → (chan t k).csl.forced = (chan s k).csl.forced)
        ∧ (touchesChannel k c = false → isSelecting s k = false → selectionOf s k = none → (chan s k).int.aim = none →
          chan t k = chan s k)

/-- With nothing left to settle, no call offered at the instant and a record on the lane, the end of a command changes
nothing. Whatever a command did, its end leaves alone the demand table, the ticks and timers of the link, the record on the
lane (a CALL begun at the same instant may give way to an older one) and every channel that does not select, and leaves no
change of an advert that the Copy Selectors have not heard (03/R37, R44, 04/R53, 01/R9). That statuses settle and calls are
queued at the end of a command, and what becomes of a CALL begun at the instant, is the model's reading
(notes/assumptions/13, 14, 43, 44). -/
def Obligations.TheEndOfACommand : Prop :=
  (∀ s : State, arbitrate s = s → (∀ p, s.pub.adverts.get p = advertNow s p) → s.pub.unheard = false →
      s.tx.offers = Bank.fill 2 [] → s.tx.instant = none → s.tx.sending.isSome → conclude s = s)
    ∧ ∀ s : State, (conclude s).pub.unheard = false ∧ (conclude s).pub.demand = s.pub.demand ∧ (conclude s).pub.tick = s.pub.tick
        ∧ (conclude s).pub.tally = s.pub.tally ∧ (conclude s).pub.lastSequence = s.pub.lastSequence
        ∧ (conclude s).tx.beaconDue = s.tx.beaconDue ∧ (conclude s).tx.offers = Bank.fill 2 []
        ∧ (s.tx.sending.isSome → (conclude s).tx.startCount = s.tx.startCount ∧ (conclude s).tx.mark = s.tx.mark
            ∧ (conclude s).tx.beaconPending = s.tx.beaconPending ∧ (conclude s).tx.sending.isSome
            ∧ ((∀ i ∈ s.tx.instant, i.time = s.now → i.begun = false) → (conclude s).tx.sending = s.tx.sending))
        ∧ ∀ k, isSelecting s k = false → chan (conclude s) k = chan s k

/-! ## The laws of each block -/

/-- The laws of 12/R192 for the configured values, and the canonical form of every picture store: each is kept by every
step. The canonical form (planesLaw) is no rule of the manual but the model's own choice (notes/assumptions/7). -/
def Obligations.StoredValuesKept : Prop :=
  (∀ s t : State, configLaw s → step s = .next t → configLaw t)
  ∧ (∀ s t : State, planesLaw s → step s = .next t → planesLaw t)

/-- The laws of the receive lanes (02), of the transmit lane (01/1.6) with its rest outside RUNNING (01/R10), and of the
publication slots and the demand table (03): each is kept by every step. Five clauses are the model's own choices: the
release a slot owes (notes/assumptions/27), the RESTART that waits for a record (9), the offers empty between commands and
what is kept of an instant's calls (43), the mark of an unheard advert clear between commands (14), and the last arrival kept in LAPSED (37); that every
status is NONE outside RUNNING while generation and standard follow 03/R38 is its reading too (35). -/
def Obligations.LinkLawsKept : Prop :=
  (∀ s t : State, laneLaw s → step s = .next t → laneLaw t)
  ∧ (∀ s t : State, transmitLaw s → step s = .next t → transmitLaw t)
  ∧ (∀ s t : State, supervisorLaw s → selectionLaw s → publicationLaw s → transmitLaw s → quietLaw s →
      step s = .next t → quietLaw t)
  ∧ (∀ s t : State, publicationLaw s → step s = .next t → publicationLaw t)

/-- The laws of the ingest port (11) and of the reference input (10/10.2): each is kept by every step. That the good count
stays 4 while VALID is the model's own reading (notes/assumptions/42), and that a LOCKED port has no candidate its own
choice (notes/assumptions/60). -/
def Obligations.InputLawsKept : Prop :=
  (∀ s t : State, ingestLaw s → step s = .next t → ingestLaw t)
  ∧ (∀ s t : State, referenceLaw s → step s = .next t → referenceLaw t)

/-- The laws of the output ports (10/10.1), of the Channel Supervisors, the latch law of 10/R172 among them (10/10.4),
of the Copy Selectors (04), and of the Cadence Detectors (06): each is kept by every step. That a SILENT port has T_out(n)
none and forms no record is the model's own choice (notes/assumptions/25, 30). The laws of Copy Selectors and Cadence
Detectors are kept from states whose configured values are in range, a RUNNING station having some (StoredValuesKept). -/
def Obligations.ChannelLawsKept : Prop :=
  (∀ s t : State, portLaw s → step s = .next t → portLaw t)
  ∧ (∀ s t : State, supervisorLaw s → step s = .next t → supervisorLaw t)
  ∧ (∀ s t : State, configLaw s → selectionLaw s → step s = .next t → selectionLaw t)
  ∧ (∀ s t : State, configLaw s → cadenceLaw s → step s = .next t → cadenceLaw t)

/-- The laws of 05 for the picture ring: what a slot of each state holds, that a slot in PAIRING holds one raw picture and
a second joins it only as the detector's next position has it (05/R73, 06/R102), and that nothing referenced is freed
(05/R86). That a finish mark stays until the last of two deinterlaces that read one field ends is
the model's own reading (notes/assumptions/12). -/
def Obligations.PictureRingLawKept : Prop :=
  ∀ s t : State, ingestLaw s → portLaw s → pictureRingLaw s → step s = .next t → pictureRingLaw t

/-- The laws of 08 for the Render Engines: no render writes the buffer in scan or the last good one (10/R165). -/
def Obligations.RenderLawKept : Prop :=
  ∀ s t : State, configLaw s → cadenceLaw s → portLaw s → supervisorLaw s → renderLaw s → step s = .next t → renderLaw t

/-- The part after reset meets every law. Some of its values no rule gives, and the canonical form of a picture store is
the model's own (notes/assumptions/26, 7). -/
def Obligations.EveryLawAtReset : Prop :=
  configLaw State.reset ∧ laneLaw State.reset ∧ transmitLaw State.reset ∧ quietLaw State.reset ∧ publicationLaw State.reset
    ∧ ingestLaw State.reset ∧ referenceLaw State.reset ∧ portLaw State.reset ∧ supervisorLaw State.reset
    ∧ selectionLaw State.reset ∧ cadenceLaw State.reset ∧ pictureRingLaw State.reset ∧ renderLaw State.reset
    ∧ planesLaw State.reset

/-! ## Records and commands on the wire -/

/-- A record a station can send is read back as it was, and is as long as its kind says; the bytes of a management
command name it, and bytes clocked in after its last change nothing (01/R1 to R4, 1.3, 12/R197, R199). -/
def Obligations.RoundTrips : Prop :=
  (∀ r : LinkRecord, recordOk r = true →
      checkRecord (encodeRecord r) = .ok r
      ∧ (encodeRecord r).length = (match r with
          | .beacon _ => 11
          | .call _ => 3
          | .picture _ => 8
          | .lines l => 6 + 4 * l.groups.length))
  ∧ (∀ (c : Instr) (bytes extra : List Byte), WellFormed c = true → encodeSpi c = some bytes →
      decodeSpi c.elapsed (bytes ++ extra) = some c)

/-- One wrong bit in the header or the CRC word of a record, outside its type field, makes its CRC fail (01/R2, R4). -/
def Obligations.OneWrongBitFailsTheCrc : Prop :=
  ∀ (r : LinkRecord) (i bit : Nat), recordOk r = true → i ≤ (headerWords r).length → bit < 16 → ¬ (i = 0 ∧ 12 ≤ bit) →
    checkRecord ((encodeRecord r).modify i (· ^^^ BitVec.ofNat 16 (2 ^ bit))) = .error .crcError

/-! ## Start-up (12/12.1 to 12.3) -/

/-- A station that is LOADING and reads an image whose checksum holds enters RUNNING with it: the values in force, the
reference, the ports, the beacon timer and the tick, and the channels by their judgement. A port whose standard is its
target goes on unbroken, but for a VALID reference that the read takes away (10/R162); any other starts afresh at the entry,
or falls SILENT (10/R177). A configured channel forms its placement and tables with their marks and flags (09/R145 to R147)
and enters ACQUIRING with its timer, its stall watch and its delay, and its Copy Selector re-judges (10/R168), adopting the
standard of the copy it selects (05/R71). An image whose checksum fails leads it to CONFIG_FAULT and leaves the
configuration and the clamp count as they were; a read reported to a station that is not LOADING is no event (12/R191 to
R195; notes/assumptions/2). The first beacon is due at the entry itself and, with the transmitter idle, is sent ahead of
every call (01/R11); that its expiry is part of the entry is the model's reading (notes/assumptions/48), and that no call of
the instant stands the model's own premise (notes/assumptions/43). -/
def Obligations.ConfigurationRead : Prop :=
  (∀ (dt : Nat) (image : List (BitVec 32)) (s : State), s.station = .loading → checksumHolds image = true →
      s.tx.instant = none →
      ∃ t, exec (.configReadDone dt image) s = .next t
        ∧ t.station = .running ∧ t.config = some (configOf image) ∧ t.clampCount = some (clampCountOf image)
        ∧ t.eventMask = (configOf image).eventMask ∧ t.tally = addCount s.tally (stationCtrIx .loads) 1
        ∧ t.flags = (if clampCountOf image = 0 then s.flags else s.flags.set (stationFlagIx .configClamped) true)
        ∧ t.epoch = s.epoch ∧ t.lanes = s.lanes ∧ t.ing = s.ing ∧ t.mgp = s.mgp
        ∧ t.ref = takeReference (configOf image).reference s.ref
        ∧ t.tx.beaconDue = some (t.now + 27000) ∧ t.pub.tick = some (t.now + 27000)
        ∧ (s.tx.sending.isSome → t.tx.sending = s.tx.sending ∧ t.tx.beaconPending = true ∧ t.tx.startCount = 16)
        ∧ (s.tx.sending = none → t.tx.beaconPending = false ∧ t.tx.startCount = 15
            ∧ ∃ b : Beacon, t.tx.sending = some (encodeRecord (.beacon b)) ∧ b.station = (configOf image).station
              ∧ b.start = true ∧ b.epoch = s.epoch ∧ b.emission = t.now)
        ∧ ∀ k, (chan t k).port.standard
              = (if ((configOf image).chans.get k).target = 0 then none else some ((configOf image).chans.get k).target)
            ∧ (judgeChannel ((configOf image).chans.get k) ≠ .configured → isSelecting s k = false →
                (chan t k).sup = (chan s k).sup)
            ∧ (judgeChannel ((configOf image).chans.get k) = .refused →
                (chan t k).flags.get (chanFlagIx .channelRefused) = true)
            ∧ ∀ (c e : Channel) (g : ChanConfig) (st : Standard), c = chan s k → e = chan t k →
                g = (configOf image).chans.get k → st = standardOf g.target →
              (g.target = 0 → e.port.tOut = none ∧ e.port.tNext = none)
              ∧ (g.target ≠ 0 → c.port.standard = some g.target → e.port.picture = c.port.picture
                  ∧ e.port.tOut = c.port.tOut ∧ e.port.tNext = c.port.tNext ∧ e.port.parity = c.port.parity
                  ∧ e.port.correction = c.port.correction
                  ∧ (s.ref.state ≠ .valid ∨ s.ref.standard = (configOf image).reference →
                      e.port.lock = c.port.lock ∧ e.port.pendingError = c.port.pendingError)
                  ∧ (s.ref.state = .valid → s.ref.standard ≠ (configOf image).reference →
                      e.port.lock = .freeRun ∧ e.port.pendingError = none))
              ∧ (g.target ≠ 0 → c.port.standard ≠ some g.target → e.port.picture = 0 ∧ e.port.tOut = none
                  ∧ e.port.tNext = some t.now ∧ e.port.parity = 0 ∧ e.port.correction = 0 ∧ e.port.lock = .freeRun
                  ∧ e.port.pendingError = none)
              ∧ (judgeChannel g = .configured → (∀ j, (chan s j).sup.state = .idle) → c.int.standard = 0 →
                ∀ (p : Rect) (accepted : FilterTable → Prop), p = cutTo g.placement st.lines st.samples →
                  (∀ x, accepted x ↔ ∀ i : Fin 64,
                    (x.get i).get 0 + (x.get i).get 1 + (x.get i).get 2 + (x.get i).get 3 = 256) →
                e.sup = { state := .acquiring, relock := c.sup.relock, holdover := none, decay := none
                          acquisition := some (shift t.now (g.acquisitionSeconds * 27000000 : Nat)) }
                ∧ e.int.lastCommitTime = some t.now
                ∧ e.ren.dEff = some (max g.delay
                    ((standardOf g.target).rawPeriod + 2 * pMax e.int.standard (huntedSet e.cad)))
                ∧ e.csl.selection = choice t k
                ∧ (∀ q ∈ e.csl.selection, ∀ d, offering t k q = some d → c.csl.selection ≠ some q →
                    e.int.standard = d.standard)
                ∧ (e.int.standard ≠ 0 → e.int.crop = some (cutTo g.crop (standardOf e.int.standard).lines
                    (standardOf e.int.standard).samples))
                ∧ e.siz.placement = some p
                ∧ e.flags.get (chanFlagIx .placementClamped)
                    = (c.flags.get (chanFlagIx .placementClamped) || !decide (meetsFrame g.placement st.lines st.samples))
                ∧ (∀ r, e.int.crop = some r → e.siz.vStep = some (r.lineCount * 65536 / p.lineCount)
                    ∧ e.siz.hStep = some (r.sampleCount * 65536 / p.sampleCount))
                ∧ (accepted g.vTable → e.siz.vTable = g.vTable ∧ e.siz.vReplaced = false)
                ∧ (¬ accepted g.vTable → e.siz.vTable = bilinear ∧ e.siz.vReplaced = true)
                ∧ (accepted g.hTable → e.siz.hTable = g.hTable ∧ e.siz.hReplaced = false)
                ∧ (¬ accepted g.hTable → e.siz.hTable = bilinear ∧ e.siz.hReplaced = true)
                ∧ e.flags.get (chanFlagIx .filterReplaced)
                    = (c.flags.get (chanFlagIx .filterReplaced) || e.siz.vReplaced || e.siz.hReplaced)))
  ∧ (∀ (dt : Nat) (image : List (BitVec 32)) (s : State),
      (s.station = .loading → checksumHolds image = false →
        exec (.configReadDone dt image) s = .next (conclude { advance dt s with
          station := .configFault
          tally := addCount s.tally (stationCtrIx .configFaults) 1
          flags := s.flags.set (stationFlagIx .configFault) true }))
      ∧ (s.station ≠ .loading → exec (.configReadDone dt image) s = .next (conclude (advance dt s))))

/-- Whatever words an image holds, the values taken from it lie in their ranges; none is counted as clamped exactly
where every word was taken as it was read (12/R192). That every replacement counts, an odd value made even among them, is
the model's own reading (notes/assumptions/24). -/
def Obligations.ImageValuesInRange : Prop :=
  ∀ image : List (BitVec 32), stationConfigLaw (configOf image)
    ∧ (clampCountOf image = 0 ↔ treatedValues image = rawValues image)
    ∧ ∀ (i : Nat) (v : Int), (rawValues image)[i]? = some v → (treatedValues image)[i]? = some (treat (treatmentAt i) v)

/-- RESTART as one action: the epoch, the link, the peers, the publications, the ingest port and the channels back at
their values; flags, configuration, reference and port timebases kept, and every counter of a channel but those that
its flush may count (12/R196, 01/R10, 02/R35, 03/R52). A record in progress is completed before the transmitter clears
(01/R10). How that waits, what a picture in scan does meanwhile, and the generation and standard code shown outside
RUNNING are the model's choices (notes/assumptions/9, 25, 35). -/
def Obligations.RestartCommand : Prop :=
  ∀ (dt : Nat) (s : State), s.tx.offers = Bank.fill 2 [] →
    exec (.restart dt) s = .next { advance dt s with
      epoch := s.epoch + 1
      station := .loading
      tx := if s.tx.sending.isSome then { s.tx with restartOwed := true, instant := none } else { s.tx with
        beaconDue := none, beaconPending := false, callQueue := [], instant := none, bursts := Bank.fill 2 []
        mark := 1, restartOwed := false }
      lanes := s.lanes.map fun x => { x with entry := .cleared }
      pub := { s.pub with
        adverts := Bank.ofFn fun p => ⟨.none, if p = 0 ∨ s.config = none then 0 else 1,
          if p = 0 then (if s.ing.state = .locked then s.ing.locked else 0)
          else ((chanConfig s (if p = 1 then 0 else 1)).map (·.target)).getD 0⟩
        lastSequence := Bank.fill 3 0, demand := Bank.fill 3 (Bank.fill 8 0)
        slots := Bank.fill 2 .freed, tick := none, unheard := false }
      ing := { s.ing with forming := false }
      chans := s.chans.map (restartChannel (advance dt s).now)
      mgp := { s.mgp with phase := .received, response := [0] }
      tally := addCount s.tally (stationCtrIx .commandsAccepted) 1
      flags := s.flags.set (stationFlagIx .restarted) true }
    ∧ ∀ (now : Time) (c : Channel), ∃ d, restartChannel now c = d
        ∧ d.csl = .powerOn ∧ d.int = .powerOn ∧ d.cad = .powerOn ∧ d.meu = .powerOn ∧ d.ren = .powerOn
        ∧ d.siz = .powerOn ∧ d.sup = .powerOn ∧ timebaseOf d.port = timebaseOf c.port
        ∧ d.port.buffers = Bank.fill 2 .empty ∧ d.port.lastGood = none ∧ d.port.sequence = 0
        ∧ d.tally.get (chanCtrIx .flushes) = c.tally.get (chanCtrIx .flushes) + 1
        ∧ (∀ x : ChanCtr, x ∉ [.flushes, .renderAbandoned, .motionAbandoned, .cadenceBreaks] →
            d.tally.get (chanCtrIx x) = c.tally.get (chanCtrIx x))
        ∧ ∀ f : Fin 15, c.flags.get f = true → d.flags.get f = true

/-! ## The management port (12/12.4) -/

/-- A transaction begins with the event summary as its first byte, 64 times the number of the station state plus 2^g over
the groups g with a flag set (12/R201; that LOADING, RUNNING and CONFIG_FAULT fit a byte so is the model's reading,
notes/assumptions/34); select released before the command is received aborts and counts it, and after that only ends the
clocking out (12/R197). A select asserted twice, or released when it is not asserted, is no event (the model's choice,
notes/assumptions/2); an assertion after a received command ends that transaction and begins its own (the model's choice,
notes/assumptions/6). -/
def Obligations.SelectBeginsAndEnds : Prop :=
  ∀ (dt : Nat) (s : State),
    (s.mgp.phase ≠ .selected → exec (.selectAsserted dt) s = .next { conclude (advance dt s) with
      mgp := { phase := .selected, summary := eventSummary s, response := [] } })
    ∧ (s.mgp.phase = .selected → exec (.selectReleasedEarly dt) s = .next { conclude (advance dt s) with
        mgp := { s.mgp with phase := .idle, response := [] }
        tally := addCount s.tally (stationCtrIx .mgpAborted) 1 })
    ∧ (s.mgp.phase = .received → exec (.selectReleasedEarly dt) s = .next { conclude (advance dt s) with
        mgp := { s.mgp with phase := .idle, response := [] } })
    ∧ (s.mgp.phase = .idle → exec (.selectReleasedEarly dt) s = .next (conclude (advance dt s)))
    ∧ (s.mgp.phase = .selected → exec (.selectAsserted dt) s = .next (conclude (advance dt s)))
    ∧ ∀ b : Nat → Nat,
        (∀ g, ((∃ j : Nat, (groupFlags s g)[j]? = some true) → b g = 2 ^ g)
          ∧ ((∀ j : Nat, (groupFlags s g)[j]? ≠ some true) → b g = 0)) →
        (eventSummary s).toNat = (match s.station with | .loading => 0 | .running => 64 | .configFault => 128)
          + (b 0 + b 1 + b 2 + b 3 + b 4 + b 5)

/-- An accepted read answers outcome 0 and its snapshot, eight bytes a value with the most significant first, and does
nothing else: time passes as it would without the read, and the command is counted. What each snapshot holds, value by
value: READ_SUMMARY the station's; READ_PEERS every field and counter of the seven lanes; READ_CHANNEL the configured
values, Copy Selector, intake, cadence detector, Motion Estimator, Render Engine, sizer, supervisor and port of the
channel, with the Reference Input and the counters; READ_COUNTERS the counters of a block with their snapshot (12/R197,
R198, R200, 02/R34). Bytes clocked out after the end of the response are 0. The model's choices and readings here: places
and padding (notes/assumptions/21), the count of the read itself (22), the zeros of an entry of feed none (46), 1 and 0
(50), history entries (51), readiness (52), no mode (53), SILENT (54), unused, stopped and absent (58), the order within a
pass-over entry (59), the number of an origin and the origin of AUTO (61), the numbers of the channel states (62) and of
other names (64). -/
def Obligations.ReadsDisturbNothing : Prop :=
  ∀ (dt : Nat) (s u : State) (nil n : Nat → Values) (z : Int → Values) (t : Bool → Values) (o : Option Nat → Values)
    (time : Option Time → Values) (count : List Count → Values) (answer : Values → Host.Outcome State Fault Refusal),
    u = advance dt s → (∀ m, nil m = List.replicate m (BitVec.ofNat 64 (2 ^ 63))) →
    (∀ x, n x = [BitVec.ofNat 64 x]) → (∀ x, z x = [BitVec.ofInt 64 x]) → (∀ x, t x = n (if x then 1 else 0)) →
    (∀ x, o x = match x with | some y => n y | none => nil 1) →
    (∀ x, time x = match x with | some y => n y.toNat | none => nil 1) → (∀ xs, count xs = xs.flatMap fun x => n x.toNat) →
    (∀ vs, answer vs = .next (answered (0 :: vs.flatMap valueBytes) .commandsAccepted dt s)) →
    (∀ v, (valueBytes v).length = 8
        ∧ ∀ i, i < 8 → (valueBytes v)[i]? = some (BitVec.ofNat 8 (v.toNat / 2 ^ (8 * (7 - i)))))
    ∧ exec (.readSummary dt) s = answer (n ([StationState.loading, .running, .configFault].idxOf s.station)
        ++ n s.epoch.toNat ++ n u.now.toNat ++ o ((ownNumber s).map (·.val)) ++ o s.clampCount ++ n s.eventMask.toNat
        ++ (List.range 6).flatMap fun g => (groupFlags s g).flatMap t)
    ∧ (∀ lanes : LaneNo → Values,
        (∀ l x e, x = lane s l → e = x.entry → lanes l =
          n ([LaneState.silent, .qualifying, .live, .lapsed].idxOf e.state) ++ o (e.station.map (·.val))
          ++ o (e.epoch.map (·.toNat)) ++ n e.count ++ t e.startMark ++ time e.lastArrival ++ time e.deadline
          ++ n e.offset.toNat ++ n e.stepCount
          ++ ([0, 1, 2] : List PubIx).flatMap (fun p => o ((e.entries.get p).feed.map (·.val))
            ++ n (e.entries.get p).rank.val ++ n (e.entries.get p).generation.val
            ++ n ([PubStatus.none, .absent, .available, .sending, .deferred].idxOf (e.entries.get p).status)
            ++ n (e.entries.get p).standard.val ++ n (e.entries.get p).sequence.toNat)
          ++ ([.rxRecords, .crcError, .unknownType, .malformed, .stationClash, .offsetOutlier, .timeStep, .laneLapsed,
            .laneRequalified] : List LaneCtr).flatMap fun y => n (x.tally.get (laneCtrIx y)).toNat) →
        exec (.readPeers dt) s = answer (([0, 1, 2, 3, 4, 5, 6] : List LaneNo).flatMap lanes))
    ∧ (∀ (k : Chan) (b : Byte) (c : Channel) (sel : Selector) (int : Intake) (cad : Cadence) (siz : Sizer)
        (sup : Supervisor) (port : Port) (ref : Reference) (copy : Option Copy → Values) (rect : Option Rect → Values)
        (family : Option Family → Values) (flags : Slot → Values) (tally : List ChanCtr → Values)
        (vCfg vSel vInt vCad vMeu vRen vSiz vSup vPort vRef : Values), b.toNat = k.val → c = chan s k → sel = c.csl →
        int = c.int → cad = c.cad → siz = c.siz → sup = c.sup → port = c.port → ref = s.ref →
        (∀ x, copy x = match x with
          | some q => (match q.origin with | .lane l => n l.val | .internal => n 7) ++ n q.station.val ++ n q.pub.val
          | none => nil 3) →
        (∀ x, rect x = match x with
          | some r => n r.firstLine ++ n r.lineCount ++ n r.firstSample ++ n r.sampleCount
          | none => nil 4) →
        (∀ x, family x = match x with
          | some f => n ([Family.film32, .film22, .rep32, .rep22].idxOf f)
          | none => nil 1) →
        (∀ x : Slot, flags x = ((x.raws.take 2).flatMap fun r => match r.flags with
            | some f => n ([RepeatFlag.r, .n, .s].idxOf f.1) ++ n ([CombFlag.s, .l, .h].idxOf f.2)
            | none => nil 2) ++ nil ((2 - x.raws.length) * 2)) →
        (∀ xs, tally xs = xs.flatMap fun x => n (c.tally.get (chanCtrIx x)).toNat) →
        vCfg = (match chanConfig s k with
          | none => nil 43
          | some g => o (g.feed.map (·.val)) ++ n g.target.val ++ o (g.outFeed.map (·.val)) ++ n g.outRank.val
              ++ t g.outPublish ++ rect (some g.crop) ++ n g.delay ++ n g.stillThreshold ++ n g.repeatThreshold
              ++ n g.combThreshold ++ n g.matchLimit ++ n g.lockCycles ++ t g.cadenceEnable ++ n g.acquisitionSeconds
              ++ n g.holdoverMs ++ n g.relockLimit ++ n g.revertSeconds ++ n g.callDuration.toNat ++ n g.refreshMs
              ++ rect (some g.placement) ++ n g.fillColour.y ++ n g.fillColour.cb ++ n g.fillColour.cr
              ++ n ([SafeMode.black, .fill, .bars, .freeze].idxOf g.safeMode) ++ g.matrix.items.flatMap z
              ++ g.offsets.items.flatMap z ++ t g.legal) →
        vSel = copy sel.selection ++ (match sel.forced with | some q => copy (some q) | none => n 255 ++ nil 2)
          ++ ((sel.passOver.take 4).flatMap fun e =>
            n e.lane.val ++ n e.station.val ++ n e.pub.val ++ n e.expiry.toNat) ++ nil ((4 - sel.passOver.length) * 4)
          ++ copy (sel.revert.map (·.1)) ++ time (sel.revert.map (·.2)) ++ time sel.refresh
          ++ o (sel.callTarget.map (·.val)) ++ n sel.deferred ++ z sel.rebase ++ n sel.rebaseStep ++ t sel.rebasePending
          ++ n sel.sourceGeneration.val
          ++ ((candidates s k).flatMap fun d => (match d.origin with | .lane l => n l.val | .internal => n 7)
            ++ o (d.station.map (·.val)) ++ n d.pub.val ++ o (d.feed.map (·.val)) ++ o (d.rank.map (·.val))
            ++ n ([PubStatus.none, .absent, .available, .sending, .deferred].idxOf d.status) ++ n d.generation.val
            ++ n d.standard.val ++ t (eligible s k d))
          ++ tally [.copySwitch, .copyPassedOver, .copyReverted, .rebased] →
        vInt = copy int.aim ++ n int.standard.val ++ rect int.crop ++ o (int.openSlot.map (·.val))
          ++ o (int.refused.map (·.toNat)) ++ n int.switchCount.toNat ++ n int.pEst ++ time int.lastClosed
          ++ time int.newest ++ time int.lastCommitted ++ ((int.committed.take 12).flatMap fun i => n i.val)
          ++ nil (12 - int.committed.length) ++ ((int.history.take 2).flatMap fun e => n e.slot.val ++ n e.index)
          ++ nil ((2 - int.history.length) * 2) ++ o (int.retireRef.map (·.val)) ++ time int.lastCommitTime
          ++ t int.stallMark
          ++ ((List.finRange 12).flatMap fun i =>
            n ([SlotState.free, .filling, .pairing, .finishing, .complete, .history].idxOf (slotOf c i).state)
            ++ (((slotOf c i).raws.take 2).flatMap fun r => n ([Kind.frame, .fieldTop, .fieldBottom].idxOf r.kind)
              ++ o ((parityOf r.kind).map (·.val)) ++ n r.sequence.toNat ++ n r.stamp.toNat ++ n r.switchCount.toNat)
            ++ nil ((2 - (slotOf c i).raws.length) * 5) ++ time (slotOf c i).committed ++ flags (slotOf c i)
            ++ t (renderMark c i) ++ t (motionMark c i) ++ t (historyMark c i) ++ t (finishMark c i)
            ++ n (slotOf c i).missing ++ t (slotOf c i).table.isSome)
          ++ tally [.picturesAdmitted, .kindMismatch, .stampOrder, .stray, .ringOverrun, .ringFull, .missingLine,
            .emptyPicture, .committed, .pairAbandoned, .standardChange, .flushes, .stall] →
        vCad = ((huntedSet cad).take 2).flatMap (fun f => family (some f)) ++ nil (2 - (huntedSet cad).length)
          ++ n ([none, some Family.film32, some .film22, some .rep32, some .rep22].idxOf cad.mode)
          ++ family cad.rec32.family ++ o cad.rec32.next ++ n cad.rec32.count
          ++ family cad.rec22.family ++ o cad.rec22.next ++ n cad.rec22.count
          ++ family cad.pendingLock ++ time cad.anchor ++ (cad.repeats.take 5).flatMap o ++ nil (5 - cad.repeats.length)
          ++ (cad.combs.take 2).flatMap o ++ nil (2 - cad.combs.length)
          ++ o (cad.lastFlag.map fun f => [RepeatFlag.r, .n, .s].idxOf f)
          ++ (List.finRange 12).flatMap (fun i => flags (slotOf c i)) ++ n (pCommit cad.mode int.pEst)
          ++ tally [.cadenceLocks, .cadenceBreaks, .repeatsRemoved] →
        vMeu = ((c.meu.pending.take 12).flatMap fun q => n q.b.val ++ n q.a.val)
          ++ nil ((12 - c.meu.pending.length) * 2)
          ++ (match c.meu.job with
            | some j => n j.pair.b.val ++ n j.pair.a.val ++ n j.columns ++ n j.rows ++ n (recordsWritten k u.now j)
            | none => nil 5)
          ++ ((List.finRange 12).flatMap fun i =>
            n ([VectorState.pending, .ready, .absent].idxOf (vectorState c i))
            ++ (match (slotOf c i).table with
              | some x => n x.invalid ++ (match x.globalVec with | some v => z v.x ++ z v.y | none => nil 2) ++ t x.cut
              | none => nil 4))
          ++ tally [.motionJobs, .motionCuts, .motionSkipped, .motionAbandoned] →
        vRen = o c.ren.dEff
          ++ (match c.ren.record with
            | none => nil 14
            | some r => n r.picture ++ n r.tOut.toNat ++ n r.select.toNat ++ n r.conceal.toNat ++ n r.point.toNat
                ++ n ([RecordState.waiting, .rendering, .done].idxOf r.state) ++ n r.a.val ++ o (r.b.map (·.val))
                ++ t r.early ++ o r.prelim
                ++ o (r.mode.map fun m => [RenderMode.vectored, .plain, .aOnly].idxOf m + 1) ++ o r.weight
                ++ n r.buffer.val
                ++ (if r.state ≠ .waiting then nil 1 else if r.early = true ∨ r.prelim = some 0 then n 0
                  else if r.b.isSome ∧ ∃ w ∈ r.prelim, 0 < w then n 1 else n 2))
          ++ tally [.renders, .early, .late, .unvectored, .gapHolds, .cutSnaps, .overrun, .renderAbandoned,
            .renderSkipped] →
        vSiz = rect siz.placement ++ o siz.vStep ++ o siz.hStep ++ t siz.vReplaced ++ t siz.hReplaced
          ++ siz.matrix.items.flatMap z ++ siz.offsets.items.flatMap z ++ t siz.legal ++ n siz.fillColour.y
          ++ n siz.fillColour.cb ++ n siz.fillColour.cr →
        vPort = o (port.standard.map (·.val)) ++ n port.picture ++ time port.tOut ++ time port.tNext ++ n port.parity.val
          ++ z port.correction ++ n ([LockState.freeRun, .pulling, .locked].idxOf port.lock)
          ++ (match port.pendingError with | some e => z e | none => nil 1)
          ++ t (port.buffers.get 0).rendered ++ n (port.buffers.get 0).parity.val
          ++ t (port.buffers.get 1).rendered ++ n (port.buffers.get 1).parity.val
          ++ n ([ScanSource.buffer 0, .buffer 1, .black, .fill, .bars].idxOf port.source)
          ++ o (port.lastGood.map (·.val)) ++ n port.sequence.toNat →
        vRef = n ([RefState.absent, .qualifying, .valid].idxOf ref.state) ++ n ref.standard.val ++ time ref.lastPulse
          ++ o ref.good ++ time ref.expected ++ o ref.miss
          ++ (match ref.measured with | some e => z e | none => nil 1) →
        vSup = n ([ChannelState.acquiring, .converting, .holdover, .safe, .idle, .latched].idxOf sup.state) ++ n sup.relock
          ++ o ((chanConfig s k).map (·.relockLimit)) ++ time sup.acquisition ++ time sup.holdover ++ time sup.decay
          ++ vPort ++ vRef ++ tally [.picturesScanned, .repeats, .refJumps] ++ count ref.tally.items
          ++ tally [.convertStarts, .holdovers, .safeEntries, .acquireTimeout, .relocks, .latches] →
        exec (.readChannel dt b) s = answer (vCfg ++ vSel ++ vInt ++ vCad ++ vMeu ++ vRen ++ vSiz ++ vSup)
        ∧ exec (.readCounters dt 3) s = answer (count ref.tally.items ++ vRef))
    ∧ exec (.readCounters dt 0) s
        = answer (count s.tx.tally.items ++ count (s.tx.slotTally.get 0).items ++ count (s.tx.slotTally.get 1).items)
    ∧ exec (.readCounters dt 1) s = answer (count s.pub.tally.items
        ++ ([0, 1, 2] : List PubIx).flatMap (fun p => count (s.pub.itemTally.get p).items)
        ++ ([0, 1, 2] : List PubIx).flatMap (fun p =>
          n ([PubStatus.none, .absent, .available, .sending, .deferred].idxOf (s.pub.adverts.get p).status))
        ++ ([0, 1, 2] : List PubIx).flatMap (fun p => (s.pub.demand.get p).items.flatMap fun d => n d.toNat)
        ++ ([0, 1] : List PubSlotNo).flatMap fun i =>
          n ([PubSlotState.free, .granted, .carrying, .ending].idxOf (s.pub.slots.get i).state)
          ++ o ((s.pub.slots.get i).holder.map (·.val)) ++ t (s.pub.slots.get i).openPicture
          ++ o ((s.pub.slots.get i).reason.map fun r => [EndReason.yield, .release].idxOf r))
    ∧ (∀ g : Ingest, g = s.ing → exec (.readCounters dt 2) s = answer (count g.tally.items
        ++ n ([IngestState.noSignal, .measuring, .locked].idxOf g.state) ++ n g.locked.val ++ o (g.candidate.map (·.val))
        ++ n g.matchCount
        ++ (match g.raw with
          | some r => n r.parity.val ++ n r.start.toNat ++ n r.lines ++ o r.samples ++ t r.irregular
          | none => nil 5)
        ++ o (g.previousParity.map (·.val))
        ++ (match g.openLine with
          | some l => n l.index ++ n (4 * l.groups.length + l.begun.length)
              ++ (l.groups.flatMap fun q => n q.cb.toNat ++ n q.y0.toNat ++ n q.cr.toNat ++ n q.y1.toNat)
              ++ l.begun.flatMap fun w => n w.toNat
          | none => nil 2)
        ++ time g.deadline ++ n g.sequence.toNat ++ t g.forming
        ++ (match g.lastMeasure with
          | some m => n m.lines ++ o m.samples ++ z m.period
              ++ o (m.scan.map fun x => [Scan.interlaced, .progressive].idxOf x)
          | none => nil 4)))
    ∧ exec (.readCounters dt 4) s = answer (count (addCount s.tally (stationCtrIx .commandsAccepted) 1).items)
    ∧ ∀ (bytes : List Byte) (c : StationCtr) (i : Nat) (m : Management), m = (answered bytes c dt s).mgp →
        (∀ b, bytes[i]? = some b → responseByte m i = b) ∧ (bytes.length ≤ i → responseByte m i = 0)

/-- A refused command answers its reason, and changes nothing but the count of refusals (12/R197 to R199): an unknown
code, an argument out of its range, a channel that does not exist or is IDLE, a station not RUNNING, a channel not
LATCHED. -/
def Obligations.RefusedCommandsChangeNothing : Prop :=
  ∀ (dt : Nat) (s : State) (b : Byte),
    exec (.unknownCode dt b) s = .next (answered [1] .commandsRefused dt s)
    ∧ (2 ≤ b.toNat → exec (.readChannel dt b) s = .next (answered [2] .commandsRefused dt s))
    ∧ (5 ≤ b.toNat → exec (.readCounters dt b) s = .next (answered [1] .commandsRefused dt s))
    ∧ (∀ f i : Byte, s.station = .loading →
        exec (.clearEvents dt b f i) s = .next (answered [3] .commandsRefused dt s))
    ∧ (∀ f i : Byte, s.station ≠ .loading → flagsExist b.toNat f.toNat i.toNat = false →
        exec (.clearEvents dt b f i) s = .next (answered [1] .commandsRefused dt s))
    ∧ (∀ o n p : Byte, s.station ≠ .running →
        exec (.releaseLatch dt b) s = .next (answered [3] .commandsRefused dt s)
        ∧ exec (.forceCopy dt b o n p) s = .next (answered [3] .commandsRefused dt s))
    ∧ (∀ o n p : Byte, s.station = .running → (∀ k : Chan, b.toNat = k.val → (chan s k).sup.state = .idle) →
        exec (.releaseLatch dt b) s = .next (answered [2] .commandsRefused dt s)
        ∧ exec (.forceCopy dt b o n p) s = .next (answered [2] .commandsRefused dt s))
    ∧ (∀ k : Chan, s.station = .running → b.toNat = k.val → (chan s k).sup.state ≠ .idle →
        (chan s k).sup.state ≠ .latched → exec (.releaseLatch dt b) s = .next (answered [4] .commandsRefused dt s))
    ∧ ∀ (k : Chan) (o n p : Byte), s.station = .running → b.toNat = k.val → (chan s k).sup.state ≠ .idle →
        forceable s k o n p = false → exec (.forceCopy dt b o n p) s = .next (answered [1] .commandsRefused dt s)

/-- CLEAR_EVENTS outside LOADING clears the flags it names and no other, and changes nothing but flags (12/R198, R202).
-/
def Obligations.ClearEventsCommand : Prop :=
  ∀ (dt : Nat) (s : State) (g f i : Byte), s.station ≠ .loading → flagsExist g.toNat f.toNat i.toNat = true →
    ∃ u, exec (.clearEvents dt g f i) s = .next (conclude { u with
        mgp := { s.mgp with phase := .received, response := [0] }
        tally := addCount s.tally (stationCtrIx .commandsAccepted) 1 })
      ∧ eraseFlags u = eraseFlags (advance dt s)
      ∧ ∀ g' j : Nat, (groupFlags u g')[j]?
          = if g' = g.toNat ∧ isCleared g.toNat f.toNat i.toNat j = true then (groupFlags s g')[j]?.map fun _ => false
            else (groupFlags s g')[j]?

/-- RELEASE_LATCH on a LATCHED channel sets its relock counter to 0 and brings it to ACQUIRING with its timer, its stall
watch and its delay, the rest of the channel as it was, and the channel re-judges. FORCE_COPY on a channel that is not IDLE
sets the forced copy and re-judges at once (10/R168, R173, 04/R59, 12/R198). -/
def Obligations.LatchReleasedAndCopyForced : Prop :=
  (∀ (dt : Nat) (s : State) (b : Byte) (k : Chan) (g : ChanConfig), s.station = .running → chanConfig s k = some g →
      b.toNat = k.val → (chan s k).sup.state = .latched →
      ∃ u, exec (.releaseLatch dt b) s = .next (conclude { rejudgeOne k u with
          mgp := { s.mgp with phase := .received, response := [0] }
          tally := addCount s.tally (stationCtrIx .commandsAccepted) 1 })
        ∧ u = { advance dt s with chans := u.chans } ∧ chan u (otherChan k) = chan s (otherChan k)
        ∧ (∀ least, least = pOut g + 2 * pMax (chan s k).int.standard (huntedSet (chan s k).cad) →
            chan u k = { chan s k with
              sup := { state := .acquiring, relock := 0, holdover := none, decay := none
                       acquisition := some (shift u.now (g.acquisitionSeconds * 27000000 : Nat)) }
              int := { (chan s k).int with lastCommitTime := some u.now }
              ren := { (chan s k).ren with dEff := some (max g.delay least) }
              flags := if g.delay < least then (chan s k).flags.set (chanFlagIx .delayRaised) true
                else (chan s k).flags })
        ∧ (choice u k = selectionOf u k → (chan (rejudgeOne k u) k).sup = (chan u k).sup))
  ∧ (∀ (dt : Nat) (s : State) (b o n p : Byte) (k : Chan), s.station = .running → b.toNat = k.val →
      (chan s k).sup.state ≠ .idle → forceable s k o n p = true →
      ∃ u q, exec (.forceCopy dt b o n p) s = .next (conclude { rejudgeOne k u with
          mgp := { s.mgp with phase := .received, response := [0] }
          tally := addCount s.tally (stationCtrIx .commandsAccepted) 1 })
        ∧ u = { advance dt s with chans := s.chans.modify k fun c => { c with csl := { c.csl with forced := q } } }
        ∧ (o = 255 → q = none)
        ∧ (o ≠ 255 → ∃ c ∈ q, c.station.val = n.toNat ∧ c.pub.val = p.toNat
            ∧ (match c.origin with | .lane l => l.val = o.toNat | .internal => o = 7))
        ∧ (q.isSome → (∀ c ∈ q, isEligible u k c = true) → choice u k = q))

/-! ## Receiving (01/1.4, 1.5) -/

/-- A record that fails a check is counted once by the first check it fails, flagged, and reaches no block: an unknown
type, a header cut short, a wrong CRC, a header field outside its values, an excess word, a LINES record cut short in its
payload. A picture or line record that is of no channel's window, for its lane, its origin station, its publishable index
or its feed, is counted and has no further effect (01/R4 to R7, 05/R70). -/
def Obligations.RecordsThatReachNoBlock : Prop :=
  (∀ (dt flight : Nat) (l : LaneNo) (words : List Word) (s : State), words ≠ [] →
      ∀ (code : Nat) (e : LaneCtr) (w : Nat → Nat), (∀ i, w i = (words.getD i 0).toNat) → code = w 0 / 4096 →
        ((code = 0 ∨ 5 ≤ code) ∧ e = .unknownType
          ∨ (∃ h, headerLength code = some h ∧ words.length < h) ∧ e = .malformed
          ∨ (∃ h, headerLength code = some h ∧ h ≤ words.length ∧ words.getD (h - 1) 0 ≠ crc (words.take (h - 1)))
              ∧ e = .crcError
          ∨ (∃ h, headerLength code = some h ∧ h < words.length ∧ code ≠ 4 ∧ words.getD (h - 1) 0 = crc (words.take (h - 1)))
              ∧ e = .malformed
          ∨ (∃ h, headerLength code = some h ∧ h ≤ words.length ∧ words.getD (h - 1) 0 = crc (words.take (h - 1))
                ∧ (code = 1 ∧ (∃ j, (j = 4 ∨ j = 6 ∨ j = 8) ∧ w j / 32768 = 1
                      ∧ (w j / 64 % 8 = 0 ∨ 5 ≤ w j / 2 % 8 ∨ 14 ≤ w (j + 1) / 4096))
                  ∨ code = 2 ∧ w 0 / 512 % 8 = w 0 / 64 % 8
                  ∨ code = 3 ∧ (w 0 / 128 % 4 = 3 ∨ w 1 / 16 % 4 = 3 ∨ w 1 % 16 = 0 ∨ 14 ≤ w 1 % 16 ∨ w 5 % 2048 = 0
                      ∨ 1152 < w 5 % 2048 ∨ w 6 % 4096 = 0 ∨ w 6 % 2 = 1 ∨ 2048 < w 6 % 4096)
                  ∨ code = 4 ∧ (w 0 / 128 % 4 = 3 ∨ 1151 < w 2 % 2048 ∨ w 3 % 2 = 1 ∨ w 4 % 512 = 0 ∨ w 4 % 2 = 1
                      ∨ 256 < w 4 % 512 ∨ 2048 < w 3 % 2048 + w 4 % 512 ∨ words.length ≠ 6 + 2 * (w 4 % 512))))
              ∧ e = .malformed) →
        exec (.recordReceived dt l flight words) s = .next (conclude { advance dt s with
          lanes := s.lanes.modify l fun x => { x with
            tally := addCount x.tally (laneCtrIx e) 1, flags := x.flags.set (laneFlagIx .linkError) true } }))
  ∧ (∀ (dt flight : Nat) (l : LaneNo) (words : List Word) (s : State) (origin : StationNo) (pub : PubIx) (feed : FeedNo),
      (∃ p, checkRecord words = .ok (.picture p) ∧ origin = p.origin ∧ pub = p.pub ∧ feed = p.feed)
        ∨ (∃ x, checkRecord words = .ok (.lines x) ∧ origin = x.origin ∧ pub = x.pub ∧ feed = x.feed) →
      (∀ k q g, (chan s k).int.aim = some q → chanConfig s k = some g →
        q.origin ≠ .lane l ∨ q.station ≠ origin ∨ q.pub ≠ pub ∨ g.feed ≠ some feed) →
        exec (.recordReceived dt l flight words) s = .next (conclude { advance dt s with
          lanes := s.lanes.modify l fun x => { x with tally := addCount x.tally (laneCtrIx .rxRecords) 1 } }))

/-! ## Peers (02) -/

/-- A taken beacon's part in its lane (02/R17, R18, R25): identity, start mark, last arrival, deadline and publication
entries are the beacon's; a beacon with the station's own number is a clash and leaves the entry as it was. -/
def Obligations.BeaconReceived : Prop :=
  ∀ (dt flight : Nat) (l : LaneNo) (words : List Word) (s : State) (b : Beacon), checkRecord words = .ok (.beacon b) →
    (ownNumber s = some b.station →
      exec (.recordReceived dt l flight words) s = .next (conclude { advance dt s with
        lanes := s.lanes.modify l fun x => { x with
          tally := addCount (addCount x.tally (laneCtrIx .rxRecords) 1) (laneCtrIx .stationClash) 1
          flags := x.flags.set (laneFlagIx .stationClash) true } }))
    ∧ (ownNumber s ≠ some b.station →
      ∃ t, exec (.recordReceived dt l flight words) s = .next t
        ∧ (∀ m, m ≠ l → lane t m = lane s m)
        ∧ lane t l = absorbBeacon (s.now + BitVec.ofNat 48 dt - BitVec.ofNat 48 flight) b (countLane (lane s l) .rxRecords)
        ∧ (lane t l).progress = (lane s l).progress
        ∧ (lane t l).entry.station = some b.station ∧ (lane t l).entry.epoch = some b.epoch
        ∧ (lane t l).entry.startMark = b.start ∧ (lane t l).entry.entries = b.entries
        ∧ (lane t l).entry.lastArrival = some (s.now + BitVec.ofNat 48 dt - BitVec.ofNat 48 flight)
        ∧ (lane t l).entry.deadline = some (s.now + BitVec.ofNat 48 dt - BitVec.ofNat 48 flight + 108000)
        ∧ (lane t l).tally.get (laneCtrIx .rxRecords) = (lane s l).tally.get (laneCtrIx .rxRecords) + 1
        ∧ t.ing = s.ing ∧ t.ref = s.ref ∧ t.mgp = s.mgp ∧ t.config = s.config)

/-- The lane states a taken beacon leaves, by the state the lane is in (02/R19, R20, R22, R24): three in time and of one
identity in a row make a lane LIVE, and anything else starts the count again. -/
def Obligations.LaneQualification : Prop :=
  ∀ (arrival : Time) (b : Beacon) (x y : Lane) (same soon : Prop), y = absorbBeacon arrival b x →
    (same ↔ x.entry.station = some b.station ∧ x.entry.epoch = some b.epoch) →
    (soon ↔ ∃ t, x.entry.lastArrival = some t ∧ sdiff arrival t ≤ 40500) →
      (x.entry.state = .silent ∨ x.entry.state = .lapsed → y.entry.state = .qualifying ∧ y.entry.count = 1)
      ∧ (x.entry.state = .qualifying → same → soon → x.entry.count = 1 → y.entry.state = .qualifying ∧ y.entry.count = 2)
      ∧ (x.entry.state = .qualifying → same → soon → x.entry.count = 2 →
          y.entry.state = .live ∧ y.entry.count = 3 ∧ y.flags.get (laneFlagIx .laneLive) = true)
      ∧ (x.entry.state = .qualifying → ¬ (same ∧ soon) → y.entry.state = .qualifying ∧ y.entry.count = 1)
      ∧ (x.entry.state = .live → same → soon → (b.start = false ∨ x.entry.startMark = true) →
          y.entry.state = .live ∧ y.entry.count = 3
          ∧ y.tally.get (laneCtrIx .laneRequalified) = x.tally.get (laneCtrIx .laneRequalified))
      ∧ (x.entry.state = .live → ¬ (same ∧ soon ∧ (b.start = false ∨ x.entry.startMark = true)) →
          y.entry.state = .qualifying ∧ y.entry.count = 1
          ∧ y.tally.get (laneCtrIx .laneRequalified) = x.tally.get (laneCtrIx .laneRequalified) + 1)

/-- No lane goes LIVE but by a beacon in time, of the identity that QUALIFYING has counted twice (02/R20). -/
def Obligations.OnlyAThirdBeaconMakesALaneLive : Prop :=
  ∀ (c : Instr) (s t : State) (l : LaneNo), exec c s = .next t → (lane t l).entry.state = .live →
    (lane s l).entry.state ≠ .live →
      ∃ dt flight words b, c = .recordReceived dt l flight words ∧ checkRecord words = .ok (.beacon b)
        ∧ ownNumber s ≠ some b.station ∧ (lane s l).entry.state = .qualifying ∧ 2 ≤ (lane s l).entry.count
        ∧ (lane s l).entry.station = some b.station ∧ (lane s l).entry.epoch = some b.epoch
        ∧ (∃ a, (lane s l).entry.lastArrival = some a
            ∧ sdiff (s.now + BitVec.ofNat 48 dt - BitVec.ofNat 48 flight) a ≤ 40500)
        ∧ (lane t l).flags.get (laneFlagIx .laneLive) = true

/-- The estimate of a lane's offset: an inlier moves it by a sixteenth of the deviation, rounded half away, and a
deviation of at most 7 leaves it unchanged; a first outlier leaves it unchanged, is counted, and raises no flag; a
second in a row steps it to its own measurement, flagged and counted; where it does not continue, it is initialised
without event; and it continues by the tables of the lane states (02/R19, R20, R22, R24, R29 to R32). -/
def Obligations.OffsetEstimate : Prop :=
  (∀ (arrival : Time) (b : Beacon) (x y : Lane) (d : Int), continues x.entry arrival b = true →
      d = sdiff (arrival - b.emission) x.entry.offset → y = absorbBeacon arrival b x →
        (d.natAbs ≤ 2700 → y.entry.offset = shift x.entry.offset (roundHalfAway d 16) ∧ y.entry.stepCount = 0
          ∧ (d.natAbs ≤ 7 → y.entry.offset = x.entry.offset))
        ∧ (2700 < d.natAbs → x.entry.stepCount = 0 → y.entry.offset = x.entry.offset ∧ y.entry.stepCount = 1
          ∧ y.tally.get (laneCtrIx .offsetOutlier) = x.tally.get (laneCtrIx .offsetOutlier) + 1
          ∧ ∀ f, f ≠ laneFlagIx .laneLive → y.flags.get f = x.flags.get f))
  ∧ (∀ (arrival : Time) (b : Beacon) (x y : Lane), y = absorbBeacon arrival b x →
      (continues x.entry arrival b = true → x.entry.stepCount ≠ 0 →
          2700 < (sdiff (arrival - b.emission) x.entry.offset).natAbs →
        y.entry.offset = arrival - b.emission ∧ y.entry.stepCount = 0 ∧ y.flags.get (laneFlagIx .timeStep) = true
        ∧ y.tally.get (laneCtrIx .timeStep) = x.tally.get (laneCtrIx .timeStep) + 1)
      ∧ (continues x.entry arrival b = false →
        y.entry.offset = arrival - b.emission ∧ y.entry.stepCount = 0
        ∧ y.flags.get (laneFlagIx .timeStep) = x.flags.get (laneFlagIx .timeStep)
        ∧ y.tally.get (laneCtrIx .timeStep) = x.tally.get (laneCtrIx .timeStep)
        ∧ y.tally.get (laneCtrIx .offsetOutlier) = x.tally.get (laneCtrIx .offsetOutlier))
      ∧ (continues x.entry arrival b = true ↔
          x.entry.station = some b.station ∧ x.entry.epoch = some b.epoch
          ∧ (x.entry.state = .qualifying
            ∨ x.entry.state = .live ∧ (b.start = false ∨ x.entry.startMark = true ∧ inTime x.entry arrival = true)
            ∨ x.entry.state = .lapsed ∧ b.start = false)))

/-- The three deadlines of a lane: a QUALIFYING or LAPSED lane becomes SILENT and is cleared, a LIVE one lapses for 250
ms and keeps its identity and estimate (02/R21, R23, R24, R35). No other lane changes. That a lapse also keeps the last
arrival and the start mark, which the rule does not name, is the model's own choice (notes/assumptions/37, 39). -/
def Obligations.LaneDeadlines : Prop :=
  ∀ (dt : Nat) (l : LaneNo) (s : State) (d : Time), (lane s l).entry.deadline = some d →
    0 ≤ sdiff (s.now + BitVec.ofNat 48 dt) d →
    (∀ c, ((lane s l).entry.state = .qualifying ∧ c = .qualifyingDeadline dt l)
        ∨ ((lane s l).entry.state = .lapsed ∧ c = .lapsedDeadline dt l) →
      exec c s = .next (conclude { advance dt s with lanes := s.lanes.modify l fun x => { x with entry := .cleared } }))
    ∧ ((lane s l).entry.state = .live →
      ∃ t, exec (.liveDeadline dt l) s = .next t
        ∧ t.lanes = s.lanes.modify l (fun x => { x with
            entry := { x.entry with
              state := .lapsed, count := 0, entries := Bank.fill 3 .empty
              deadline := some (s.now + BitVec.ofNat 48 dt + 6750000) }
            tally := addCount x.tally (laneCtrIx .laneLapsed) 1, flags := x.flags.set (laneFlagIx .laneLapsed) true })
        ∧ (∀ n, (lane s l).entry.station = some n → ∀ p, (t.pub.demand.get p).get n = 0)
        ∧ ∀ n, (lane s l).entry.station ≠ some n → ∀ p, (t.pub.demand.get p).get n = (s.pub.demand.get p).get n)

/-! ## The transmit lane (01/1.6) -/

/-- The call queue replaces a call for the same target and feed in place, appends another, and when it holds eight drops
the oldest with its count; of the calls of one instant it takes channel 0's first, whichever commands offer them and in
whichever order, each channel's in the order of offering, and of the releases none of a demand that the other channel's
selection keeps up; a burst queue of 32 discards what is offered, counted. The beacon timer, due: the mark is set, or a
beacon skipped, and the timer set 27,000 ticks on. The millisecond tick of a RUNNING station, due: every demand entry is one
less, and 0 stays 0 (01/R11, R13, R15, 03/R40, 04/R61). That the calls of an instant are taken anew at the end of each of its
commands, and that a CALL begun in it is then the oldest of the queue so made, are the model's choices
(notes/assumptions/43). -/
def Obligations.QueuesAndTimers : Prop :=
  ((∀ (c : Call) (x : Transmit),
      ((∃ q ∈ x.callQueue, q.target = c.target ∧ q.feed = c.feed) →
        offerCall c x = { x with callQueue := x.callQueue.map fun q =>
          if q.target = c.target ∧ q.feed = c.feed then { q with duration := c.duration } else q })
      ∧ ((∀ q ∈ x.callQueue, q.target ≠ c.target ∨ q.feed ≠ c.feed) →
        (x.callQueue.length < 8 → offerCall c x = { x with callQueue := x.callQueue ++ [c] })
        ∧ (x.callQueue.length = 8 → offerCall c x = { x with
            callQueue := x.callQueue.tail ++ [c], tally := addCount x.tally (txCtrIx .callDropped) 1 })))
    ∧ (∀ (s : State) (i : CallInstant) (stands : Chan → List Call) (keeps : Chan → Call → Bool) (x : Transmit),
        ((∃ j, s.tx.instant = some j ∧ j.time = s.now ∧ i = { j with offered := i.offered }
            ∧ ∀ k, i.offered.get k = j.offered.get k ++ s.tx.offers.get k)
          ∨ (∀ j ∈ s.tx.instant, j.time ≠ s.now)
            ∧ i = ⟨s.now, s.tx.callQueue, s.tx.tally.get (txCtrIx .callDropped), s.tx.offers, false⟩) →
        (∀ k c, keeps k c = true ↔ ∃ q, selectionOf s (otherChan k) = some q ∧ q.origin ≠ .internal ∧ q.station = c.target
          ∧ (chanConfig s (otherChan k)).bind (·.feed) = some c.feed) →
        (∀ k, stands k = (i.offered.get k).filter fun c => c.duration ≠ 0 || !keeps k c) →
        x = (stands 0 ++ stands 1).foldl (fun y c => offerCall c y) { s.tx with
          callQueue := i.queue, tally := s.tx.tally.set (txCtrIx .callDropped) i.dropped, offers := Bank.fill 2 []
          instant := some i } →
        ((∀ k, i.offered.get k = []) → takeCalls s = { s with tx := { s.tx with instant := none } })
        ∧ ((∃ k, i.offered.get k ≠ []) →
          (i.begun = false ∨ s.config = none ∨ x.callQueue = [] → takeCalls s = { s with tx := x })
          ∧ ∀ g c rest, i.begun = true → s.config = some g → x.callQueue = c :: rest →
            takeCalls s = { s with tx := { x with
              callQueue := rest, sending := some (encodeRecord (.call ⟨g.station, c.target, c.feed, c.duration⟩)) } }))
    ∧ (∀ (s t u : State) (as bs : List Call), (∀ j ∈ s.tx.instant, j.time ≠ s.now) → s.tx.offers = Bank.fill 2 [] →
        t = takeCalls (onTx (holdCalls 0 as) (takeCalls (onTx (holdCalls 1 bs) s))) →
        u = takeCalls (onTx (holdCalls 1 bs) (takeCalls (onTx (holdCalls 0 as) s))) →
        t = u ∧ t.tx.callQueue
          = ((standingCalls s 0 as ++ standingCalls s 1 bs).foldl (fun y c => offerCall c y) s.tx).callQueue)
    ∧ ∀ (k : PubSlotNo) (r : LinkRecord) (x : Transmit),
      ((x.bursts.get k).length < 32 →
        offerBurst k r x = { x with bursts := x.bursts.set k (x.bursts.get k ++ [r]) })
      ∧ (32 ≤ (x.bursts.get k).length →
        offerBurst k r x = { x with
          slotTally := x.slotTally.modify k (addCount · (slotCtrIx .burstOverflow) 1) }))
  ∧ (∀ (dt : Nat) (s : State),
      (∀ d, s.tx.beaconDue = some d → 0 ≤ sdiff (s.now + BitVec.ofNat 48 dt) d →
        exec (.beaconTimerExpiry dt) s = .next (conclude { advance dt s with tx := { s.tx with
          beaconDue := some (d + 27000), beaconPending := true
          tally := if s.tx.beaconPending then addCount s.tx.tally (txCtrIx .beaconSkipped) 1 else s.tx.tally } }))
      ∧ ∀ d, s.station = .running → s.pub.tick = some d → 0 ≤ sdiff (s.now + BitVec.ofNat 48 dt) d →
        ∃ t u, exec (.millisecondTick dt) s = .next t ∧ t = conclude u ∧ u = { advance dt s with pub := u.pub }
          ∧ u.pub = { s.pub with tick := some (d + 27000), demand := u.pub.demand } ∧ t.pub.demand = u.pub.demand
          ∧ t.pub.tick = some (d + 27000)
          ∧ ∀ p n, ((t.pub.demand.get p).get n).toNat = ((s.pub.demand.get p).get n).toNat - 1)

/-- At a record boundary of a RUNNING station the transmitter takes the beacon, else the oldest call, else the oldest
record of a slot, the two slots in turn; with nothing ready it is idle (01/R9, R12, R14). `u` is the part once its
publications have settled and the calls offered are queued. At the end of the record that a RESTART waits for, the
transmitter clears (01/R10; notes/assumptions/9). The marks of a CALL begun and sent within one instant are the model's
(notes/assumptions/43). -/
def Obligations.RecordBoundary : Prop :=
  (∀ (dt : Nat) (s : State), s.tx.restartOwed = true →
    exec (.recordSent dt) s = .next (conclude { advance dt s with tx := { s.tx with
      sending := none, beaconDue := none, beaconPending := false, callQueue := [], instant := none
      bursts := Bank.fill 2 [], mark := 1, restartOwed := false } }))
  ∧ ∀ (dt : Nat) (s v u : State) (g : StationConfig), s.station = .running → s.config = some g →
    s.tx.restartOwed = false →
    v = settle { advance dt s with tx := { s.tx with sending := none, instant := s.tx.instant.filter (!·.begun) } } →
    u = takeCalls v →
    (u.tx.beaconPending = true →
      exec (.recordSent dt) s = .next { u with tx := { u.tx with
        beaconPending := false, startCount := u.tx.startCount - 1, tally := addCount u.tx.tally (txCtrIx .beacons) 1
        sending := some (encodeRecord (.beacon {
          station := g.station, start := 0 < u.tx.startCount, epoch := s.epoch, emission := s.now + BitVec.ofNat 48 dt
          entries := ⟨[beaconEntry u 0, beaconEntry u 1, beaconEntry u 2], rfl⟩ })) } })
    ∧ (∀ c rest, u.tx.beaconPending = false → u.tx.callQueue = c :: rest →
      exec (.recordSent dt) s = .next { u with tx := { u.tx with
        callQueue := rest, tally := addCount u.tx.tally (txCtrIx .calls) 1
        instant := u.tx.instant.map fun i => { i with begun := true }
        sending := some (encodeRecord (.call ⟨g.station, c.target, c.feed, c.duration⟩)) } })
    ∧ (∀ i r rest, u.tx.beaconPending = false → u.tx.callQueue = [] → u.tx.bursts.get i = r :: rest →
        (u.tx.mark ≠ i ∨ u.tx.bursts.get (1 - i) = []) →
      exec (.recordSent dt) s = .next { u with tx := { u.tx with
        bursts := u.tx.bursts.set i rest, mark := i, sending := some (encodeRecord r)
        slotTally := u.tx.slotTally.modify i (addCount · (slotCtrIx .records) 1) } })
    ∧ (u.tx.beaconPending = false → u.tx.callQueue = [] → u.tx.bursts.get 0 = [] → u.tx.bursts.get 1 = [] →
      exec (.recordSent dt) s = .next u)

/-! ## Publications (03) -/

/-- An accepted CALL: not for this station, it is discarded without a count; otherwise ignored, without a carrier, or
taken into the column of its caller in every row that carries its feed (03/R41, R42). -/
def Obligations.CallReceived : Prop :=
  ∀ (dt flight : Nat) (l : LaneNo) (words : List Word) (s : State) (r : CallRecord),
    checkRecord words = .ok (.call r) →
    ∃ t, exec (.recordReceived dt l flight words) s = .next t
      ∧ t.lanes = s.lanes.modify l (fun x => { x with tally := addCount x.tally (laneCtrIx .rxRecords) 1 })
      ∧ (ownNumber s ≠ some r.target → t.pub.demand = s.pub.demand ∧ t.pub.tally = s.pub.tally)
      ∧ (ownNumber s = some r.target →
          (s.station ≠ .running ∨ (lane s l).entry.state ≠ .live ∨ (lane s l).entry.station ≠ some r.caller →
            t.pub.demand = s.pub.demand ∧ t.pub.tally = addCount s.pub.tally (pubCtrIx .callIgnored) 1)
          ∧ (s.station = .running → (lane s l).entry.state = .live → (lane s l).entry.station = some r.caller →
            ((∀ p, carries s p = true → s.config.bind (pubFeedOf · p) ≠ some r.feed) →
              t.pub.demand = s.pub.demand ∧ t.pub.tally = addCount s.pub.tally (pubCtrIx .callNoFeed) 1)
            ∧ ((∃ p, carries s p = true ∧ s.config.bind (pubFeedOf · p) = some r.feed) →
              t.pub.tally = addCount s.pub.tally (pubCtrIx .callsTaken) 1
              ∧ ∀ p n, (t.pub.demand.get p).get n
                  = if n = r.caller ∧ carries s p = true ∧ s.config.bind (pubFeedOf · p) = some r.feed then r.duration
                    else (s.pub.demand.get p).get n)))

/-- The status of a publishable by the first line of its table that holds, PUBLISH_DEFERRED where it enters DEFERRED, and
the Copy Selectors told of a change; a source that starts producing becomes AVAILABLE or DEFERRED before a slot is
granted, flagged even where it is then granted one; a FREE slot goes to the claimant of highest priority, the lower
slot first; where both slots are held and neither is ENDING, the lower-priority holder yields to a claimant above it:
at once between pictures, and otherwise after its picture. A PICTURE record of a demanded row makes a GRANTED slot CARRYING
and is offered to its burst queue, as the records of a CARRYING or ENDING slot are, the last closing the picture, counted;
a slot whose row is no longer demanded is released, at once or, a picture open, as ENDING with reason RELEASE. An ENDING
slot frees at its last record, its holder DEFERRED where it is still demanded; a source that stops frees its slot and
empties its queue. A record formed is handed to the slot that holds its publishable and to the channels whose window has
that internal copy, the station's own ingest to both and an output to the other (03/R36 to R38, R44 to R50, 04/R53,
11/R188). That a slot so stopped counts the RELEASED it owed is the model's choice, as are the generation 0 before a first
image, the mark of a change unheard, and an ENDING slot that meets a PICTURE record (notes/assumptions/27, 35, 14, 41). -/
def Obligations.StatusAndSlots : Prop :=
  ∀ s : State,
    (∀ p, (s.pub.adverts.get p).status = .absent → carries s p = true → producing s p = true →
        (∀ i, (s.pub.slots.get i).holder ≠ some p) →
        ((noteStarts s).pub.adverts.get p).status = (if ∃ n, (s.pub.demand.get p).get n ≠ 0 then .deferred else .available)
        ∧ ((∃ n, (s.pub.demand.get p).get n ≠ 0) →
            (noteStarts s).pub.deferredFlags.get p = true ∧ (settle s).pub.deferredFlags.get p = true))
    ∧ ((∀ p, (s.pub.adverts.get p).status ≠ .absent) → noteStarts s = s)
    ∧ (∀ p, statusNow s p =
      if carries s p = false then .none
      else if producing s p = false then .absent
      else if ∃ i, (s.pub.slots.get i).state ≠ .free ∧ (s.pub.slots.get i).holder = some p then .sending
      else if ∃ n, (s.pub.demand.get p).get n ≠ 0 then .deferred
      else .available)
    ∧ (∀ p i, claims s p = true → (∀ q, q < p → claims s q = false) → (s.pub.slots.get i).state = .free →
        (i = 0 ∨ (s.pub.slots.get 0).state ≠ .free) →
        grantOne s = { s with pub := { s.pub with
          slots := s.pub.slots.set i
            { state := .granted, holder := some p, openPicture := false, reason := none, releaseOwed := false }
          itemTally := s.pub.itemTally.modify p (addCount · (pubItemCtrIx .granted) 1) } })
    ∧ (∀ p q i, claims s p = true → (∀ r, r < p → claims s r = false) → p < q → (s.pub.slots.get i).holder = some q →
        (∃ r, (s.pub.slots.get (1 - i)).holder = some r ∧ r < q) →
        (∀ j, (s.pub.slots.get j).state = .granted ∨ (s.pub.slots.get j).state = .carrying) →
        ((s.pub.slots.get i).openPicture = true → yieldOne s = { s with pub := { s.pub with
          slots := s.pub.slots.set i { s.pub.slots.get i with state := .ending, reason := some .yield }
          itemTally := s.pub.itemTally.modify q (addCount · (pubItemCtrIx .preempted) 1) } })
        ∧ ((s.pub.slots.get i).openPicture = false → yieldOne s = noteAdvert { s with pub := { s.pub with
          slots := s.pub.slots.set i .freed
          itemTally := s.pub.itemTally.modify q (addCount · (pubItemCtrIx .preempted) 1) } } q))
    ∧ (∀ p, noteAdvert s p = { s with pub := { s.pub with
        adverts := s.pub.adverts.set p ⟨statusNow s p, if s.config = none then 0 else pubGeneration s p, pubStandard s p⟩
        deferredFlags := if statusNow s p = .deferred ∧ (s.pub.adverts.get p).status ≠ .deferred
          then s.pub.deferredFlags.set p true else s.pub.deferredFlags
        unheard := s.pub.unheard || (advertNow s p ≠ s.pub.adverts.get p : Bool) } })
    ∧ (∀ i p (r : LinesRecord), (s.pub.slots.get i).state = .ending → (s.pub.slots.get i).holder = some p →
        (s.pub.slots.get (1 - i)).holder ≠ some p → r.last = true →
        ∃ t, linesOnSlot i p r s = t ∧ t.tx = offerBurst i (.lines r) s.tx ∧ t.pub.slots = s.pub.slots.set i .freed
          ∧ (t.pub.itemTally.get p).get (pubItemCtrIx .picturesSent)
              = (s.pub.itemTally.get p).get (pubItemCtrIx .picturesSent) + 1
          ∧ (t.pub.itemTally.get p).get (pubItemCtrIx .released) = (s.pub.itemTally.get p).get (pubItemCtrIx .released)
              + (if (s.pub.slots.get i).releaseOwed then 1 else 0)
          ∧ (t.pub.adverts.get p).status = (if carries s p = false then .none else if producing s p = false then .absent
              else if demanded s p = true then .deferred else .available)
          ∧ ((t.pub.adverts.get p).status = .deferred → (s.pub.adverts.get p).status = .sending →
              t.pub.deferredFlags.get p = true))
    ∧ (∀ (i : PubSlotNo) (p : PubIx) (x : PubSlot) (slot : PubSlot → State) (freed : State → Prop),
        x = s.pub.slots.get i → x.state ≠ .free → x.holder = some p →
        (∀ y, slot y = { s with pub := { s.pub with slots := s.pub.slots.set i y } }) →
        (∀ t, freed t ↔ t = { s with pub := t.pub } ∧ t.pub.slots = s.pub.slots.set i .freed ∧ t.pub.demand = s.pub.demand
          ∧ (t.pub.itemTally.get p).get (pubItemCtrIx .released)
              = (s.pub.itemTally.get p).get (pubItemCtrIx .released) + 1
          ∧ ((s.pub.slots.get (1 - i)).holder ≠ some p → carries s p = true → producing s p = true →
              demanded s p = false → (t.pub.adverts.get p).status = .available)) →
        (∀ r : PictureRecord, (demanded s p = false → freed (pictureOnSlot i p r s))
          ∧ (demanded s p = true →
            (x.state = .granted ∨ x.state = .carrying → pictureOnSlot i p r s
                = { slot { x with state := .carrying, openPicture := true } with tx := offerBurst i (.picture r) s.tx })
            ∧ (x.state = .ending → pictureOnSlot i p r s = { s with tx := offerBurst i (.picture r) s.tx })))
        ∧ (∀ r : LinesRecord, (x.state = .granted → linesOnSlot i p r s = s)
          ∧ (x.state = .carrying ∨ x.state = .ending → r.last = false →
              linesOnSlot i p r s = { s with tx := offerBurst i (.lines r) s.tx })
          ∧ (x.state = .carrying → r.last = true → linesOnSlot i p r s = { s with
              tx := offerBurst i (.lines r) s.tx
              pub := { s.pub with
                slots := s.pub.slots.set i { x with openPicture := false }
                itemTally := s.pub.itemTally.modify p (addCount · (pubItemCtrIx .picturesSent) 1) } }))
        ∧ (producing s p = true → (demanded s p = true → reviewSlot s i = s)
          ∧ (demanded s p = false →
            (x.state = .granted ∨ x.state = .carrying ∧ x.openPicture = false → freed (reviewSlot s i))
            ∧ (x.state = .carrying → x.openPicture = true →
                reviewSlot s i = slot { x with state := .ending, reason := some .release, releaseOwed := true })
            ∧ (x.state = .ending → reviewSlot s i = slot { x with releaseOwed := true }))))
    ∧ (∀ (p : PubIx) (r : PictureRecord) (y t : State) (holds : PubSlotNo → Prop),
        (∀ i, holds i ↔ (s.pub.slots.get i).state ≠ .free ∧ (s.pub.slots.get i).holder = some p) →
        y = { s with pub := { s.pub with lastSequence := s.pub.lastSequence.set p r.sequence } } →
        ((∀ i, ¬ holds i) ∧ t = y ∨ ∃ i, holds i ∧ (∀ j, j < i → ¬ holds j) ∧ t = pictureOnSlot i p r y) →
        publishPicture p r s = (if p = 0 then pictureToChannel .internal r 1 (pictureToChannel .internal r 0 t)
          else pictureToChannel .internal r (if p = 1 then 1 else 0) t))
    ∧ (∀ (p : PubIx) (r : LinesRecord) (t : State) (holds : PubSlotNo → Prop),
        (∀ i, holds i ↔ (s.pub.slots.get i).state ≠ .free ∧ (s.pub.slots.get i).holder = some p) →
        ((∀ i, ¬ holds i) ∧ t = s ∨ ∃ i, holds i ∧ (∀ j, j < i → ¬ holds j) ∧ t = linesOnSlot i p r s) →
        publishLines p r s = (if p = 0 then linesToChannel .internal r 1 (linesToChannel .internal r 0 t)
          else linesToChannel .internal r (if p = 1 then 1 else 0) t))
    ∧ (∀ (k : Chan) (r : PictureRecord) (x : LinesRecord),
        ((∀ q g, (chan s k).int.aim = some q → chanConfig s k = some g →
          q.origin ≠ .internal ∨ q.pub ≠ r.pub ∨ g.feed ≠ some r.feed) → pictureToChannel .internal r k s = s)
        ∧ ((∀ q g, (chan s k).int.aim = some q → chanConfig s k = some g →
          q.origin ≠ .internal ∨ q.pub ≠ x.pub ∨ g.feed ≠ some x.feed) → linesToChannel .internal x k s = s))
    ∧ ∀ i p, (s.pub.slots.get i).state ≠ .free → (s.pub.slots.get i).holder = some p → producing s p = false →
        ∃ t, reviewSlot s i = t ∧ t.pub.slots = s.pub.slots.set i .freed ∧ t.pub.demand = s.pub.demand
          ∧ t.tx = { s.tx with
              bursts := s.tx.bursts.set i []
              slotTally := s.tx.slotTally.modify i
                (addCount · (slotCtrIx .slotFlushed) (s.tx.bursts.get i).length) }
          ∧ (t.pub.itemTally.get p).get (pubItemCtrIx .sourceStopped)
              = (s.pub.itemTally.get p).get (pubItemCtrIx .sourceStopped) + 1
          ∧ (t.pub.itemTally.get p).get (pubItemCtrIx .released) = (s.pub.itemTally.get p).get (pubItemCtrIx .released)
              + (if (s.pub.slots.get i).releaseOwed then 1 else 0)

/-! ## Copy selection (04) -/

/-- The copies a channel may select: the station's own ingest and the other channel's output, as advertised, and the three
publishables of each lane. Their order: rank, then internal before lane, then station, lane and publishable; no two
candidates agree in every key; the best copy is the first in the order; and only a lower rank makes a copy strictly better
(04/R54, R56, R58). -/
def Obligations.CopyOrder : Prop :=
  (∀ (s : State) (k : Chan),
    (candidates s k).map (fun d => (d.origin, d.pub.val))
        = (.internal, 0) :: (.internal, 2 - k.val)
          :: (List.finRange 7).flatMap (fun l => [(.lane l, 0), (.lane l, 1), (.lane l, 2)])
    ∧ ∀ d ∈ candidates s k,
        (d.origin = .internal → d.station = ownNumber s ∧ d.status = (s.pub.adverts.get d.pub).status
          ∧ d.generation = (s.pub.adverts.get d.pub).generation ∧ d.standard = (s.pub.adverts.get d.pub).standard
          ∧ (s.config = none → d.feed = none ∧ d.rank = none)
          ∧ ∀ g, s.config = some g → ∀ j : Chan,
              (d.pub = 0 → d.feed = g.ingestFeed ∧ d.rank = some g.ingestRank)
              ∧ (d.pub = outputOf j → d.feed = (g.chans.get j).outFeed ∧ d.rank = some (g.chans.get j).outRank))
        ∧ ∀ (l : LaneNo) (x : PubEntry), d.origin = .lane l → x = (lane s l).entry.entries.get d.pub →
            d.station = (lane s l).entry.station ∧ d.feed = x.feed ∧ d.rank = some x.rank ∧ d.status = x.status
            ∧ d.generation = x.generation ∧ d.standard = x.standard)
  ∧ (∀ d e : Candidate,
    (∀ m n, d.rank = some m → e.rank = some n → m < n → betterCandidate d e = true)
    ∧ (d.rank = e.rank → d.origin = .internal → e.origin ≠ .internal → betterCandidate d e = true)
    ∧ (∀ m n, d.rank = e.rank → (d.origin = .internal ↔ e.origin = .internal) → d.station = some m → e.station = some n →
        (m < n → betterCandidate d e = true)
        ∧ (m = n → ∀ i j, d.origin = .lane i → e.origin = .lane j →
            (i < j → betterCandidate d e = true) ∧ (i = j → d.pub < e.pub → betterCandidate d e = true))
        ∧ (m = n → d.origin = .internal → d.pub < e.pub → betterCandidate d e = true))
    ∧ (betterCandidate d e = true → betterCandidate e d = false))
  ∧ (∀ (s : State) (k : Chan), (candidates s k).Pairwise fun d e =>
      betterCandidate d e = true ∨ betterCandidate e d = true)
  ∧ (∀ (s : State) (k : Chan) (d : Candidate), bestOf (eligibles s k) = some d →
      d ∈ eligibles s k ∧ ∀ e ∈ eligibles s k, e ≠ d → betterCandidate d e = true)
  ∧ ∀ (s : State) (k : Chan) (q t : Copy), revertTarget s k q = some t →
      ∃ c d m n, offering s k q = some c ∧ offering s k t = some d ∧ d.rank = some m ∧ c.rank = some n ∧ m < n

/-- A re-judgement that keeps the selection changes only the revert candidate; one that names another copy, or NONE,
makes the switch: the calls of the old selection and the new, the window, the rebase mark and the counts; at a source
standard of 0 the copy's standard is adopted, with its crop cut to the frame, its steps and its delay. A channel that does
not select re-judges nothing. A release is decided against the other channel's selection, as it stands once both have
re-judged (04/R53, R57, R60, R61, R64, R65, 05/R71, 09/R146). That channel 0 goes first of the two, both on the adverts
stored before, is the model's choice (notes/assumptions/15), and that the release is decided where the queue takes the
calls of the instant too (notes/assumptions/43). -/
def Obligations.Rejudgement : Prop :=
  (∀ (s : State) (k : Chan) (g : ChanConfig), chanConfig s k = some g →
    (isSelecting s k = false → rejudgeOne k s = s)
    ∧ (isSelecting s k = true → choice s k = selectionOf s k → ∃ r, rejudgeOne k s = { s with
        chans := s.chans.modify k fun c => { c with csl := { c.csl with revert := r } } })
    ∧ (isSelecting s k = true → choice s k ≠ selectionOf s k →
        ((chan s k).int.standard = 0 ∨ ∀ q ∈ choice s k, ∀ d ∈ offering s k q, d.standard = (chan s k).int.standard) →
      ∃ u e, rejudgeOne k s = u ∧ e = chan u k ∧ u = { s with chans := u.chans, tx := u.tx }
        ∧ chan u (otherChan k) = chan s (otherChan k)
        ∧ u.tx = { s.tx with offers := s.tx.offers.modify k (· ++ (releaseCall s k ++ requestCall s k (choice s k))) }
        ∧ selectionOf u k = choice s k ∧ e.int.aim = choice s k ∧ e.csl.revert = none
        ∧ e.csl.deferred = 0 ∧ e.csl.rebasePending = (choice s k).isSome
        ∧ e.csl.callTarget = callStation (choice s k)
        ∧ e.csl.refresh = (callStation (choice s k)).map (fun _ => shift s.now (g.refreshMs * 27000 : Nat))
        ∧ ((chan s k).int.crop.isSome → e.int.openSlot = none) ∧ e.cad.mode = none
        ∧ e.int.switchCount = (chan s k).int.switchCount + 1
        ∧ e.tally.get (chanCtrIx .copySwitch) = (chan s k).tally.get (chanCtrIx .copySwitch) + 1
        ∧ e.flags.get (chanFlagIx .copySwitch) = true
        ∧ (choice s k = none → e.flags.get (chanFlagIx .noCopy) = true)
        ∧ e.sup = (chan s k).sup
        ∧ ((chan s k).int.standard = 0 → ∀ (q : Copy) (d : Candidate) (st : Standard) (crop : Rect),
            choice s k = some q → offering s k q = some d → st = standardOf d.standard →
            crop = cutTo g.crop st.lines st.samples →
          e.int.standard = d.standard ∧ e.int.crop = some crop ∧ e.int.pEst = st.rawPeriod
          ∧ e.flags.get (chanFlagIx .windowClamped)
              = ((chan s k).flags.get (chanFlagIx .windowClamped) || !decide (meetsFrame g.crop st.lines st.samples))
          ∧ (∀ pl, (chan s k).siz.placement = some pl →
              e.siz.vStep = some (crop.lineCount * 65536 / pl.lineCount)
              ∧ e.siz.hStep = some (crop.sampleCount * 65536 / pl.sampleCount))
          ∧ e.ren.dEff = some (max g.delay
              ((standardOf g.target).rawPeriod + 2 * pMax d.standard (huntedSet e.cad))))))
  ∧ (∀ s u : State, u = rejudgeBoth s →
      u = rejudgeOne 1 (rejudgeOne 0 s) ∧ chan u 0 = chan (rejudgeOne 0 s) 0 ∧ chan u 1 = chan (rejudgeOne 1 s) 1)
  ∧ (∀ (s : State) (k : Chan) (q : Copy) (target : StationNo) (f : FeedNo),
      selectionOf s k = some q → (chan s k).csl.callTarget = some target → (chanConfig s k).bind (·.feed) = some f →
      releaseCall s k = (if q.origin = .internal then [] else [⟨target, f, 0⟩]))
  ∧ ∀ (s : State) (k : Chan) (calls : List Call) (c : Call), c ∈ standingCalls s k calls ↔ c ∈ calls
      ∧ ¬ (c.duration = 0 ∧ ∃ q, selectionOf s (otherChan k) = some q ∧ q.origin ≠ .internal ∧ q.station = c.target
        ∧ (chanConfig s (otherChan k)).bind (·.feed) = some c.feed)

/-- The timers of a Copy Selector, each due: the refresh offers the same call again and moves on by its interval (of the
calls of one instant the queue takes channel 0's first: QueuesAndTimers); expired pass-over entries are removed and
the channel re-judges; a candidate held for the whole revert hold and still the revert target is selected and counted.
A copy whose beacons read DEFERRED is counted, and at the fifth, still eligible, it is passed over for 2 s, counted
and flagged, and is no longer the selection (04/R58, R60, R62, R63). -/
def Obligations.SelectorTimers : Prop :=
  ∀ (dt : Nat) (s : State) (k : Chan) (g : ChanConfig) (now : Time), chanConfig s k = some g →
    now = s.now + BitVec.ofNat 48 dt →
    (∀ (d : Time) (q : Copy) (l : LaneNo) (f : FeedNo), (chan s k).csl.refresh = some d → selectionOf s k = some q →
        q.origin = .lane l → g.feed = some f → 0 ≤ sdiff now d →
      exec (.refreshTimerExpiry dt k) s = .next (conclude { advance dt s with
        tx := { s.tx with offers := s.tx.offers.modify k (· ++ [⟨q.station, f, g.callDuration⟩]) }
        chans := s.chans.modify k fun c => { c with csl := { c.csl with
          refresh := some (shift d (g.refreshMs * 27000 : Nat)) } } }))
    ∧ (∀ (flight : Nat) (l : LaneNo) (words : List Word) (b : Beacon) (q : Copy) (v : State),
        checkRecord words = .ok (.beacon b) → ownNumber s ≠ some b.station → selectionOf s k = some q →
        q.origin = .lane l → isSelecting s k = true →
        v = { advance dt s with
          lanes := s.lanes.modify l fun x =>
            absorbBeacon (now - BitVec.ofNat 48 flight) b (countLane x .rxRecords) } →
        (∀ x, deferReport l k v = x →
          ((b.entries.get q.pub).status ≠ .deferred → (chan x k).csl.deferred = 0)
          ∧ ((b.entries.get q.pub).status = .deferred → (chan s k).csl.deferred < 5 →
              (chan x k).csl.deferred = (chan s k).csl.deferred + 1))
        ∧ ((b.entries.get q.pub).status = .deferred → (chan s k).csl.deferred = 4 → isEligible v k q = true →
          ∃ t, exec (.recordReceived dt l flight words) s = .next t
            ∧ (chan t k).csl.passOver = addPassOver now q l (chan s k).csl.passOver
            ∧ (⟨q.station, l, q.pub, shift now 54000000⟩ : PassOver) ∈ (chan t k).csl.passOver
            ∧ (chan t k).tally.get (chanCtrIx .copyPassedOver) = (chan s k).tally.get (chanCtrIx .copyPassedOver) + 1
            ∧ (chan t k).flags.get (chanFlagIx .copyPassedOver) = true
            ∧ isEligible t k q = false ∧ selectionOf t k ≠ some q))
    ∧ ((∃ e ∈ (chan s k).csl.passOver, 0 ≤ sdiff now e.expiry) →
      exec (.passOverExpiry dt k) s = .next (conclude (rejudgeOne k { advance dt s with
        chans := s.chans.modify k fun c => { c with csl := { c.csl with
          passOver := c.csl.passOver.filter fun e => sdiff now e.expiry < 0 } } })))
    ∧ ∀ (q sel : Copy) (d : Time) (o : Candidate), (chan s k).csl.revert = some (q, d) → g.revertSeconds ≠ 0 →
        isSelecting s k = true → 0 ≤ sdiff now (shift d (g.revertSeconds * 27000000 : Nat)) →
        selectionOf s k = some sel → choice s k = some sel → (chan s k).csl.forced ≠ some sel →
        revertTarget s k sel = some q → offering s k q = some o →
        ((chan s k).int.standard = 0 ∨ o.standard = (chan s k).int.standard) →
      ∃ u, exec (.revertHoldExpiry dt k) s = .next (conclude u) ∧ u = { advance dt s with chans := u.chans, tx := u.tx }
        ∧ selectionOf u k = some q ∧ (chan u k).csl.revert = none ∧ chan u (otherChan k) = chan s (otherChan k)
        ∧ (chan u k).tally.get (chanCtrIx .copyReverted) = (chan s k).tally.get (chanCtrIx .copyReverted) + 1
        ∧ (chan u k).tally.get (chanCtrIx .copySwitch) = (chan s k).tally.get (chanCtrIx .copySwitch) + 1

/-! ## Intake (05) -/

/-- A picture of the window: one still open is closed first, and the new one gets the stamp the Copy Selector gives it. Of
the source standard and later than the newest, it joins a field of the other parity that waits in PAIRING where the
detector's next position has it; otherwise a waiting field's pairing is abandoned, counted, and the field committed as
VIDEO and finished alone, and the picture opens an own slot: the lowest FREE one, else the oldest recyclable one, flagged
and counted, else none, and the picture is dropped and counted. A picture not later than the newest, or whose kind does
not fit its standard, is refused and counted (04/R68, 05/R72 to R74, R76, R80, R81, 06/R102). So on a lane, its stamp
mapped by the lane's estimate, and on the internal path, its stamp as it is and its generation taken (03/R50, 04/R64). Where
the windows of both channels stand on the lane, each channel takes the record so: `y` is what the other one leaves. That
of two slots of one age the lower is recycled is the model's choice (notes/assumptions/65). -/
def Obligations.PictureReceived : Prop :=
  (∀ (dt flight : Nat) (l : LaneNo) (words : List Word) (s v y : State) (k : Chan) (g : ChanConfig) (q : Copy)
    (r : PictureRecord) (b c d : Channel) (mapped stamp : Time) (raw : RawPicture) (out : Channel → Prop),
    chanConfig s k = some g → g.feed = some r.feed → (chan s k).int.aim = some q → q.pub = r.pub →
    (q.origin = .lane l ∧ q.station = r.origin ∧ checkRecord words = .ok (.picture r)
        ∧ v = { advance dt s with
            lanes := s.lanes.modify l fun x => { x with tally := addCount x.tally (laneCtrIx .rxRecords) 1 } }
        ∧ ((∀ x, (chan s (otherChan k)).int.aim = some x → x.origin ≠ .lane l) ∧ y = v
          ∨ y = pictureToChannel (.lane l) r (otherChan k) v)
        ∧ b = chan s k ∧ mapped = r.stamp + (lane s l).entry.offset
        ∧ (∀ x, out x ↔ exec (.recordReceived dt l flight words) s = .next (conclude { y with chans := y.chans.set k x }))
      ∨ q.origin = .lane l ∧ q.station = r.origin ∧ v = s ∧ mapped = r.stamp + (lane s l).entry.offset ∧ b = chan s k
        ∧ (∀ x, out x ↔ pictureToChannel (.lane l) r k s = { s with chans := s.chans.set k x })
      ∨ q.origin = .internal ∧ v = s ∧ mapped = r.stamp
        ∧ b = { chan s k with csl := { (chan s k).csl with
            sourceGeneration := if kindFits r.standard r.kind then r.generation else (chan s k).csl.sourceGeneration } }
        ∧ (∀ x, out x ↔ pictureToChannel .internal r k s = { s with chans := s.chans.set k x })) →
    c = closeOpen ⟨v.now, g⟩ { b with tally := addCount b.tally (chanCtrIx .picturesAdmitted) 1 } →
    (stamp, d) = giveStamp mapped c → raw = ⟨r.kind, r.sequence, stamp, c.int.switchCount, none⟩ →
    (kindFits r.standard r.kind = false → out { b with
        int := { b.int with refused := some r.sequence }, tally := addCount b.tally (chanCtrIx .kindMismatch) 1 })
    ∧ (kindFits r.standard r.kind = true → r.standard = b.int.standard →
      (b.int.openSlot = none → c = { b with tally := addCount b.tally (chanCtrIx .picturesAdmitted) 1 })
      ∧ ((∃ n, c.int.newest = some n ∧ sdiff stamp n ≤ 0) → out { d with
          int := { d.int with refused := some r.sequence }, tally := addCount d.tally (chanCtrIx .stampOrder) 1 })
      ∧ ((∀ n, c.int.newest = some n → 0 < sdiff stamp n) →
        ((∀ j, (slotOf c j).state ≠ .pairing) → out (openOwn raw d))
        ∧ ∀ (i : SlotNo) (w : RawPicture) (partner opposite : Prop), (slotOf c i).state = .pairing →
          (∀ j, j < i → (slotOf c j).state ≠ .pairing) → (slotOf c i).raws.head? = some w →
          (partner ↔ ∃ f p, c.cad.mode = some f ∧ (recordOf c.cad f).next = some p
            ∧ (f = .film32 ∧ (p = 1 ∨ p = 4) ∨ f = .film22 ∧ p = 1)) →
          (opposite ↔ (w.kind = .fieldTop ∧ r.kind = .fieldBottom) ∨ (w.kind = .fieldBottom ∧ r.kind = .fieldTop)) →
          (partner → opposite → ∃ x : Slot,
            out { d with int := { d.int with
                openSlot := some i, newest := some stamp, refused := none, slots := d.int.slots.set i x } }
            ∧ x = { slotOf c i with state := .filling, raws := (slotOf c i).raws ++ [raw], received := x.received }
            ∧ ∀ line pos : Nat, pos < 2048 → (pairKey line pos ∈ x.received ↔
                pairKey line pos ∈ (slotOf c i).received ∧ line % 2 ≠ (if r.kind = .fieldTop then 0 else 1)))
          ∧ (¬ (partner ∧ opposite) → ∃ a : Channel,
            out (openOwn raw a) ∧ a.tally.get (chanCtrIx .pairAbandoned) = d.tally.get (chanCtrIx .pairAbandoned) + 1
            ∧ a.csl = d.csl ∧ a.cad = d.cad ∧ a.sup = d.sup ∧ a.port = d.port ∧ a.flags = d.flags
            ∧ ((∀ t, c.int.lastCommitted = some t → 0 < sdiff w.stamp t) →
                slotOf a i = { slotOf c i with
                  state := .finishing, committed := some w.stamp, finish := some (.deinterlace none none) }
                ∧ i ∈ a.int.committed ∧ a.int.lastCommitted = some w.stamp
                ∧ a.tally.get (chanCtrIx .committed) = d.tally.get (chanCtrIx .committed) + 1)
            ∧ ((∃ t, c.int.lastCommitted = some t ∧ sdiff w.stamp t ≤ 0) →
                ((slotOf a i).state = .history ∨ slotOf a i = .empty) ∧ a.int.lastCommitted = c.int.lastCommitted
                ∧ a.tally.get (chanCtrIx .stampOrder) = d.tally.get (chanCtrIx .stampOrder) + 1)))))
  ∧ ∀ (raw : RawPicture) (c d : Channel), d = openOwn raw c →
    (∀ i, (slotOf c i).state = .free → (∀ j, j < i → (slotOf c j).state ≠ .free) →
      d = { c with int := { c.int with
        openSlot := some i, newest := some raw.stamp, refused := none
        slots := c.int.slots.set i { Slot.empty with state := .filling, raws := [raw] } } })
    ∧ ((∀ j, (slotOf c j).state ≠ .free) →
      ((∀ j, recyclable c j = false) → d = { c with
        int := { c.int with refused := some raw.sequence }, tally := addCount c.tally (chanCtrIx .ringFull) 1 })
      ∧ ∀ i, recyclable c i = true →
          (∀ j, recyclable c j = true →
            (i < j → 0 ≤ sdiff (ageStamp (slotOf c j)) (ageStamp (slotOf c i)))
            ∧ (j < i → 0 < sdiff (ageStamp (slotOf c j)) (ageStamp (slotOf c i)))) →
        d.int = { c.int with
            openSlot := some i, newest := some raw.stamp, refused := none
            committed := c.int.committed.filter (· ≠ i)
            retireRef := if c.int.retireRef = some i then none else c.int.retireRef
            slots := c.int.slots.set i { Slot.empty with state := .filling, raws := [raw] } }
        ∧ d.meu.pending = c.meu.pending.filter (fun x => !(x.b = i || x.a = i)) ∧ d.meu.job = c.meu.job
        ∧ d.csl = c.csl ∧ d.cad = c.cad ∧ d.ren = c.ren ∧ d.sup = c.sup ∧ d.port = c.port
        ∧ d.flags = c.flags.set (chanFlagIx .ringOverrun) true
        ∧ d.tally.get (chanCtrIx .ringOverrun) = c.tally.get (chanCtrIx .ringOverrun) + 1
        ∧ d.tally.get (chanCtrIx .picturesAdmitted) = c.tally.get (chanCtrIx .picturesAdmitted))

/-- A source that brings another standard, by a switch to a copy that advertises it or by a picture of the selected copy:
the ring is flushed and adopts it, flagged and counted, with the configured crop cut to its frame, or the whole frame for
one wholly outside it, flagged, and the steps of that crop; and the supervisor counts a relock and enters ACQUIRING, or
LATCHED at the limit; a picture that brings it, on a lane or on the internal path, is opened in the emptied ring, its stamp
the mapped one (04/R64, R65, R68, 05/R71, R72, R89, 09/R146, 10/R172). How deep re-judgements follow one another is the
model's choice (notes/assumptions/15). -/
def Obligations.SourceStandardChange : Prop :=
  (∀ (s : State) (k : Chan) (g : ChanConfig) (q : Copy) (o : Candidate) (n : Nat) (c e : Channel) (u : State), c = chan s k →
      chanConfig s k = some g → isSelecting s k = true → choice s k = some q → selectionOf s k ≠ some q →
      offering s k q = some o → c.int.standard ≠ 0 → o.standard ≠ c.int.standard → n = min (c.sup.relock + 1) 15 →
      u = rejudgeOne k s → e = chan u k → ∀ (st : Standard) (crop : Rect), st = standardOf o.standard →
      crop = cutTo g.crop st.lines st.samples →
      u = { s with chans := u.chans, tx := u.tx } ∧ chan u (otherChan k) = chan s (otherChan k)
      ∧ e.int.standard = o.standard ∧ (∀ i, slotOf e i = .empty) ∧ e.int.committed = [] ∧ e.int.history = []
      ∧ e.int.newest = none ∧ e.int.openSlot = none ∧ e.int.pEst = st.rawPeriod ∧ e.int.crop = some crop
      ∧ e.flags.get (chanFlagIx .windowClamped)
          = (c.flags.get (chanFlagIx .windowClamped) || !decide (meetsFrame g.crop st.lines st.samples))
      ∧ (∀ pl, c.siz.placement = some pl → e.siz.vStep = some (crop.lineCount * 65536 / pl.lineCount)
          ∧ e.siz.hStep = some (crop.sampleCount * 65536 / pl.sampleCount))
      ∧ e.meu.job = none ∧ e.meu.pending = [] ∧ e.sup.relock = n
      ∧ e.tally.get (chanCtrIx .standardChange) = c.tally.get (chanCtrIx .standardChange) + 1
      ∧ e.tally.get (chanCtrIx .relocks) = c.tally.get (chanCtrIx .relocks) + 1
      ∧ e.flags.get (chanFlagIx .standardChange) = true
      ∧ (g.relockLimit = 0 ∨ n ≠ g.relockLimit →
          e.sup = { state := .acquiring, relock := n, holdover := none, decay := none
                    acquisition := some (shift s.now (g.acquisitionSeconds * 27000000 : Nat)) }
          ∧ e.csl.selection = some q ∧ e.int.aim = some q ∧ e.int.lastCommitTime = some s.now
          ∧ e.tally.get (chanCtrIx .copySwitch) = c.tally.get (chanCtrIx .copySwitch) + 1)
      ∧ (g.relockLimit ≠ 0 → n = g.relockLimit →
          e.sup = { state := .latched, relock := n, acquisition := none, holdover := none, decay := none }
          ∧ e.csl.selection = none ∧ e.int.aim = none
          ∧ e.tally.get (chanCtrIx .latches) = c.tally.get (chanCtrIx .latches) + 1
          ∧ e.flags.get (chanFlagIx .channelLatched) = true))
  ∧ ∀ (dt flight : Nat) (l : LaneNo) (words : List Word) (s v y : State) (k : Chan) (g : ChanConfig) (q : Copy)
      (r : PictureRecord) (c : Channel) (n : Nat) (mapped stamp : Time) (st : Standard) (crop : Rect)
      (out : State → Prop), chanConfig s k = some g → g.feed = some r.feed → c = chan s k → c.int.aim = some q →
      q.pub = r.pub →
      (q.origin = .lane l ∧ q.station = r.origin ∧ checkRecord words = .ok (.picture r)
          ∧ v = { advance dt s with
              lanes := s.lanes.modify l fun x => { x with tally := addCount x.tally (laneCtrIx .rxRecords) 1 } }
          ∧ ((∀ x, (chan s (otherChan k)).int.aim = some x → x.origin ≠ .lane l) ∧ y = v
            ∨ y = pictureToChannel (.lane l) r (otherChan k) v)
          ∧ mapped = r.stamp + (lane s l).entry.offset
          ∧ (∀ u, out u ↔ exec (.recordReceived dt l flight words) s = .next (conclude u))
        ∨ q.origin = .lane l ∧ q.station = r.origin ∧ v = s ∧ y = s ∧ mapped = r.stamp + (lane s l).entry.offset
          ∧ (∀ u, out u ↔ pictureToChannel (.lane l) r k s = u)
        ∨ q.origin = .internal ∧ v = s ∧ y = s ∧ mapped = r.stamp ∧ (∀ u, out u ↔ pictureToChannel .internal r k s = u)) →
      kindFits r.standard r.kind = true → r.standard ≠ c.int.standard → isSelecting s k = true →
      choice s k = selectionOf s k → n = min (c.sup.relock + 1) 15 →
      stamp = (if c.csl.rebasePending then mapped else shift mapped c.csl.rebase) → st = standardOf r.standard →
      crop = cutTo g.crop st.lines st.samples →
    ∃ u e, out u ∧ e = chan u k ∧ u = { y with chans := u.chans, tx := u.tx }
      ∧ chan u (otherChan k) = chan y (otherChan k) ∧ e.int.standard = r.standard ∧ e.int.crop = some crop
      ∧ e.flags.get (chanFlagIx .windowClamped)
          = (c.flags.get (chanFlagIx .windowClamped) || !decide (meetsFrame g.crop st.lines st.samples))
      ∧ (∀ pl, c.siz.placement = some pl → e.siz.vStep = some (crop.lineCount * 65536 / pl.lineCount)
          ∧ e.siz.hStep = some (crop.sampleCount * 65536 / pl.sampleCount))
      ∧ e.int.committed = []
      ∧ e.int.history = [] ∧ e.meu.job = none ∧ e.meu.pending = [] ∧ e.sup.relock = n
      ∧ e.tally.get (chanCtrIx .standardChange) = c.tally.get (chanCtrIx .standardChange) + 1
      ∧ e.tally.get (chanCtrIx .picturesAdmitted) = c.tally.get (chanCtrIx .picturesAdmitted) + 1
      ∧ e.tally.get (chanCtrIx .relocks) = c.tally.get (chanCtrIx .relocks) + 1
      ∧ e.flags.get (chanFlagIx .standardChange) = true
      ∧ (g.relockLimit = 0 ∨ n ≠ g.relockLimit →
          e.sup = { state := .acquiring, relock := n, holdover := none, decay := none
                    acquisition := some (shift v.now (g.acquisitionSeconds * 27000000 : Nat)) }
          ∧ e.int.openSlot = some 0 ∧ e.int.newest = some stamp ∧ e.int.refused = none
          ∧ slotOf e 0 = { Slot.empty with
              state := .filling, raws := [⟨r.kind, r.sequence, stamp, c.int.switchCount, none⟩] }
          ∧ (∀ i, i ≠ 0 → slotOf e i = .empty) ∧ e.csl.selection = c.csl.selection ∧ u.tx = y.tx)
      ∧ (g.relockLimit ≠ 0 → n = g.relockLimit →
          e.sup = { state := .latched, relock := n, acquisition := none, holdover := none, decay := none }
          ∧ e.csl.selection = none ∧ (∀ i, slotOf e i = .empty)
          ∧ e.tally.get (chanCtrIx .latches) = c.tally.get (chanCtrIx .latches) + 1
          ∧ e.flags.get (chanFlagIx .channelLatched) = true)

/-- The stamp a picture is given: the newest stamp plus P_est at a rebase, else the mapped stamp plus the rebase; and
the rebase then moves toward 0 by no more than its step. P_est stays within its band about the nominal period, moves by
a sixteenth of the difference, and is left alone by an interval of more than twice the nominal period (04/R67, R68,
05/R78). -/
def Obligations.StampsAndPeriod : Prop :=
  (∀ (mapped : Time) (c d : Channel) (stamp : Time), (stamp, d) = giveStamp mapped c →
      (c.csl.rebasePending = true → ∀ n, c.int.newest = some n →
        stamp = n + BitVec.ofNat 48 c.int.pEst ∧ d.csl.rebaseStep = c.int.pEst / 64
        ∧ d.csl.rebase = slew (sdiff stamp mapped) (c.int.pEst / 64)
        ∧ d.tally.get (chanCtrIx .rebased)
            = c.tally.get (chanCtrIx .rebased) + (if stamp = mapped then 0 else 1))
      ∧ (c.csl.rebasePending = true → c.int.newest = none → stamp = mapped ∧ d.csl.rebase = 0 ∧ d.csl.rebaseStep = 0)
      ∧ (c.csl.rebasePending = false → stamp = shift mapped c.csl.rebase ∧ d.csl.rebase = slew c.csl.rebase c.csl.rebaseStep
        ∧ d.csl.rebaseStep = c.csl.rebaseStep)
      ∧ d.csl.rebasePending = false ∧ d.int = c.int ∧ d.csl.selection = c.csl.selection
      ∧ ∀ (x : Int) (n : Nat), (slew x n).natAbs = x.natAbs - n ∧ (0 ≤ x → 0 ≤ slew x n) ∧ (x ≤ 0 → slew x n ≤ 0))
  ∧ (∀ (stamp : Time) (c d : Channel) (n : Nat), d = updatePeriod stamp c → n = (standardOf c.int.standard).rawPeriod →
      d.int.lastClosed = some stamp
      ∧ (∀ t, c.int.lastClosed = some t → sdiff stamp t ≤ 2 * (n : Int) →
          d.int.pEst ≤ n + n / 16384 ∧ n - n / 16384 ≤ d.int.pEst
          ∧ (∀ p : Int, p = (c.int.pEst : Int) + roundHalfAway (sdiff stamp t - c.int.pEst) 16 →
              (n : Int) - (n / 16384 : Nat) ≤ p → p ≤ n + (n / 16384 : Nat) → (d.int.pEst : Int) = p))
      ∧ ((c.int.lastClosed = none ∨ ∃ t, c.int.lastClosed = some t ∧ 2 * (n : Int) < sdiff stamp t) →
          d.int.pEst = c.int.pEst)
      ∧ d = { c with int := { c.int with pEst := d.int.pEst, lastClosed := some stamp } })

/-- A LINES record of the open picture writes its samples at their frame line inside the crop and nowhere else, and marks
the pairs received; nothing else of the channel changes, unless it is the picture's last, which closes it. At a close
every missing line takes the nearest present one above it, or else below, counted; a picture without a present line is
empty, and its slot becomes FREE (05/R75 to R78). So on a lane and on the internal path (03/R50); where the windows of
both channels stand on the lane, each channel takes the record so: `y` is what the other one leaves. -/
def Obligations.LinesReceived : Prop :=
  (∀ (dt flight : Nat) (l : LaneNo) (words : List Word) (s : State) (k : Chan) (g : ChanConfig) (q : Copy) (r : LinesRecord)
    (i : SlotNo) (crop : Rect) (raw : RawPicture) (v y : State) (out : Channel → Prop), chanConfig s k = some g →
    g.feed = some r.feed → (chan s k).int.aim = some q → q.pub = r.pub → recordOk (.lines r) = true →
    (q.origin = .lane l ∧ q.station = r.origin ∧ checkRecord words = .ok (.lines r)
        ∧ v = { advance dt s with
            lanes := s.lanes.modify l fun x => { x with tally := addCount x.tally (laneCtrIx .rxRecords) 1 } }
        ∧ ((∀ x, (chan s (otherChan k)).int.aim = some x → x.origin ≠ .lane l) ∧ y = v
          ∨ y = linesToChannel (.lane l) r (otherChan k) v)
        ∧ (∀ x, out x ↔ exec (.recordReceived dt l flight words) s = .next (conclude { y with chans := y.chans.set k x }))
      ∨ q.origin = .lane l ∧ q.station = r.origin ∧ v = s
        ∧ (∀ x, out x ↔ linesToChannel (.lane l) r k s = { s with chans := s.chans.set k x })
      ∨ q.origin = .internal ∧ v = s
        ∧ (∀ x, out x ↔ linesToChannel .internal r k s = { s with chans := s.chans.set k x })) →
    (chan s k).int.openSlot = some i → (chan s k).int.crop = some crop → crop.firstSample % 2 = 0 →
    crop.sampleCount % 2 = 0 → crop.firstSample + crop.sampleCount ≤ 2048 → (slotOf (chan s k) i).raws.getLast? = some raw → raw.sequence = r.sequence →
    planesWf (slotOf (chan s k) i).planes = true →
    ∃ x : Slot, (∀ c, c = { chan s k with int := { (chan s k).int with slots := (chan s k).int.slots.set i x } } →
        out (if r.last then closeOpen ⟨v.now, g⟩ c else c))
      ∧ x = { slotOf (chan s k) i with planes := x.planes, received := x.received }
      ∧ ∀ line pos : Nat, pos % 2 = 0 → pos < 2048 →
          (∀ gr, line = frameLine raw.kind r.line → inRect crop line pos = true → r.first ≤ pos →
            r.groups[(pos - r.first) / 2]? = some gr →
            readGroup x.planes line pos = gr ∧ pairKey line pos ∈ x.received)
          ∧ ((line ≠ frameLine raw.kind r.line ∨ inRect crop line pos = false ∨ pos < r.first
              ∨ r.groups[(pos - r.first) / 2]? = none) →
            readGroup x.planes line pos = readGroup (slotOf (chan s k) i).planes line pos
            ∧ (pairKey line pos ∈ x.received ↔ pairKey line pos ∈ (slotOf (chan s k) i).received)))
  ∧ (∀ (env : Env) (c d : Channel) (i : SlotNo) (crop : Rect) (raw : RawPicture) (present missing : List Nat),
    c.int.openSlot = some i → c.int.crop = some crop → (slotOf c i).raws.getLast? = some raw → d = closeOpen env c →
    present = (ownLines crop raw.kind).filter (fun f => (pairPositions crop).all fun x => pairKey f x ∈ (slotOf c i).received) →
    missing = (ownLines crop raw.kind).filter (fun f => !(pairPositions crop).all fun x =>
      pairKey f x ∈ (slotOf c i).received) →
    d.int.openSlot = none
    ∧ (present = [] → d.tally.get (chanCtrIx .emptyPicture) = c.tally.get (chanCtrIx .emptyPicture) + 1
        ∧ d.tally.get (chanCtrIx .missingLine) = c.tally.get (chanCtrIx .missingLine) ∧ d.int.pEst = c.int.pEst
        ∧ d.int.lastClosed = c.int.lastClosed ∧ d.int.history = c.int.history
        ∧ ((slotOf c i).raws = [raw] → slotOf d i = .empty ∧ (∀ j, j ≠ i → slotOf d j = slotOf c j)))
    ∧ (present ≠ [] → (slotOf c i).raws.length ≤ 2 →
        d.tally.get (chanCtrIx .missingLine) = c.tally.get (chanCtrIx .missingLine) + BitVec.ofNat 32 missing.length
        ∧ d.tally.get (chanCtrIx .emptyPicture) = c.tally.get (chanCtrIx .emptyPicture)
        ∧ (slotOf d i).missing = (slotOf c i).missing + missing.length
        ∧ (slotOf d i).planes = fillMissing crop present missing (slotOf c i).planes
        ∧ (slotOf d i).state ≠ .free ∧ (slotOf d i).state ≠ .filling
        ∧ d.int.lastClosed = some raw.stamp ∧ d.int.pEst = (updatePeriod raw.stamp c).int.pEst
        ∧ d.int.history = (⟨i, (slotOf c i).raws.length - 1⟩ :: c.int.history).take 2))
  ∧ ∀ (crop : Rect) (present missing : List Nat) (p q : Planes) (line x : Nat), q = fillMissing crop present missing p →
    planesWf p = true → crop.firstSample % 2 = 0 → crop.firstSample + crop.sampleCount ≤ 2048 → crop.sampleCount % 2 = 0 →
    present.Pairwise (· < ·) → missing.Nodup → (∀ f ∈ missing, f ∉ present) → x % 2 = 0 → x < 2048 →
    (line ∉ missing ∨ x < crop.firstSample ∨ crop.firstSample + crop.sampleCount ≤ x → readGroup q line x = readGroup p line x)
    ∧ (line ∈ missing → crop.firstSample ≤ x → x < crop.firstSample + crop.sampleCount → ∀ a ∈ present,
        (a < line → (∀ b ∈ present, b < line → b ≤ a) → readGroup q line x = readGroup p a x)
        ∧ (line < a → (∀ b ∈ present, a ≤ b) → readGroup q line x = readGroup p a x))

/-- A commit with a stamp later than the last, or into an empty ring, appends the picture to the committed list and is
told to the estimator and the Render Engine: a waiting record without its B takes a picture at or before its render point
as its A, with retirement, and a later one as its B, with its preliminary weight and the gap rule; any other record stays.
Any other commit is refused and counted, and its slot kept for reference. A finish that ends
makes its slot COMPLETE with its finished samples and releases what it read by the ring's own rules (05/R80, R82, R86,
07/R113, 08/R130 to R132). That a finish reads and writes at its end is the model's choice (notes/assumptions/10, 12), as
are that the estimator hears of a commit first (notes/assumptions/49) and that no job starts within it (63). -/
def Obligations.CommitAndFinish : Prop :=
  (∀ (env : Env) (i : SlotNo) (stamp : Time) (plan : Option Finish) (c d : Channel), d = commit env i stamp plan c →
      ((∀ t, c.int.lastCommitted = some t → 0 < sdiff stamp t) →
        (∀ r, c.ren.record = some r → r.state = .waiting → r.early = false → r.b = none → sdiff r.point stamp < 0) →
        d.int.committed = c.int.committed ++ [i] ∧ d.int.lastCommitted = some stamp
        ∧ d.int.lastCommitTime = some env.now ∧ d.int.stallMark = false
        ∧ (∃ n, d.int.newest = some n ∧ 0 ≤ sdiff n stamp)
        ∧ slotOf d i = { slotOf c i with
            committed := some stamp, state := if plan = none then .complete else .finishing, finish := plan }
        ∧ (∀ j, j ≠ i → slotOf d j = slotOf c j)
        ∧ d.tally.get (chanCtrIx .committed) = c.tally.get (chanCtrIx .committed) + 1
        ∧ (∀ a, c.int.committed.getLast? = some a → d.meu.pending = c.meu.pending ++ [⟨i, a⟩])
        ∧ (c.int.committed = [] → d.meu.pending = c.meu.pending
            ∧ d.tally.get (chanCtrIx .motionSkipped) = c.tally.get (chanCtrIx .motionSkipped) + 1))
      ∧ (∀ r, (∀ t, c.int.lastCommitted = some t → 0 < sdiff stamp t) → c.ren.record = some r →
        (r.state ≠ .waiting ∨ r.early = true ∨ r.b.isSome →
          d.ren = c.ren ∧ d.tally.get (chanCtrIx .gapHolds) = c.tally.get (chanCtrIx .gapHolds))
        ∧ (r.state = .waiting → r.early = false → r.b = none →
          (0 ≤ sdiff r.point stamp → d.ren = { c.ren with record := some { r with a := i } } ∧ d.int.retireRef = some i
            ∧ i ∈ d.int.committed ∧ d.int.lastCommitted = some stamp ∧ d.int.lastCommitTime = some env.now
            ∧ d.int.stallMark = false
            ∧ slotOf d i = { slotOf c i with
                committed := some stamp, state := if plan = none then .complete else .finishing, finish := plan }
            ∧ (∀ j, j ≠ i → slotOf d j = slotOf c j ∨ slotOf d j = .empty)
            ∧ d.tally.get (chanCtrIx .committed) = c.tally.get (chanCtrIx .committed) + 1
            ∧ d.tally.get (chanCtrIx .gapHolds) = c.tally.get (chanCtrIx .gapHolds))
          ∧ (∀ (tA : Time) (gap : Bool), sdiff r.point stamp < 0 → (slotOf c r.a).committed = some tA → r.a ≠ i →
              (gap = true ↔ 3 * (pCommit c.cad.mode c.int.pEst : Int) < sdiff stamp tA) →
            d.ren = { c.ren with record := some { r with
              b := some i, prelim := some (if gap then 0 else baseWeight tA stamp r.point) } }
            ∧ d.tally.get (chanCtrIx .gapHolds) = c.tally.get (chanCtrIx .gapHolds) + (if gap then 1 else 0))))
      ∧ ((∃ t, c.int.lastCommitted = some t ∧ sdiff stamp t ≤ 0) →
        d = { c with
          int := { c.int with slots := c.int.slots.modify i fun x => { x with state := .history } }
          tally := addCount c.tally (chanCtrIx .stampOrder) 1 }))
  ∧ (∀ (dt : Nat) (s : State) (k : Chan) (i : SlotNo) (g : ChanConfig), chanConfig s k = some g →
      (slotOf (chan s k) i).state = .finishing →
      ∃ c, exec (.finishDone dt k i) s = .next (conclude { advance dt s with chans := s.chans.set k (sweep c) })
        ∧ c = { chan s k with int := { (chan s k).int with slots := (chan s k).int.slots.modify i fun x => { x with
            state := .complete, finish := none
            planes := finishedPlanes ⟨(advance dt s).now, g⟩ (chan s k) (slotOf (chan s k) i) } } }
        ∧ ((chan s k).int.retireRef = none → (∀ j, (slotOf (chan s k) j).state ≠ .history) → sweep c = c))

/-- A deinterlaced frame keeps every line of its field's own parity; each other line of the crop is the previous field's
in a still block, and in a moving block, or with a field absent, the mean of the lines above and below, rounded up at a
half; at the crop's first line both are the line below, and at its last the line above (05/R82 to R84). -/
def Obligations.Deinterlacing : Prop :=
  ∀ (threshold : Nat) (crop : Rect) (p : Parity) (own : Planes) (previous back : Option Planes) (q : Planes) (f x : Nat),
    q = deinterlace threshold crop p own previous back → crop.firstSample % 2 = 0 → crop.sampleCount % 2 = 0 →
    crop.firstSample + crop.sampleCount ≤ 2048 → planesWf own = true → x % 2 = 0 → x < 2048 →
    (f % 2 = p.val ∨ inRect crop f x = false → readGroup q f x = readGroup own f x)
    ∧ (∀ above below, f % 2 ≠ p.val → inRect crop f x = true →
        (∀ pv bk, previous = some pv → back = some bk →
          blockStill threshold crop p own bk ((f - crop.firstLine) / 8) ((x - crop.firstSample) / 8) = false) →
        above = (if crop.firstLine < f then f - 1 else f + 1) →
        below = (if f + 1 < crop.firstLine + crop.lineCount then f + 1 else f - 1) →
        (readGroup q f x).y0.toNat = ((readGroup own above x).y0.toNat + (readGroup own below x).y0.toNat + 1) / 2
        ∧ (readGroup q f x).y1.toNat = ((readGroup own above x).y1.toNat + (readGroup own below x).y1.toNat + 1) / 2
        ∧ (readGroup q f x).cb.toNat = ((readGroup own above x).cb.toNat + (readGroup own below x).cb.toNat + 1) / 2
        ∧ (readGroup q f x).cr.toNat = ((readGroup own above x).cr.toNat + (readGroup own below x).cr.toNat + 1) / 2)
    ∧ (f % 2 ≠ p.val → inRect crop f x = true → ∀ pv bk, previous = some pv → back = some bk →
        blockStill threshold crop p own bk ((f - crop.firstLine) / 8) ((x - crop.firstSample) / 8) = true →
        readGroup q f x = readGroup pv f x)

/-! ## Cadence (06) -/

/-- The ruling of each position under each locked mode, and the period at which pictures are committed; a phased record
of a rhythm is held on its phase and its count raised to at most 40 by every mark where one belongs, phased anew by a
mark where none belongs, and cleared by a mark that fails to come; a still picture counts for nothing. At the close of a
picture in VIDEO a record at the threshold becomes the pending lock, the 3:2 family first, and a pending lock undisturbed
takes effect at its cycle start: mode, anchor, the other record cleared, counted and flagged. Under a lock a flag that is
neither still nor the expected one breaks it: the mode is VIDEO, no anchor, counted and flagged, and the picture is
committed with the stamp of its pair or as VIDEO; any other picture keeps it (06/R99 to R101, R104 to R106, R110). That
the breaking picture is ruled under the mode before the break is the model's reading (notes/assumptions/17). -/
def Obligations.CadenceRules : Prop :=
  (∀ (anchor raw : Time) (p : Nat),
      rulingAt .film32 0 anchor raw p true = .pairFirst ∧ rulingAt .film32 1 anchor raw p false = .pairSecond anchor
      ∧ rulingAt .film32 2 anchor raw p true = .repeated ∧ rulingAt .film32 3 anchor raw p true = .pairFirst
      ∧ rulingAt .film32 4 anchor raw p false = .pairSecond (anchor + BitVec.ofNat 48 ((5 * p + 1) / 2))
      ∧ rulingAt .film22 0 anchor raw p true = .pairFirst ∧ rulingAt .film22 1 anchor raw p false = .pairSecond anchor
      ∧ rulingAt .rep32 0 anchor raw p true = .video anchor ∧ rulingAt .rep32 1 anchor raw p true = .repeated
      ∧ rulingAt .rep32 2 anchor raw p true = .video (anchor + BitVec.ofNat 48 ((5 * p + 1) / 2))
      ∧ rulingAt .rep32 3 anchor raw p true = .repeated ∧ rulingAt .rep32 4 anchor raw p true = .repeated
      ∧ rulingAt .rep22 0 anchor raw p true = .video anchor ∧ rulingAt .rep22 1 anchor raw p true = .repeated
      ∧ (∀ f n, secondOfPair f n = true → n < cycleOf f → rulingAt f n anchor raw p true = .video raw)
      ∧ pCommit none p = p ∧ pCommit (some .film22) p = 2 * p ∧ pCommit (some .rep22) p = 2 * p
      ∧ pCommit (some .film32) p = (5 * p + 1) / 2 ∧ pCommit (some .rep32) p = (5 * p + 1) / 2)
  ∧ (∀ (h : Hypothesis) (f : Family) (rf : RepeatFlag) (cf : CombFlag) (last : Option RepeatFlag) (st : HypStep),
      h.family = some f → st = updateHypothesis h rf cf last →
      (∀ p, h.next = some p → signOf f rf cf ≠ .still → (signOf f rf cf = .mark ↔ markAt f p = true) →
        st = ⟨⟨some f, some ((p + 1) % cycleOf f), min (h.count + 1) 40⟩, some p, false⟩)
      ∧ (∀ p, h.next = some p → signOf f rf cf = .still → st = ⟨⟨some f, some ((p + 1) % cycleOf f), h.count⟩, some p, false⟩)
      ∧ (∀ p, h.next = some p → signOf f rf cf = .other → markAt f p = true → st = ⟨⟨some f, none, 0⟩, none, true⟩)
      ∧ (∀ p, h.next = some p → signOf f rf cf = .mark → markAt f p = false →
        ∃ m, markAt f m = true ∧ m < cycleOf f ∧ st = ⟨⟨some f, some ((m + 1) % cycleOf f), 1⟩, some m, true⟩)
      ∧ (h.next = none → signOf f rf cf = .mark →
        ∃ m, markAt f m = true ∧ m < cycleOf f ∧ st = ⟨⟨some f, some ((m + 1) % cycleOf f), 1⟩, some m, false⟩)
      ∧ (h.next = none → signOf f rf cf ≠ .mark → st.record = h ∧ st.position = none))
  ∧ ∀ (env : Env) (c d : Channel) (i : SlotNo) (crop : Rect) (raw : RawPicture) (rf : RepeatFlag) (cf : CombFlag) (n : Nat)
      (pending : Option Family), c.int.openSlot = some i → c.int.crop = some crop → (slotOf c i).raws.length = n → n ≤ 2 →
      (slotOf c i).raws.getLast? = some raw → d = closeOpen env c →
      (∃ l ∈ ownLines crop raw.kind, (pairPositions crop).all (fun x => pairKey l x ∈ (slotOf c i).received) = true) →
      ((slotOf d i).raws[n - 1]?).bind (·.flags) = some (rf, cf) →
      pending = (if d.cad.rec32.family ≠ none ∧ 5 * env.cfg.lockCycles ≤ d.cad.rec32.count then d.cad.rec32.family
        else if d.cad.rec22.family ≠ none ∧ 5 * env.cfg.lockCycles ≤ d.cad.rec22.count then d.cad.rec22.family else none) →
    (c.cad.mode = none →
      (c.cad.pendingLock = none → d.cad.mode = none ∧ d.cad.pendingLock = pending
        ∧ d.cad.rec32 = (updateHypothesis c.cad.rec32 rf cf c.cad.lastFlag).record
        ∧ d.cad.rec22 = (updateHypothesis c.cad.rec22 rf cf c.cad.lastFlag).record
        ∧ d.tally.get (chanCtrIx .cadenceLocks) = c.tally.get (chanCtrIx .cadenceLocks))
      ∧ ∀ (f : Family) (st : HypStep), c.cad.pendingLock = some f →
        st = updateHypothesis (recordOf c.cad f) rf cf c.cad.lastFlag →
        (st.disturbed = true → d.cad.mode = none ∧ d.cad.pendingLock = pending
          ∧ d.tally.get (chanCtrIx .cadenceLocks) = c.tally.get (chanCtrIx .cadenceLocks)
          ∧ d.flags.get (chanFlagIx .cadenceChange) = c.flags.get (chanFlagIx .cadenceChange))
        ∧ (st.disturbed = false → st.position ≠ some 0 → d.cad.mode = none ∧ d.cad.pendingLock = some f
          ∧ d.tally.get (chanCtrIx .cadenceLocks) = c.tally.get (chanCtrIx .cadenceLocks))
        ∧ (st.disturbed = false → st.position = some 0 →
          d.cad.mode = some f ∧ d.cad.anchor = some raw.stamp ∧ d.cad.pendingLock = none
          ∧ (c.cad.rec32.family = some f → d.cad.rec32 = st.record ∧ d.cad.rec22.next = none ∧ d.cad.rec22.count = 0)
          ∧ (c.cad.rec32.family ≠ some f → d.cad.rec22 = st.record ∧ d.cad.rec32.next = none ∧ d.cad.rec32.count = 0)
          ∧ d.tally.get (chanCtrIx .cadenceLocks) = c.tally.get (chanCtrIx .cadenceLocks) + 1
          ∧ d.flags.get (chanFlagIx .cadenceChange) = true))
    ∧ ∀ (f : Family) (p : Nat) (breaks : Prop), c.cad.mode = some f → (recordOf c.cad f).next = some p →
      (breaks ↔ signOf f rf cf ≠ .still ∧ ¬ (signOf f rf cf = .mark ↔ markAt f p = true)) →
      d.tally.get (chanCtrIx .cadenceLocks) = c.tally.get (chanCtrIx .cadenceLocks)
      ∧ (¬ breaks → d.cad.mode = some f
        ∧ d.cad.anchor = some (if p = 0 then raw.stamp else c.cad.anchor.getD raw.stamp)
        ∧ d.tally.get (chanCtrIx .cadenceBreaks) = c.tally.get (chanCtrIx .cadenceBreaks))
      ∧ (breaks → d.cad.mode = none ∧ d.cad.anchor = none
        ∧ d.tally.get (chanCtrIx .cadenceBreaks) = c.tally.get (chanCtrIx .cadenceBreaks) + 1
        ∧ d.flags.get (chanFlagIx .cadenceChange) = true
        ∧ ∀ (stamp anchor : Time), c.cad.anchor = some anchor →
          stamp = (if secondOfPair f p = false ∨ n = 1 then raw.stamp
            else if f = .film32 ∧ p = 4 then anchor + BitVec.ofNat 48 ((5 * (updatePeriod raw.stamp c).int.pEst + 1) / 2)
            else anchor) →
          (∀ t, c.int.lastCommitted = some t → 0 < sdiff stamp t) →
          (slotOf d i).committed = some stamp ∧ d.int.lastCommitted = some stamp
          ∧ d.tally.get (chanCtrIx .committed) = c.tally.get (chanCtrIx .committed) + 1)

/-! ## Motion (07) -/

/-- A job starts for the oldest pair once both its pictures are COMPLETE; it has one record for each block of the grid,
every vector in range, no match worse than the zero vector's, and a vector valid exactly within the match limit. A job
that ends leaves its table with picture B: its records, how many are invalid, the most frequent valid vector, and CUT
where more than half are invalid; its marks are released (07/R115 to R122). That its search is done at its start is the
model's choice (notes/assumptions/10). -/
def Obligations.MotionJobs : Prop :=
  (∀ (dt : Nat) (s : State) (k : Chan) (g : ChanConfig) (q : Pair) (rest : List Pair) (crop : Rect),
      chanConfig s k = some g → (chan s k).meu.job = none → (chan s k).meu.pending = q :: rest →
      (chan s k).int.crop = some crop → (slotOf (chan s k) q.a).state = .complete →
      (slotOf (chan s k) q.b).state = .complete →
      ∃ j : Job, exec (.motionJobStart dt k) s = .next (conclude { advance dt s with
          chans := s.chans.modify k fun c => { c with meu := { pending := rest, job := some j } } })
        ∧ j.pair = q ∧ j.columns = (crop.sampleCount + 15) / 16 ∧ j.rows = (crop.lineCount + 15) / 16
        ∧ j.globalA = (slotOf (chan s k) q.a).table.bind (·.globalVec)
        ∧ j.records.length = j.columns * j.rows
        ∧ ∀ (n : Nat) (r : BlockRecord), j.records[n]? = some r →
            -32 ≤ r.vec.x ∧ r.vec.x ≤ 32 ∧ -16 ≤ r.vec.y ∧ r.vec.y ≤ 16
            ∧ r.sad = blockSad crop (slotOf (chan s k) q.a).planes (slotOf (chan s k) q.b).planes (n % j.columns)
                (n / j.columns) r.vec
            ∧ r.sad ≤ blockSad crop (slotOf (chan s k) q.a).planes (slotOf (chan s k) q.b).planes (n % j.columns)
                (n / j.columns) ⟨0, 0⟩
            ∧ r.sad ≤ 261888 ∧ (r.valid = true ↔ r.sad ≤ g.matchLimit * 256))
  ∧ (∀ (dt : Nat) (s : State) (k : Chan) (j : Job), (chan s k).meu.job = some j →
      ∃ (t : VectorTable) (c : Channel), exec (.motionJobDone dt k) s = .next (conclude { advance dt s with
          chans := s.chans.set k { sweep c with tally := addCount (sweep c).tally (chanCtrIx .motionJobs) 1 } })
        ∧ c = { chan s k with
            meu := { (chan s k).meu with job := none }
            int := { (chan s k).int with slots := (chan s k).int.slots.modify j.pair.b fun x => { x with table := some t } }
            tally := if t.cut then addCount (chan s k).tally (chanCtrIx .motionCuts) 1 else (chan s k).tally }
        ∧ t.columns = j.columns ∧ t.records = j.records ∧ t.invalid = j.records.countP (fun r => !r.valid)
        ∧ (t.cut = true ↔ j.columns * j.rows < 2 * t.invalid)
        ∧ (t.globalVec = none ↔ ∀ r ∈ j.records, r.valid = false)
        ∧ ∀ v, t.globalVec = some v → ∀ w : Vec,
            ((j.records.filter (·.valid)).map (·.vec)).count w ≤ ((j.records.filter (·.valid)).map (·.vec)).count v
            ∧ (((j.records.filter (·.valid)).map (·.vec)).count w = ((j.records.filter (·.valid)).map (·.vec)).count v →
                w ≠ v → vecBefore v w = true))

/-! ## Rendering (08) -/

/-- The preliminary weight: 64 times the place of the render point between the two stamps, rounded half up, in 0 to 64,
and 64 only in the last 128th of the interval. A vector is projected for a weight so that the shifts on the two sides
make up the vector, each between 0 and it; the picture that carries the whole weight is read unshifted, and a vector and
its negation project alike (08/R131, R137). -/
def Obligations.WeightsAndShifts : Prop :=
  (∀ (tA tB r : Time) (a d : Int), a = sdiff r tA → d = sdiff tB tA → 0 ≤ a → a < d →
      (baseWeight tA tB r : Int) = (128 * a + d) / (2 * d)
      ∧ baseWeight tA tB r ≤ 64 ∧ (baseWeight tA tB r = 64 ↔ 127 * d ≤ 128 * a))
  ∧ (∀ (w : Nat) (v : Vec), w ≤ 64 →
      (shiftsOf w v).ax = roundHalfAway (w * v.x) 64 ∧ (shiftsOf w v).ay = roundHalfAway (w * v.y) 64
      ∧ (shiftsOf w v).ax + (shiftsOf w v).bx = v.x ∧ (shiftsOf w v).ay + (shiftsOf w v).bY = v.y
      ∧ (0 ≤ v.x → 0 ≤ (shiftsOf w v).ax ∧ (shiftsOf w v).ax ≤ v.x) ∧ (v.x ≤ 0 → v.x ≤ (shiftsOf w v).ax ∧ (shiftsOf w v).ax ≤ 0)
      ∧ (0 ≤ v.y → 0 ≤ (shiftsOf w v).ay ∧ (shiftsOf w v).ay ≤ v.y) ∧ (v.y ≤ 0 → v.y ≤ (shiftsOf w v).ay ∧ (shiftsOf w v).ay ≤ 0)
      ∧ (w = 0 → (shiftsOf w v).ax = 0 ∧ (shiftsOf w v).ay = 0) ∧ (w = 64 → (shiftsOf w v).bx = 0 ∧ (shiftsOf w v).bY = 0)
      ∧ shiftsOf w ⟨-v.x, -v.y⟩ = ⟨-(shiftsOf w v).ax, -(shiftsOf w v).ay, -(shiftsOf w v).bx, -(shiftsOf w v).bY⟩)

/-- The selection for the announced picture, made once and only while CONVERTING: A the last committed picture at or
before the render point, B the one after it, the early mark, the preliminary weight with the gap rule, and the buffer
not in scan; with an empty list no record is formed (08/R127 to R132). The mark that it has been made is the model's own
(notes/assumptions/20). -/
def Obligations.RenderSelection : Prop :=
  ∀ (dt : Nat) (s : State) (k : Chan) (g : ChanConfig) (now t0 t1 point : Time) (d : Nat) (c : Channel), c = chan s k →
    chanConfig s k = some g → now = s.now + BitVec.ofNat 48 dt → c.sup.state = .converting → c.ren.selected = false →
    c.ren.record = none → c.ren.dEff = some d → c.port.tOut = some t0 → c.port.tNext = some t1 → 0 ≤ sdiff now t0 →
    0 ≤ sdiff now (shift t1 (-(pOut g : Int))) → point = shift t1 (-(d : Int)) →
    (c.int.committed = [] →
      exec (.renderSelection dt k) s = .next (conclude { advance dt s with chans := s.chans.set k { c with
        ren := { c.ren with selected := true }, tally := addCount c.tally (chanCtrIx .renderSkipped) 1 } }))
    ∧ ∀ (before after : List SlotNo) (a : SlotNo), c.int.committed = before ++ a :: after →
        (∀ i ∈ after, sdiff point (stampOf c i) < 0) → (0 ≤ sdiff point (stampOf c a) ∨ before = []) → a ∉ before →
      ∃ r : RenderRecord,
        exec (.renderSelection dt k) s = .next (conclude { advance dt s with chans := s.chans.set k (sweep { c with
          ren := { c.ren with selected := true, record := some r }
          int := { c.int with retireRef := some a }
          tally := if r.early then addCount c.tally (chanCtrIx .early) 1
            else if r.b.isSome && r.prelim = some 0 && r.b.any (fun b =>
                3 * (pCommit c.cad.mode c.int.pEst : Int) < sdiff (stampOf c b) (stampOf c a))
              then addCount c.tally (chanCtrIx .gapHolds) 1
            else c.tally }) })
        ∧ r.concealed = false ∧ r.picture = c.port.picture + 1 ∧ r.tOut = t1 ∧ r.point = point ∧ r.conceal = shift t1 (-((pOut g / 8 : Nat) : Int))
        ∧ r.select = shift t1 (-(pOut g : Int)) ∧ r.state = .waiting ∧ r.a = a ∧ r.mode = none ∧ r.weight = none
        ∧ (r.early = true ↔ sdiff point (stampOf c a) < 0)
        ∧ r.b = (if r.early then none else after.head?)
        ∧ (∀ b ∈ r.b, r.prelim = some (if 3 * (pCommit c.cad.mode c.int.pEst : Int) < sdiff (stampOf c b) (stampOf c a)
            then 0 else baseWeight (stampOf c a) (stampOf c b) point))
        ∧ (r.b = none → r.prelim = none)
        ∧ c.port.source ≠ .buffer r.buffer ∧ ((∀ b, c.port.source ≠ .buffer b) → c.port.lastGood ≠ some r.buffer)

/-- A waiting record whose A is COMPLETE begins: A-only at once; with a COMPLETE B whose vectors are settled, VECTORED
or PLAIN; the weight is the preliminary one but for the CUT rule. At the conceal point a record that needs or awaits B
stops waiting: it begins PLAIN from a COMPLETE B, or A-only and LATE without one or with one not COMPLETE; where its A is
not yet COMPLETE it waits on, and begins so once its A is COMPLETE. Nothing else makes a record begin (08/R133 to R135).
When LATE and UNVECTORED are counted is the model's reading (notes/assumptions/20). -/
def Obligations.RenderBegins : Prop :=
  ∀ (dt : Nat) (s : State) (k : Chan) (g : ChanConfig) (c : Channel) (r : RenderRecord) (now : Time)
    (out : RenderRecord → Bank 42 Count → Host.Outcome State Fault Refusal), c = chan s k →
    chanConfig s k = some g → c.ren.record = some r → r.state = .waiting → now = s.now + BitVec.ofNat 48 dt →
    (∀ x t, out x t = .next (conclude { advance dt s with
      chans := s.chans.set k { c with ren := { c.ren with record := some x }, tally := t } })) →
    (sdiff now r.conceal < 0 → exec (.concealPoint dt k) s = .next (conclude (advance dt s)))
    ∧ (r.early = true ∨ r.prelim = some 0 ∧ r.b.isSome →
      exec (.concealPoint dt k) s = .next (conclude (advance dt s))
      ∧ exec (.renderBegin dt k) s = (if (slotOf c r.a).state = .complete then
          out { r with state := .rendering, mode := some .aOnly, weight := some 0 } c.tally
        else .next (conclude (advance dt s))))
    ∧ ∀ (cmd : Instr) (x : RenderRecord), r.early = false →
      (cmd = .renderBegin dt k ∧ x = r
        ∨ cmd = .concealPoint dt k ∧ 0 ≤ sdiff now r.conceal ∧ x = { r with concealed := true }) →
      ((r.b = none ∧ r.prelim = none ∨ (∃ b w, r.b = some b ∧ r.prelim = some w ∧ 0 < w) →
          (slotOf c r.a).state ≠ .complete → exec cmd s = out x c.tally))
      ∧ (r.b = none → r.prelim = none → (slotOf c r.a).state = .complete →
        exec cmd s = (if x.concealed then out { x with state := .rendering, mode := some .aOnly, weight := some 0 }
            (addCount c.tally (chanCtrIx .late) 1)
          else out x c.tally))
      ∧ ∀ (b : SlotNo) (w : Nat), r.b = some b → r.prelim = some w → 0 < w → (slotOf c r.a).state = .complete →
        ((slotOf c b).state ≠ .complete →
          exec cmd s = (if x.concealed then out { x with state := .rendering, mode := some .aOnly, weight := some 0 }
              (addCount c.tally (chanCtrIx .late) 1)
            else out x c.tally))
        ∧ ((slotOf c b).state = .complete →
          (∀ t, vectorState c b = .ready → (slotOf c b).table = some t →
            exec cmd s = out { x with
                state := .rendering, mode := some .vectored
                weight := some (if t.cut then (if w < 32 then 0 else 64) else w) }
              (if t.cut = true ∧ (if w < 32 then 0 else 64) ≠ w then addCount c.tally (chanCtrIx .cutSnaps) 1
                else c.tally))
          ∧ (vectorState c b = .absent →
            exec cmd s = out { x with state := .rendering, mode := some .plain, weight := some w }
              (addCount c.tally (chanCtrIx .unvectored) 1))
          ∧ (vectorState c b = .pending →
            exec cmd s = (if x.concealed then out { x with state := .rendering, mode := some .plain, weight := some w }
                (addCount c.tally (chanCtrIx .unvectored) 1)
              else out x c.tally)))

/-- A render that completes is DONE, its picture's samples in its buffer at the next picture's parity, its marks released
and applied, and counted; the buffer's state and parity stay as they are until a scan start takes it (08/R140,
10/R165). -/
def Obligations.RenderCompletes : Prop :=
  ∀ (dt : Nat) (s : State) (k : Chan) (g : ChanConfig) (c : Channel) (r : RenderRecord) (crop pl : Rect) (v h : Nat)
    (q : Parity), c = chan s k → chanConfig s k = some g → c.ren.record = some r → r.state = .rendering →
    c.int.crop = some crop → c.siz.placement = some pl → c.siz.vStep = some v → c.siz.hStep = some h →
    q = (if (standardOf g.target).interlaced then (if c.port.parity = 0 then 1 else 0) else c.port.parity) →
    ∃ d : Channel, exec (.renderComplete dt k) s = .next (conclude { advance dt s with
        chans := s.chans.set k { sweep d with tally := addCount (sweep d).tally (chanCtrIx .renders) 1 } })
      ∧ d = { c with
          ren := { c.ren with record := some { r with state := .done } }
          port := { c.port with buffers := c.port.buffers.modify r.buffer fun x => { x with
            planes := rasterPicture c.siz g.target q pl v h (sourcesOf c crop r) } } }
      ∧ renderMark d r.a = false ∧ ∀ b ∈ r.b, renderMark d b = false

/-! ## Size and colour (09) -/

/-- Each sample of the interpolated picture lies between the two samples it weighs; a table whose phases each sum to 256
leaves a flat area as it is, at every position and step, and any other is replaced; no pass leaves 0 to 1023; and the
colour stage's formulas, each floor exact, with the identity matrix and zero offsets as the identity (08/R139, 09/R147,
R150, R152, R153). -/
def Obligations.SampleArithmetic : Prop :=
  ((∀ (w : Nat) (a b lo hi : Int), w ≤ 64 → lo ≤ a → a ≤ hi → lo ≤ b → b ≤ hi → lo ≤ blend w a b ∧ blend w a b ≤ hi)
    ∧ (∀ (t : FilterTable) (pos n : Nat) (v : Int), tableAccepted t = true → 0 ≤ v → v ≤ 1023 → 0 < n →
        filterAt t pos n (fun _ => v) = v)
    ∧ (∀ (t : FilterTable) (pos n : Nat) (f : Nat → Int), 0 ≤ filterAt t pos n f ∧ filterAt t pos n f ≤ 1023)
    ∧ ∀ t : FilterTable, (∃ p : Fin 64, (t.get p).get 0 + (t.get p).get 1 + (t.get p).get 2 + (t.get p).get 3 ≠ 256) →
        tableInForce t = (bilinear, true))
  ∧ (∀ (z : Sizer) (m00 m01 m02 m10 m11 m12 m20 m21 m22 o0 o1 o2 y cb cr : Int),
      z.matrix.items = [m00, m01, m02, m10, m11, m12, m20, m21, m22] → z.offsets.items = [o0, o1, o2] →
      colourY z y cb cr = (m00 * (y - 64) + m01 * (cb - 512) + m02 * (cr - 512) + 512) / 1024 + 64 + o0
      ∧ colourCb z y cb cr = (m10 * (y - 64) + m11 * (cb - 512) + m12 * (cr - 512) + 512) / 1024 + 512 + o1
      ∧ colourCr z y cb cr = (m20 * (y - 64) + m21 * (cb - 512) + m22 * (cr - 512) + 512) / 1024 + 512 + o2
      ∧ (z.matrix = identityMatrix → z.offsets = Bank.fill 3 0 →
          colourY z y cb cr = y ∧ colourCb z y cb cr = cb ∧ colourCr z y cb cr = cr))

/-- Every value a render writes lies in 4 to 1019, and in the legal range while the legal clip is on; a picture holds a
value at each of its raster positions, on every line of a progressive target and on those of its parity of an interlaced
one. Inside the placement it is the sized and coloured value: the vertical pass, then the horizontal, from the position of
the placement line and sample, chroma on its own grid; outside it the fill colour, luma and chroma. A pass takes four taps
from the base of its position, clamped to the crop, with the coefficients of its phase (09/R148, R149, R151, R154). That a
field's picture reads 0 on the lines of the other parity is the model's own choice (notes/assumptions/7). -/
def Obligations.RenderedValues : Prop :=
  (∀ (z : Sizer) (target : StdCode) (parity : Parity) (pl : Rect) (vStep hStep : Nat) (r : Sources) (q : Planes)
    (line x : Nat), q = rasterPicture z target parity pl vStep hStep r → x < (standardOf target).samples →
    (line ∈ pictureLines target parity →
      4 ≤ (readAt q.y line x).toNat ∧ (readAt q.y line x).toNat ≤ 1019
      ∧ (z.legal = true → 64 ≤ (readAt q.y line x).toNat ∧ (readAt q.y line x).toNat ≤ 940)
      ∧ (x % 2 = 0 → ∀ p ∈ [q.cb, q.cr], 4 ≤ (readAt p line x).toNat ∧ (readAt p line x).toNat ≤ 1019
          ∧ (z.legal = true → 64 ≤ (readAt p line x).toNat ∧ (readAt p line x).toNat ≤ 960))
      ∧ (inRect pl line x = false → readAt q.y line x = clampLuma z z.fillColour.y
          ∧ (x % 2 = 0 → readAt q.cb line x = clampChroma z z.fillColour.cb
            ∧ readAt q.cr line x = clampChroma z z.fillColour.cr))
      ∧ ∀ (row col : Nat) (size : Nat → Nat → (Nat → Nat → Int) → Int) (y cb cr : Int), inRect pl line x = true →
          row = line - pl.firstLine → col = x - pl.firstSample →
          (∀ wide i f, size wide i f = filterAt z.hTable (i * hStep) wide fun a =>
            filterAt z.vTable (row * vStep) r.crop.lineCount fun b => f a b) →
          y = size r.crop.sampleCount col (blendLuma r) →
          cb = size (r.crop.sampleCount / 2) (col / 2) (blendChroma r (·.cb)) →
          cr = size (r.crop.sampleCount / 2) (col / 2) (blendChroma r (·.cr)) →
        readAt q.y line x = clampLuma z (colourY z y cb cr)
        ∧ (x % 2 = 0 → readAt q.cb line x = clampChroma z (colourCb z y cb cr)
            ∧ readAt q.cr line x = clampChroma z (colourCr z y cb cr)))
    ∧ (line ∉ pictureLines target parity → readAt q.y line x = 0)
    ∧ ((standardOf target).interlaced = true →
        (line ∈ pictureLines target parity ↔ line < (standardOf target).lines ∧ line % 2 = parity.val))
    ∧ ((standardOf target).interlaced = false →
        (line ∈ pictureLines target parity ↔ line < (standardOf target).lines)))
  ∧ ∀ (t : FilterTable) (pos n base : Nat) (k : Bank 4 Int) (f : Nat → Int), 0 < n → base = pos / 65536 →
      (∃ phase : Fin 64, phase.val = pos % 65536 / 1024 ∧ k = t.get phase) →
      filterAt t pos n f = min 1023 (max 0 ((k.get 0 * f (min (base - 1) (n - 1)) + k.get 1 * f (min base (n - 1))
        + k.get 2 * f (min (base + 1) (n - 1)) + k.get 3 * f (min (base + 2) (n - 1)) + 128) / 256))

/-! ## Output ports and supervisors (10) -/

/-- A scan start: the picture number, the parity, the next scan start a raw period on, and at a frame start the
correction from the pending error, by a jump, a slew or none, with its lock state (10/R158, R163, R164). That a second
field's scan start keeps the correction, where 10/R158 step 1 says 0 at any other scan start, is the model's own choice
(notes/assumptions/29). -/
def Obligations.ScanStartTimebase : Prop :=
  ∀ (dt : Nat) (s : State) (k : Chan) (entry : EntryOrder) (std : StdCode) (d : Time) (p : Port), p = (chan s k).port →
    p.standard = some std → p.tNext = some d → 0 ≤ sdiff (s.now + BitVec.ofNat 48 dt) d → s.station ≠ .configFault →
    ∃ t q, exec (.scanStart dt k entry) s = .next t ∧ q = (chan t k).port
      ∧ q.standard = some std ∧ q.tOut = some d ∧ q.picture = (if p.tOut = none then 0 else p.picture + 1)
      ∧ q.parity = (if p.tOut = none ∨ (standardOf std).interlaced = false then 0 else if p.parity = 0 then 1 else 0)
      ∧ q.emittedLines = 0 ∧ q.emitted = []
      ∧ (chan t k).tally.get (chanCtrIx .picturesScanned) = (chan s k).tally.get (chanCtrIx .picturesScanned) + 1
      ∧ ((standardOf std).interlaced = true → q.parity = 1 → q.tNext = some (shift d (standardOf std).rawPeriod)
          ∧ q.correction = p.correction ∧ q.lock = p.lock ∧ q.pendingError = p.pendingError ∧ q.lastFrame = p.lastFrame)
      ∧ ((standardOf std).interlaced = false ∨ q.parity = 0 →
          q.tNext = some (shift d ((standardOf std).rawPeriod + q.correction)) ∧ q.lastFrame = some d
          ∧ q.pendingError = none
          ∧ (p.pendingError = none → q.correction = 0 ∧ q.lock = p.lock)
          ∧ (∀ e, p.pendingError = some e → p.lock = .freeRun → (standardOf std).rawPeriod / 4 < e.natAbs →
              q.correction = (if 0 ≤ e then e else e + framePeriod std) ∧ q.lock = .pulling ∧ q.jumpFlag = true
              ∧ (chan t k).tally.get (chanCtrIx .refJumps) = (chan s k).tally.get (chanCtrIx .refJumps) + 1)
          ∧ ∀ e, p.pendingError = some e → (p.lock ≠ .freeRun ∨ e.natAbs ≤ (standardOf std).rawPeriod / 4) →
              q.correction = (if e < -27 then -27 else if 27 < e then 27 else e)
              ∧ q.lock = (if e.natAbs ≤ 27 then .locked else .pulling))

/-- What a port scans. While CONVERTING or HOLDOVER: the buffer of a render that is DONE, which is marked RENDERED with
the picture's parity and becomes the last good one, the other one EMPTY; or, with none, the picture before again,
counted; a render not DONE is an overrun. In any other state the safe picture, a DONE buffer discarded. An entry into
CONVERTING is counted where its condition holds, and starts the decay timer and stops the others; taken before the source,
it makes an ACQUIRING or SAFE channel scan a DONE buffer or repeat (08/R141, 10/R165 to R169). Outside CONVERTING the intake
forms the retirement reference for the picture announced (05/R87). A producing channel with an output feed forms the PICTURE
record of the picture now in scan and hands it on, as does one whose entry is taken before the record; no other does
(10/R174, R175). The sender says where in the scan start the entry is taken, and the other channel's answer to it settles
there (notes/assumptions/4, 19, 47). -/
def Obligations.ScanStartSource : Prop :=
  ∀ (dt : Nat) (s : State) (k : Chan) (entry : EntryOrder) (g : ChanConfig) (std : StdCode) (d : Time) (c : Channel),
    c = chan s k → chanConfig s k = some g → c.port.standard = some std → c.port.tNext = some d →
    0 ≤ sdiff (s.now + BitVec.ofNat 48 dt) d → s.station ≠ .configFault →
    ∃ t e, exec (.scanStart dt k entry) s = .next t ∧ e = chan t k
      ∧ ∀ (taken repeated safe : Prop) (enters : Prop),
        (taken ↔ ∃ r, c.ren.record = some r ∧ r.state = .done ∧ e.port.source = .buffer r.buffer
          ∧ e.port.lastGood = some r.buffer ∧ e.tally.get (chanCtrIx .repeats) = c.tally.get (chanCtrIx .repeats)
          ∧ e.port.buffers.get r.buffer
              = { c.port.buffers.get r.buffer with rendered := true, parity := e.port.parity }
          ∧ ∀ b, b ≠ r.buffer → e.port.buffers.get b = .empty) →
        (repeated ↔ e.port.source = c.port.source ∧ e.port.lastGood = c.port.lastGood
          ∧ e.tally.get (chanCtrIx .repeats) = c.tally.get (chanCtrIx .repeats) + 1
          ∧ e.tally.get (chanCtrIx .overrun)
              = c.tally.get (chanCtrIx .overrun) + (if c.ren.record.isSome then 1 else 0)) →
        (safe ↔ e.port.source = (if s.station ≠ .running then .black else match g.safeMode with
            | .black => .black
            | .fill => .fill
            | .bars => .bars
            | .freeze => match c.port.lastGood with
              | some b => .buffer b
              | none => .black)
          ∧ e.port.lastGood = c.port.lastGood ∧ e.tally.get (chanCtrIx .repeats) = c.tally.get (chanCtrIx .repeats)
          ∧ ∀ r, c.ren.record = some r → e.port.buffers.get r.buffer = .empty) →
        (enters ↔ (c.sup.state = .acquiring ∨ c.sup.state = .holdover ∨ c.sup.state = .safe) ∧ s.station = .running
          ∧ 2 ≤ (c.int.committed.filter (isComplete c)).length ∧ ∃ n delay next, c.int.newest = some n
          ∧ c.ren.dEff = some delay ∧ e.port.tNext = some next ∧ 0 ≤ sdiff n (shift next (-(delay : Int)))) →
      (c.sup.state = .converting ∨ c.sup.state = .holdover ∧ entry ≠ .beforeSource →
        ((∃ r ∈ c.ren.record, r.state = .done) → taken) ∧ ((∀ r ∈ c.ren.record, r.state ≠ .done) → repeated))
      ∧ (c.sup.state = .idle ∨ c.sup.state = .latched → safe ∧ e.sup = c.sup)
      ∧ (c.sup.state = .acquiring ∨ c.sup.state = .safe → entry ≠ .beforeSource → safe)
      ∧ ((∀ r ∈ c.ren.record, r.state = .done) →
        (¬ enters → e.tally.get (chanCtrIx .convertStarts) = c.tally.get (chanCtrIx .convertStarts)
          ∧ (c.sup.state = .acquiring ∨ c.sup.state = .safe → safe)
          ∧ (c.sup.state = .holdover → (c.ren.record.isSome → taken) ∧ (c.ren.record = none → repeated)))
        ∧ (enters → e.tally.get (chanCtrIx .convertStarts) = c.tally.get (chanCtrIx .convertStarts) + 1
          ∧ ∀ q l, selectionOf s k = some q → q.origin = .lane l → isEligible s k q = true → c.csl.forced = none →
            e.sup = { state := .converting, relock := c.sup.relock, acquisition := none, holdover := none
                      decay := some (s.now + BitVec.ofNat 48 dt + 1620000000) }
            ∧ (entry = .beforeSource → (c.ren.record.isSome → taken) ∧ (c.ren.record = none → repeated))))
      ∧ ((∀ r ∈ c.ren.record, r.state = .done) → c.sup.state ≠ .converting →
        isSelecting s k = false ∨ (∃ q l, selectionOf s k = some q ∧ q.origin = .lane l ∧ isEligible s k q = true
          ∧ c.csl.forced = none) →
        ∀ (delay : Nat) (next point : Time) (before after : List SlotNo) (a : SlotNo), c.ren.dEff = some delay →
          e.port.tNext = some next → point = shift next (-(delay : Int)) → c.int.committed = before ++ a :: after →
          (∀ i ∈ after, sdiff point (stampOf c i) < 0) → (0 ≤ sdiff point (stampOf c a) ∨ before = []) → a ∉ before →
          e.int.retireRef = some a)
      ∧ (g.outFeed = none ∨ s.station ≠ .running →
          e.port.sequence = c.port.sequence ∧ e.port.publishing = false)
      ∧ ∀ (own : StationNo) (f : FeedNo) (r : PictureRecord) (st : Standard) (silent done : Prop),
          (silent ↔ e.port.sequence = c.port.sequence ∧ e.port.publishing = false) →
          (done ↔ ∀ r ∈ c.ren.record, r.state = .done) → ownNumber s = some own → g.outFeed = some f →
          s.station = .running → st = standardOf std →
          r = { origin := own, pub := outputOf k, feed := f, sequence := c.port.sequence + 1
                generation := if c.csl.sourceGeneration = 3 then 3 else c.csl.sourceGeneration + 1
                kind := if st.interlaced then (if e.port.parity = 0 then .fieldTop else .fieldBottom) else .frame
                standard := std, stamp := d, lines := if st.interlaced then st.lines / 2 else st.lines
                samples := st.samples } →
        (c.sup.state = .converting ∨ c.sup.state = .holdover ∧ done ∧ ¬ enters →
          e.port.sequence = c.port.sequence + 1 ∧ e.port.publishing = true
          ∧ ∃ u, t = conclude (publishPicture (outputOf k) r u) ∧ u = { advance dt s with chans := u.chans }
            ∧ chan u (otherChan k) = chan s (otherChan k))
        ∧ (c.sup.state = .idle ∨ c.sup.state = .latched → silent)
        ∧ (c.sup.state = .acquiring ∨ c.sup.state = .safe → done → ¬ enters → silent)
        ∧ ∀ q l, done → enters → selectionOf s k = some q → q.origin = .lane l → isEligible s k q = true →
            c.csl.forced = none →
          (entry = .afterRecord → c.sup.state = .acquiring ∨ c.sup.state = .safe → silent)
          ∧ (entry ≠ .afterRecord ∨ c.sup.state = .holdover →
            e.port.sequence = c.port.sequence + 1 ∧ e.port.publishing = true
            ∧ ∃ u v, v = publishPicture (outputOf k) r u
              ∧ t = conclude (if entry = .afterRecord then settle (onConfigured k enterConverting v) else v)
              ∧ (entry = .afterRecord → u = { advance dt s with chans := u.chans })
              ∧ (entry ≠ .afterRecord → ∃ w, w = { advance dt s with chans := w.chans } ∧ (chan w k).sup = e.sup
                ∧ u = { settle w with chans := u.chans }))

/-- A port that is emitting sends its next active line whole between its markers, then BLANK markers; what it sends is the
scanned buffer's line, or the generated picture's; and the records of a line hold it whole, up to 256 samples each, the last
of the picture marked. While the channel is producing and the picture published, each is handed on as it is formed, in
order; once it stops producing, no further record is formed (10/R159, R165, R167, R174, R175). A port of a station in
CONFIG_FAULT falls SILENT at its scan start (10/R177). When a line is sent is the sender's (notes/assumptions/30), and that
neither T_out of a SILENT port holds a time is the model's choice (notes/assumptions/25). -/
def Obligations.LinesEmitted : Prop :=
  (∀ (dt : Nat) (s : State) (k : Chan) (std : StdCode) (d : Time) (c : Channel), c = chan s k →
    c.port.standard = some std → c.port.tOut = some d →
    ∃ t p, exec (.outputLineRecords dt k) s = .next t ∧ p = (chan t k).port
      ∧ (c.port.emittedLines < rawLines std →
          p.emittedLines = c.port.emittedLines + 1
          ∧ p.emitted = markerWords (if c.port.emittedLines = 0 then .pictureStart else .lineStart) c.port.parity
              ++ sampleWords (scanLine c std c.port.emittedLines) ++ markerWords .lineEnd c.port.parity
          ∧ p.emitted.length = 8 + 2 * (standardOf std).samples
          ∧ ∀ (u : State) (own : StationNo) (f : FeedNo) (g : ChanConfig), ownNumber s = some own →
              chanConfig s k = some g → g.outFeed = some f →
              u = { advance dt s with chans := s.chans.modify k fun x => { x with port := { x.port with
                emittedLines := c.port.emittedLines + 1, emitted := p.emitted } } } →
            (c.port.publishing = true → c.sup.state = .converting ∨ c.sup.state = .holdover → s.station = .running →
              t = conclude ((lineRecords own k f c.port.sequence c.port.emittedLines (rawLines std) 8 0
                (scanLine c std c.port.emittedLines)).foldl (fun v r => publishLines (outputOf k) r v) u))
            ∧ (c.port.publishing = false ∨ c.sup.state ≠ .converting ∧ c.sup.state ≠ .holdover → t = conclude u))
      ∧ (rawLines std ≤ c.port.emittedLines →
          p.emittedLines = c.port.emittedLines ∧ p.emitted = markerWords .blank c.port.parity)
      ∧ timebaseOf p = timebaseOf c.port)
  ∧ (∀ (c : Channel) (std : StdCode) (i x : Nat),
      (c.port.source = .black → scanGroup c std i x = ⟨512, 64, 512, 64⟩)
      ∧ (∀ b, c.port.source = .buffer b → (c.port.buffers.get b).rendered = false → scanGroup c std i x = ⟨512, 64, 512, 64⟩)
      ∧ (∀ b, c.port.source = .buffer b → (c.port.buffers.get b).rendered = true →
          scanGroup c std i x = readGroup (c.port.buffers.get b).planes
            (if (standardOf std).interlaced then 2 * i + (c.port.buffers.get b).parity.val else i) x)
      ∧ (∀ (n : Nat) (y cb cr : Sample), c.port.source = .bars → x / ((standardOf std).samples / 8) = n →
          [(721, 512, 512), (646, 176, 567), (525, 625, 176), (450, 289, 231), (335, 735, 793), (260, 399, 848),
            (139, 848, 457), (64, 512, 512)][n]? = some (y, cb, cr) → scanGroup c std i x = ⟨cb, y, cr, y⟩)
      ∧ ∀ v : Nat → Nat → Sample,
          (∀ top n, v top n = BitVec.ofNat 10 (if c.siz.legal then min (max (min (max n 4) 1019) 64) top
            else min (max n 4) 1019)) → c.port.source = .fill →
          scanGroup c std i x = ⟨v 960 c.siz.fillColour.cb, v 940 c.siz.fillColour.y, v 960 c.siz.fillColour.cr,
            v 940 c.siz.fillColour.y⟩)
  ∧ (∀ (own : StationNo) (k : Chan) (feed : FeedNo) (seq : BitVec 8) (line rows : Nat) (gs : List SampleGroup)
      (rs : List LinesRecord), gs.length ≤ 1024 → rs = lineRecords own k feed seq line rows 8 0 gs →
      rs.flatMap (·.groups) = gs
      ∧ ∀ (n : Nat) (r : LinesRecord), rs[n]? = some r → r.first = 256 * n ∧ r.groups ≠ [] ∧ r.groups.length ≤ 128
          ∧ r.line = line ∧ r.sequence = seq ∧ r.origin = own ∧ r.pub = outputOf k ∧ r.feed = feed ∧ (r.last = true ↔ line + 1 = rows ∧ n + 1 = rs.length))
  ∧ ∀ (dt : Nat) (s : State) (k : Chan) (entry : EntryOrder) (d : Time), s.station = .configFault →
      (chan s k).port.standard.isSome → (chan s k).port.tNext = some d → 0 ≤ sdiff (s.now + BitVec.ofNat 48 dt) d →
      ∃ t, exec (.scanStart dt k entry) s = .next t ∧ (chan t k).port.standard = none ∧ (chan t k).port.tOut = none
        ∧ (chan t k).port.tNext = none

/-- A stall, due: counted and marked; a CONVERTING channel enters HOLDOVER for its holdover time, its render abandoned;
any other keeps its state. The supervisor's timers, each due in its state: ACQUIRING times out into SAFE; HOLDOVER
counts a relock and enters SAFE, or LATCHED at the limit, with the ring flushed and nothing selected; in CONVERTING the
relock counter decays (05/R90, 10/R168 to R173). -/
def Obligations.SupervisorEvents : Prop :=
  (∀ (dt : Nat) (s : State) (k : Chan) (g : ChanConfig) (c : Channel) (d now : Time), c = chan s k →
      chanConfig s k = some g → now = s.now + BitVec.ofNat 48 dt → activeState c.sup.state = true → c.int.standard ≠ 0 →
      c.int.stallMark = false → c.int.lastCommitTime = some d →
      0 ≤ sdiff now (shift d (3 * pCommit c.cad.mode c.int.pEst : Nat)) →
      (c.sup.state ≠ .converting →
        exec (.stall dt k) s = .next (conclude { advance dt s with chans := s.chans.set k { c with
          int := { c.int with stallMark := true }, tally := addCount c.tally (chanCtrIx .stall) 1 } }))
      ∧ (c.sup.state = .converting → ∃ e, exec (.stall dt k) s = .next (conclude { advance dt s with
          chans := s.chans.set k e })
        ∧ e.sup = { c.sup with
            state := .holdover, decay := none, holdover := some (shift now (g.holdoverMs * 27000 : Nat)) }
        ∧ e.int.stallMark = true ∧ (∀ r ∈ e.ren.record, r.state = .done) ∧ e.csl = c.csl ∧ e.cad = c.cad
        ∧ timebaseOf e.port = timebaseOf c.port
        ∧ e.tally.get (chanCtrIx .stall) = c.tally.get (chanCtrIx .stall) + 1
        ∧ e.tally.get (chanCtrIx .holdovers) = c.tally.get (chanCtrIx .holdovers) + 1
        ∧ e.flags.get (chanFlagIx .channelHoldover) = true))
  ∧ (∀ (dt : Nat) (s : State) (k : Chan) (g : ChanConfig) (c : Channel) (now d : Time) (n : Nat), c = chan s k →
      chanConfig s k = some g → now = s.now + BitVec.ofNat 48 dt → n = min (c.sup.relock + 1) 15 → 0 ≤ sdiff now d →
      (c.sup.state = .acquiring → c.sup.acquisition = some d →
        exec (.acquisitionTimerExpiry dt k) s = .next (conclude { advance dt s with chans := s.chans.set k { c with
          sup := { c.sup with state := .safe, acquisition := none, holdover := none, decay := none }
          tally := addCount (addCount c.tally (chanCtrIx .acquireTimeout) 1) (chanCtrIx .safeEntries) 1
          flags := (c.flags.set (chanFlagIx .acquireTimeout) true).set (chanFlagIx .channelSafe) true } }))
      ∧ (c.sup.state = .holdover → c.sup.holdover = some d →
        (g.relockLimit = 0 ∨ n ≠ g.relockLimit →
          exec (.holdoverTimerExpiry dt k) s = .next (conclude { advance dt s with chans := s.chans.set k { c with
            sup := { state := .safe, relock := n, acquisition := none, holdover := none, decay := none }
            tally := addCount (addCount c.tally (chanCtrIx .relocks) 1) (chanCtrIx .safeEntries) 1
            flags := c.flags.set (chanFlagIx .channelSafe) true } }))
        ∧ (g.relockLimit ≠ 0 → n = g.relockLimit →
          selectionLaw s →
          ∃ t e, exec (.holdoverTimerExpiry dt k) s = .next t ∧ e = chan t k
            ∧ e.sup = { state := .latched, relock := n, acquisition := none, holdover := none, decay := none }
            ∧ e.csl.selection = none ∧ e.csl.forced = c.csl.forced ∧ e.int.aim = none
            ∧ (∀ i, (slotOf e i).state = .free) ∧ e.int.committed = [] ∧ e.int.history = [] ∧ e.meu.job = none
            ∧ e.port.lastGood = c.port.lastGood
            ∧ e.tally.get (chanCtrIx .latches) = c.tally.get (chanCtrIx .latches) + 1
            ∧ e.tally.get (chanCtrIx .relocks) = c.tally.get (chanCtrIx .relocks) + 1
            ∧ e.tally.get (chanCtrIx .flushes) = c.tally.get (chanCtrIx .flushes) + 1
            ∧ e.flags.get (chanFlagIx .channelLatched) = true))
      ∧ (c.sup.state = .converting → c.sup.decay = some d →
        exec (.decayTimerExpiry dt k) s = .next (conclude { advance dt s with chans := s.chans.set k { c with
          sup := { c.sup with relock := c.sup.relock - 1, decay := some (shift now 1620000000) } } })))

/-! ## Reference input (10/10.2) and ingest port (11) -/

/-- A reference pulse, by the state it finds: it begins to qualify, qualifies on within the tolerance and makes the
input VALID at the fourth, is accepted near the expected time, or is a stray; and each port of the reference's frame
period with a frame start measures its error, in half a frame about the grid, from a pulse accepted or that made the
input VALID (10/R160 to R163). That a stray is a pulse taken, and that the good count stays when the input becomes
VALID, are the model's readings (notes/assumptions/23, 42). -/
def Obligations.ReferencePulses : Prop :=
  ∀ (dt : Nat) (s : State) (r taken : Reference) (now : Time) (period : Nat), r = s.ref → r.standard ≠ 0 →
    now = s.now + BitVec.ofNat 48 dt → period = framePeriod r.standard →
    taken = { r with tally := addCount r.tally (refCtrIx .pulses) 1 } →
    ∃ t, exec (.referencePulse dt) s = .next t
      ∧ (r.state = .absent → t.ref = { taken with state := .qualifying, good := some 1, lastPulse := some now })
      ∧ (∀ p n, r.state = .qualifying → r.lastPulse = some p → r.good = some n →
          (period / 1000 < (sdiff now p - period).natAbs → t.ref = { taken with good := some 1, lastPulse := some now })
          ∧ ((sdiff now p - period).natAbs ≤ period / 1000 →
            (n < 3 → t.ref = { taken with good := some (n + 1), lastPulse := some now, measured := some (sdiff now p) })
            ∧ (3 ≤ n → t.ref = { taken with
                state := .valid, good := some (n + 1), lastPulse := some now, measured := some (sdiff now p), miss := some 0
                expected := some (shift now period) })))
      ∧ (∀ e p m, r.state = .valid → r.expected = some e → r.lastPulse = some p → r.miss = some m →
          ((sdiff now e).natAbs ≤ period / 1000 → t.ref = { taken with
              lastPulse := some now, miss := some 0, expected := some (shift now period)
              measured := if m = 0 then some (sdiff now p) else r.measured })
          ∧ (period / 1000 < (sdiff now e).natAbs →
              t.ref = { taken with tally := addCount taken.tally (refCtrIx .stray) 1 }
              ∧ ∀ k, timebaseOf (chan t k).port = timebaseOf (chan s k).port))
      ∧ ∀ k std, (chan s k).port.standard = some std →
          (r.state = .qualifying ∧ (∃ p, r.lastPulse = some p ∧ (sdiff now p - period).natAbs ≤ period / 1000)
              ∧ (∃ n, r.good = some n ∧ 3 ≤ n)
            ∨ r.state = .valid ∧ ∃ e, r.expected = some e ∧ (sdiff now e).natAbs ≤ period / 1000) →
          (∀ f, framePeriod std = period → (chan s k).port.lastFrame = some f →
            ∃ e j : Int, (chan t k).port.pendingError = some e ∧ -(period : Int) < 2 * e ∧ 2 * e ≤ period
              ∧ e = sdiff now (shift f (period + (chan s k).port.correction)) + j * period)
          ∧ (framePeriod std ≠ period ∨ (chan s k).port.lastFrame = none →
            (chan t k).port.pendingError = (chan s k).port.pendingError)
          ∧ (framePeriod std ≠ period → r.state = .qualifying → (chan t k).port.mismatchFlag = true)
          ∧ (chan t k).port.lock = (chan s k).port.lock

/-- With reference standard 0 a pulse is not taken. Three periods without a pulse end QUALIFYING; a window that ends
without one is a miss, and the third in a row loses the reference, flagged, with every port back in FREE_RUN and its
pending error dropped, a correction already decided staying (10/R160 to R162). -/
def Obligations.ReferenceTimeouts : Prop :=
  ∀ (dt : Nat) (s : State) (r : Reference) (now t : Time), r = s.ref → now = s.now + BitVec.ofNat 48 dt →
    (r.standard = 0 → exec (.referencePulse dt) s = .next (conclude (advance dt s)))
    ∧ (r.state = .qualifying → r.lastPulse = some t → 0 ≤ sdiff now (shift t (3 * framePeriod r.standard : Nat)) →
      exec (.refQualifyTimeout dt) s = .next (conclude { advance dt s with ref := { r with
        state := .absent, lastPulse := none, good := none, expected := none, miss := none, measured := none } }))
    ∧ ∀ n, r.state = .valid → r.expected = some t → r.miss = some n →
        0 ≤ sdiff now (shift t (framePeriod r.standard / 1000 : Nat)) →
      (n < 2 → exec (.refMissed dt) s = .next (conclude { advance dt s with ref := { r with
        miss := some (n + 1), expected := some (shift t (framePeriod r.standard))
        tally := addCount r.tally (refCtrIx .missed) 1 } }))
      ∧ (2 ≤ n → ∃ u, exec (.refMissed dt) s = .next (conclude u)
        ∧ u = { advance dt s with chans := u.chans, ref := { r with
          state := .absent, lastPulse := none, good := none, expected := none, miss := none, measured := none
          lostFlag := true, tally := addCount r.tally (refCtrIx .missed) 1 } }
        ∧ ∀ k, chan u k = { chan s k with port := { (chan s k).port with lock := .freeRun, pendingError := none } })

/-- The word stream: a 1023 directly followed by a 0 begins a marker, whose flag and check word come next; any other 1023
is a sample word, and the word after it is read afresh. Markers but picture-start: one that is not taken is counted and closes
nothing; a line starts, its index the count of the raw picture's lines; a line ends, whole or cut off, and its sample count
is the picture's or marks it irregular. While a picture is formed, a line that closes with samples no record has carried
hands them on in a last, short record, and the close of the last line ends the forming, with last-of-picture where a record
is formed (11/R179 to R181, R187). That a marker's words and those of an incomplete group before it arrive in one command is
the model's form (notes/assumptions/28). -/
def Obligations.IngestMarkers : Prop :=
  (∀ (dt : Nat) (tail : List Sample) (f check : Sample) (s : State),
      exec (.ingestMarker dt tail f check) s
        = .next (conclude ((tail ++ [1023, 0, f, check]).foldl readWord (advance dt s))))
  ∧ (∀ (s : State) (w : Sample) (g : Ingest), g = s.ing →
      (g.reader = .idle → (w ≠ 1023 → readWord s w = sampleWord w s)
        ∧ (w = 1023 → readWord s w = { s with ing := { g with reader := .first s.now } }))
      ∧ (∀ t, g.reader = .first t → (w = 0 → readWord s w = { s with ing := { g with reader := .zero t } })
        ∧ (w ≠ 0 → ∀ u, u = sampleWord 1023 s → readWord s w = readWord { u with ing := { u.ing with reader := .idle } } w))
      ∧ (∀ t, g.reader = .zero t → readWord s w = { s with ing := { g with reader := .flag t w } })
      ∧ ∀ t f, g.reader = .flag t f → (w ≠ 1023 - f ∨ (∀ c ∈ [540, 556, 572, 588, 604, 620, 636, 652], f.toNat ≠ c)) →
        readWord s w = { s with ing := { g with
          reader := .idle, tally := addCount g.tally (ingestCtrIx .markerError) 1 } })
  ∧ ∀ (dt : Nat) (tail : List Sample) (f check : Sample) (s : State) (g : Ingest) (p : Parity)
      (closes : OpenLine → State → Bool → Prop), g = s.ing →
    g.reader = .idle → (∀ w ∈ tail, w ≠ 1023) → (∀ l, g.openLine = some l → (l.begun ++ tail).length ≤ 3) →
    (∀ l y forming, closes l y forming ↔ ∃ n, n = min (2 * l.groups.length) (standardOf g.locked).samples
      ∧ ((g.forming = false ∨ rawLines g.locked ≤ l.index) ∧ y = advance dt s ∧ forming = g.forming
        ∨ g.forming = true ∧ l.index < rawLines g.locked ∧ n ≤ l.carried ∧ y = advance dt s
          ∧ (forming = false ↔ l.index + 1 = rawLines g.locked)
        ∨ g.forming = true ∧ l.index < rawLines g.locked ∧ l.carried < n
          ∧ (forming = false ↔ l.index + 1 = rawLines g.locked)
          ∧ ∃ own, ownNumber s = some own ∧ y = publishLines 0
            { origin := own, pub := 0, feed := (s.config.bind (·.ingestFeed)).getD 0, last := !forming
              sequence := g.sequence, line := l.index, first := l.carried
              groups := ((l.groups.take (n / 2)).drop (l.carried / 2)).map clampGroup }
            { advance dt s with ing := { g with
              openLine := some { l with begun := l.begun ++ tail, carried := n }, forming } })) →
    (check ≠ 1023 - f ∨ (∀ c ∈ [540, 556, 572, 588, 604, 620, 636, 652], f.toNat ≠ c) →
      exec (.ingestMarker dt tail f check) s = .next (conclude { advance dt s with ing := { g with
        openLine := g.openLine.map fun l => { l with begun := l.begun ++ tail }
        tally := addCount g.tally (ingestCtrIx .markerError) 1 } }))
    ∧ (check = 1023 - f → f.toNat = 540 + 64 * p.val →
      (g.raw = none → exec (.ingestMarker dt tail f check) s = .next (conclude { advance dt s with ing := { g with
        openLine := g.openLine.map fun l => { l with begun := l.begun ++ tail } } }))
      ∧ ∀ r, g.raw = some r →
        (g.openLine = none → exec (.ingestMarker dt tail f check) s = .next (conclude { advance dt s with ing := { g with
          raw := some { r with lines := r.lines + 1, irregular := r.irregular || r.parity ≠ p }
          openLine := some ⟨r.lines, [], [], 0⟩ } }))
        ∧ ∀ l y forming, g.openLine = some l → closes l y forming →
          exec (.ingestMarker dt tail f check) s = .next (conclude { y with ing := { g with
            raw := some { r with
              lines := r.lines + 1, irregular := true, samples := some (r.samples.getD (2 * l.groups.length)) }
            openLine := some ⟨r.lines, [], [], 0⟩, forming } }))
    ∧ (check = 1023 - f → (f.toNat = 572 + 64 * p.val ∨ f.toNat = 588 + 64 * p.val) →
      (g.openLine = none → exec (.ingestMarker dt tail f check) s = .next (conclude (advance dt s)))
      ∧ ∀ l r y forming, g.openLine = some l → g.raw = some r → closes l y forming →
        exec (.ingestMarker dt tail f check) s = .next (conclude { y with ing := { g with
          openLine := none, forming
          raw := some { r with
            samples := some (r.samples.getD (2 * l.groups.length))
            irregular := r.irregular || f.toNat = 588 + 64 * p.val || l.begun ++ tail ≠ []
              || r.samples.any (· ≠ 2 * l.groups.length) } } }))

/-- A picture-start marker: a line still open is closed first as cut off, which marks the raw picture irregular, with the
last record of the picture being formed where it is due; the raw picture that ends is measured and matched to the code of
its scan, lines and samples whose period is nearest, within a 200th; the port comes to MEASURING, counts a candidate, locks,
stays locked or loses its lock by what is matched; and where it is LOCKED and the station RUNNING it begins to form the new
picture, and hands on its PICTURE record (11/R180, R182 to R188). That the lock leaves no candidate is the model's choice
(notes/assumptions/60), and what settles between the close and the new record its reading (notes/assumptions/16, 44, 56).
-/
def Obligations.IngestPictureStarts : Prop :=
  (∀ (m : Measurement) (irregular : Bool) (fits : StdCode → Prop),
    (∀ c, fits c ↔ irregular = false ∧ c ≠ 0
        ∧ m.scan = some (if (standardOf c).interlaced then .interlaced else .progressive)
        ∧ m.lines = rawLines c ∧ m.samples = some (standardOf c).samples
        ∧ (m.period - (standardOf c).rawPeriod).natAbs ≤ (standardOf c).rawPeriod / 200) →
    (∀ c, matchCode m irregular = some c → fits c ∧ ∀ d, fits d →
        (m.period - (standardOf c).rawPeriod).natAbs ≤ (m.period - (standardOf d).rawPeriod).natAbs
        ∧ ((m.period - (standardOf c).rawPeriod).natAbs = (m.period - (standardOf d).rawPeriod).natAbs → c ≤ d))
    ∧ (matchCode m irregular = none → ∀ c, ¬ fits c))
  ∧ ∀ (dt : Nat) (tail : List Sample) (f : Sample) (s y : State) (g : Ingest) (p : Parity) (now : Time) (forming : Bool),
      g = s.ing → now = s.now + BitVec.ofNat 48 dt → f.toNat = 556 + 64 * p.val → g.reader = .idle →
      (∀ w ∈ tail, w ≠ 1023) → (∀ l, g.openLine = some l → (l.begun ++ tail).length ≤ 3) →
      (g.openLine = none ∧ y = advance dt s ∧ forming = g.forming
        ∨ ∃ l n, g.openLine = some l ∧ n = min (2 * l.groups.length) (standardOf g.locked).samples
          ∧ ((g.forming = false ∨ rawLines g.locked ≤ l.index) ∧ y = advance dt s ∧ forming = g.forming
            ∨ g.forming = true ∧ l.index < rawLines g.locked ∧ n ≤ l.carried ∧ y = advance dt s
              ∧ (forming = false ↔ l.index + 1 = rawLines g.locked)
            ∨ g.forming = true ∧ l.index < rawLines g.locked ∧ l.carried < n
              ∧ (forming = false ↔ l.index + 1 = rawLines g.locked)
              ∧ ∃ own, ownNumber s = some own ∧ y = publishLines 0
                { origin := own, pub := 0, feed := (s.config.bind (·.ingestFeed)).getD 0, last := !forming
                  sequence := g.sequence, line := l.index, first := l.carried
                  groups := ((l.groups.take (n / 2)).drop (l.carried / 2)).map clampGroup }
                { advance dt s with ing := { g with
                  openLine := some { l with begun := l.begun ++ tail, carried := n }, forming } })) →
    ∃ t n u, exec (.ingestMarker dt tail f (1023 - f)) s = .next t ∧ n = t.ing
      ∧ (∃ m, u = { settle { y with ing := m } with ing := n }
          ∧ m = { n with forming := forming, sequence := g.sequence, tally := m.tally })
      ∧ (n.forming = false → t = conclude u)
      ∧ (∀ (own : StationNo) (st : Standard), n.forming = true → ownNumber s = some own → st = standardOf n.locked →
          t = conclude (publishPicture 0
            { origin := own, pub := 0, feed := (s.config.bind (·.ingestFeed)).getD 0, sequence := n.sequence, generation := 0
              kind := if st.interlaced then (if p = 0 then .fieldTop else .fieldBottom) else .frame
              standard := n.locked, stamp := now, lines := if st.interlaced then st.lines / 2 else st.lines
              samples := st.samples } u))
      ∧ n.raw = some ⟨p, now, 1, none, false⟩ ∧ n.openLine = some ⟨0, [], [], 0⟩
      ∧ (n.forming = true ↔ n.state = .locked ∧ s.station = .running ∧ s.config.isSome)
      ∧ n.sequence = (if n.forming then g.sequence + 1 else g.sequence)
      ∧ n.tally.get (ingestCtrIx .picturesIngested)
          = g.tally.get (ingestCtrIx .picturesIngested) + (if n.forming then 1 else 0)
      ∧ (g.state = .noSignal → n.state = .measuring ∧ n.candidate = none ∧ n.matchCount = 0 ∧ n.previousParity = none
          ∧ n.deadline = some (shift now 1689187))
      ∧ ∀ r m code, g.raw = some r → m.lines = r.lines → m.period = sdiff now r.start →
          (g.openLine = none → m.samples = r.samples) →
          (∀ l, g.openLine = some l → m.samples = some (r.samples.getD (2 * l.groups.length))) →
          m.scan = (if r.parity = 1 then (if g.previousParity = some 1 then none else some .interlaced)
            else match g.previousParity with
              | none => none
              | some q => some (if q = 1 then .interlaced else .progressive)) →
          code = matchCode m (r.irregular || g.openLine.isSome) →
        (g.state ≠ .noSignal → n.previousParity = some r.parity ∧ n.lastMeasure = some m)
        ∧ (g.state = .measuring → (code = none ∨ code ≠ g.candidate) →
          n.state = .measuring ∧ n.locked = g.locked ∧ n.candidate = code ∧ n.matchCount = (if code = none then 0 else 1)
          ∧ n.deadline = some (shift now 1689187) ∧ n.changeFlag = g.changeFlag)
        ∧ (∀ c, g.state = .measuring → code = some c → g.candidate = some c →
          n.state = .locked ∧ n.locked = c ∧ n.candidate = none ∧ n.changeFlag = true
          ∧ n.deadline = some (shift now (3 * (standardOf c).rawPeriod / 2 : Nat))
          ∧ n.tally.get (ingestCtrIx .locks) = g.tally.get (ingestCtrIx .locks) + 1)
        ∧ (g.state = .locked → code = some g.locked →
          n.state = .locked ∧ n.locked = g.locked ∧ n.changeFlag = g.changeFlag
          ∧ n.deadline = some (shift now (3 * (standardOf g.locked).rawPeriod / 2 : Nat)))
        ∧ (g.state = .locked → code ≠ some g.locked →
          n.state = .measuring ∧ n.locked = 0 ∧ n.candidate = code ∧ n.matchCount = (if code = none then 0 else 1)
          ∧ n.changeFlag = true ∧ n.deadline = some (shift now 1689187)
          ∧ n.tally.get (ingestCtrIx .mismatch) = g.tally.get (ingestCtrIx .mismatch) + 1)

/-- A group of sample words is added to the open line and discarded where none is open, each word in the order received;
while a picture is formed, a record is handed on when 256 samples are gathered or the line is full, and the last
line's last record ends the forming (11/R179, R181, R187). The ingest deadline: MEASURING ends without a flag, LOCKED
with one and a count, every field of the measurement cleared (11/R184, R185). That words held over from one command
are read with those of the next, and that no record of the line that the deadline cuts off is handed on, are the
model's form and reading (notes/assumptions/28). -/
def Obligations.IngestSamplesAndDeadline : Prop :=
  (∀ (dt : Nat) (s : State) (a b c d : Sample), exec (.ingestSampleGroup dt a b c d) s
      = .next (conclude (readWord (readWord (readWord (readWord (advance dt s) a) b) c) d)))
  ∧ (∀ (s : State) (w : Sample) (g : Ingest), g = s.ing → (g.openLine = none → sampleWord w s = s)
      ∧ ∀ l, g.openLine = some l →
        (l.begun.length < 3 → sampleWord w s = { s with ing := { g with
          openLine := some { l with begun := l.begun ++ [w] } } })
        ∧ ∀ a b c, l.begun = [a, b, c] → g.forming = false → sampleWord w s = { s with ing := { g with
            openLine := some { l with groups := l.groups ++ [⟨a, b, c, w⟩], begun := [] } } })
  ∧ ∀ (dt : Nat) (s : State) (g : Ingest) (q : SampleGroup), g = s.ing →
    (g.reader = .idle → q.y1 ≠ 1023 → ¬ (q.cb = 1023 ∧ q.y0 = 0) → ¬ (q.y0 = 1023 ∧ q.cr = 0) →
      ¬ (q.cr = 1023 ∧ q.y1 = 0) →
    (g.openLine = none → exec (.ingestSampleGroup dt q.cb q.y0 q.cr q.y1) s = .next (conclude (advance dt s)))
    ∧ (∀ l n, g.openLine = some l → l.begun = [] → n = min (2 * (l.groups.length + 1)) (standardOf g.locked).samples →
      (g.forming = false ∨ rawLines g.locked ≤ l.index ∨ n ≤ l.carried
          ∨ n < l.carried + 256 ∧ n ≠ (standardOf g.locked).samples →
        exec (.ingestSampleGroup dt q.cb q.y0 q.cr q.y1) s = .next (conclude { advance dt s with
          ing := { g with openLine := some { l with groups := l.groups ++ [q] } } }))
      ∧ ∀ (own : StationNo) (ends : Bool), ownNumber s = some own → g.forming = true → l.index < rawLines g.locked →
          l.carried < n → (l.carried + 256 ≤ n ∨ n = (standardOf g.locked).samples) →
          (ends = true ↔ n = (standardOf g.locked).samples ∧ l.index + 1 = rawLines g.locked) →
        exec (.ingestSampleGroup dt q.cb q.y0 q.cr q.y1) s = .next (conclude (publishLines 0
          { origin := own, pub := 0, feed := (s.config.bind (·.ingestFeed)).getD 0, last := ends, sequence := g.sequence
            line := l.index, first := l.carried
            groups := (((l.groups ++ [q]).take (n / 2)).drop (l.carried / 2)).map clampGroup }
          { advance dt s with ing := { g with
            openLine := some { l with groups := l.groups ++ [q], carried := n }, forming := !ends } }))))
    ∧ ∀ d, g.deadline = some d → 0 ≤ sdiff (s.now + BitVec.ofNat 48 dt) d →
      (g.state = .measuring → exec (.ingestDeadline dt) s = .next (conclude { advance dt s with ing := { g with
        state := .noSignal, raw := none, openLine := none, candidate := none, matchCount := 0, previousParity := none
        deadline := none, forming := false } }))
      ∧ (g.state = .locked → exec (.ingestDeadline dt) s = .next (conclude { advance dt s with ing := { g with
        state := .noSignal, raw := none, openLine := none, candidate := none, matchCount := 0, previousParity := none
        deadline := none, forming := false, locked := 0, changeFlag := true
        tally := addCount g.tally (ingestCtrIx .signalLost) 1 } }))
end

