-- ==== Sys2Proof/Laws/Bank.lean ====
section
/-! SUPPORT. The laws of a bank: reading after writing, and equality entry by entry. -/

namespace Sys2Proof.Bank
variable {n : Nat} {α β : Type}

@[simp] theorem get_set_same (b : Bank n α) (i : Fin n) (a : α) : (b.set i a).get i = a := by
  simp [get, set]

theorem get_set_ne (b : Bank n α) {i j : Fin n} (h : j ≠ i) (a : α) : (b.set i a).get j = b.get j := by
  have : i.val ≠ j.val := fun e => h (Fin.ext e.symm)
  simp [get, set, this]

theorem get_set (b : Bank n α) (i j : Fin n) (a : α) : (b.set i a).get j = if j = i then a else b.get j := by
  by_cases h : j = i
  · subst h; simp
  · simp [h, get_set_ne b h a]

@[simp] theorem get_modify_same (b : Bank n α) (i : Fin n) (f : α → α) : (b.modify i f).get i = f (b.get i) := by
  simp [modify]

theorem get_modify_ne (b : Bank n α) {i j : Fin n} (h : j ≠ i) (f : α → α) : (b.modify i f).get j = b.get j := by
  simp [modify, get_set_ne b h]

theorem get_modify (b : Bank n α) (i j : Fin n) (f : α → α) :
    (b.modify i f).get j = if j = i then f (b.get i) else b.get j := by
  simp [modify, get_set]

@[simp] theorem get_fill (a : α) (i : Fin n) : (fill n a).get i = a := by simp [get, fill]

@[simp] theorem get_map (f : α → β) (b : Bank n α) (i : Fin n) : (b.map f).get i = f (b.get i) := by simp [get, map]

@[simp] theorem get_ofFn (f : Fin n → α) (i : Fin n) : (ofFn f).get i = f i := by simp [get, ofFn]

theorem ext_get {b c : Bank n α} (h : ∀ i, b.get i = c.get i) : b = c := by
  cases b with
  | mk xs hx =>
    cases c with
    | mk ys hy =>
      have : xs = ys := by
        apply List.ext_getElem (by simp [hx, hy])
        intro k h1 h2
        exact h ⟨k, by omega⟩
      subst this
      rfl

theorem mem_items_iff {b : Bank n α} {a : α} : a ∈ b.items ↔ ∃ i, b.get i = a := by
  constructor
  · intro h
    obtain ⟨k, hk, e⟩ := List.getElem_of_mem h
    exact ⟨⟨k, by rw [← b.size]; exact hk⟩, e⟩
  · rintro ⟨i, rfl⟩
    exact List.getElem_mem _

@[simp] theorem set_get_self (b : Bank n α) (i : Fin n) : b.set i (b.get i) = b := by
  apply ext_get
  intro j
  rw [get_set]
  split
  · next e => rw [e]
  · rfl

end Sys2Proof.Bank
end

