-- ==== Sys2Proof/Laws/Cells.lean ====
section
/-! SUPPORT. Sparse planes: what a read gives after a write, and that every write keeps the canonical form. -/

namespace Sys2Proof.Machine

/-! ## Positions -/

theorem cellsWf_cons {a : Nat} {v : Sample} {rest : List (Nat × Sample)} :
    cellsWf ((a, v) :: rest) = true ↔ v ≠ 0 ∧ (∀ p ∈ rest, a < p.1) ∧ cellsWf rest = true := by
  induction rest generalizing a v with
  | nil => simp [cellsWf]
  | cons q rest ih =>
    obtain ⟨b, w⟩ := q
    simp only [cellsWf, Bool.and_eq_true, decide_eq_true_eq, ne_eq]
    constructor
    · rintro ⟨⟨hv, hab⟩, hw⟩
      refine ⟨hv, ?_, hw⟩
      intro p hp
      rcases List.mem_cons.1 hp with rfl | hp
      · exact hab
      · exact Nat.lt_trans hab ((ih.1 hw).2.1 p hp)
    · rintro ⟨hv, hall, hw⟩
      exact ⟨⟨hv, hall _ (List.mem_cons_self ..)⟩, hw⟩

/-- A position below every listed one is unlisted. -/
theorem readCells_below {cs : List (Nat × Sample)} {k : Nat} (h : ∀ p ∈ cs, k < p.1) : readCells cs k = 0 := by
  induction cs with
  | nil => rfl
  | cons q rest ih =>
    obtain ⟨a, v⟩ := q
    have hk : k ≠ a := Nat.ne_of_lt (h _ (List.mem_cons_self ..))
    rw [readCells, if_neg hk]
    exact ih fun p hp => h p (List.mem_cons_of_mem _ hp)

/-- The positions of a list after a write are those it had, and the one written. -/
theorem mem_writeCells {cs : List (Nat × Sample)} {k : Nat} {v : Sample} {p : Nat × Sample}
    (h : p ∈ writeCells cs k v) : p ∈ cs ∨ p.1 = k := by
  induction cs with
  | nil =>
    simp only [writeCells] at h
    split at h
    · cases h
    · rcases List.mem_singleton.1 h with rfl
      exact .inr rfl
  | cons q rest ih =>
    obtain ⟨a, w⟩ := q
    simp only [writeCells] at h
    split at h
    · split at h
      · exact .inl h
      · rcases List.mem_cons.1 h with rfl | h
        · exact .inr rfl
        · exact .inl h
    · split at h
      · split at h
        · exact .inl (List.mem_cons_of_mem _ h)
        · rcases List.mem_cons.1 h with rfl | h
          · exact .inr rfl
          · exact .inl (List.mem_cons_of_mem _ h)
      · rcases List.mem_cons.1 h with rfl | h
        · exact .inl (List.mem_cons_self ..)
        · rcases ih h with h | h
          · exact .inl (List.mem_cons_of_mem _ h)
          · exact .inr h

/-- A write keeps the canonical form. -/
theorem writeCells_wf {cs : List (Nat × Sample)} (h : cellsWf cs = true) (k : Nat) (v : Sample) :
    cellsWf (writeCells cs k v) = true := by
  induction cs with
  | nil =>
    simp only [writeCells]
    split
    · rfl
    · rename_i hv
      exact cellsWf_cons.2 ⟨hv, by simp, rfl⟩
  | cons q rest ih =>
    obtain ⟨a, w⟩ := q
    obtain ⟨hw, hall, hr⟩ := cellsWf_cons.1 h
    simp only [writeCells]
    split
    · rename_i hka
      split
      · exact h
      · rename_i hv
        refine cellsWf_cons.2 ⟨hv, ?_, h⟩
        intro p hp
        rcases List.mem_cons.1 hp with rfl | hp
        · exact hka
        · exact Nat.lt_trans hka (hall p hp)
    · split
      · split
        · exact hr
        · rename_i hka hv
          subst hka
          exact cellsWf_cons.2 ⟨hv, hall, hr⟩
      · rename_i h1 h2
        refine cellsWf_cons.2 ⟨hw, ?_, ih hr⟩
        intro p hp
        rcases mem_writeCells hp with hp | hp
        · exact hall p hp
        · rw [hp]
          omega

/-- What a read gives after a write: the value written, or what was read there before. -/
theorem readCells_writeCells {cs : List (Nat × Sample)} (h : cellsWf cs = true) (k j : Nat) (v : Sample) :
    readCells (writeCells cs k v) j = if j = k then v else readCells cs j := by
  induction cs with
  | nil =>
    simp only [writeCells]
    split
    · rename_i hv
      subst hv
      simp [readCells]
    · simp [readCells]
  | cons q rest ih =>
    obtain ⟨a, w⟩ := q
    obtain ⟨hw, hall, hr⟩ := cellsWf_cons.1 h
    simp only [writeCells]
    split
    · rename_i hka
      split
      · rename_i hv
        subst hv
        split
        · rename_i hj
          subst hj
          exact readCells_below fun p hp => by
            rcases List.mem_cons.1 hp with rfl | hp
            · exact hka
            · exact Nat.lt_trans hka (hall p hp)
        · rfl
      · rfl
    · split
      · rename_i hka
        subst hka
        split
        · rename_i hv
          subst hv
          by_cases hj : j = k
          · subst hj
            rw [if_pos rfl]
            exact readCells_below hall
          · rw [if_neg hj, readCells, if_neg hj]
        · by_cases hj : j = k <;> simp [readCells, hj]
      · rename_i h1 h2
        have hka : k ≠ a := h2
        simp only [readCells]
        by_cases hj : j = a
        · subst hj
          simp [hka.symm]
        · rw [if_neg hj, if_neg hj]
          exact ih hr

/-! ## Planes -/

@[simp] theorem planeWf_empty : planeWf .empty = true := rfl
@[simp] theorem planesWf_empty : planesWf .empty = true := rfl
@[simp] theorem readAt_empty (line pos : Nat) : readAt .empty line pos = 0 := rfl

theorem writeAt_wf {p : Plane} (h : planeWf p = true) (line pos : Nat) (v : Sample) : planeWf (writeAt p line pos v) = true :=
  writeCells_wf h ..

/-- Positions of a line of up to 2,048 samples stand in places of their own. -/
theorem place_inj {l m x y : Nat} (hx : x < 2048) (hy : y < 2048) : place l x = place m y ↔ l = m ∧ x = y := by
  unfold place
  omega

theorem readAt_writeAt {p : Plane} (h : planeWf p = true) {l m x y : Nat} (hx : x < 2048) (hy : y < 2048) (v : Sample) :
    readAt (writeAt p l x v) m y = if m = l ∧ y = x then v else readAt p m y := by
  unfold readAt writeAt
  rw [readCells_writeCells h]
  simp only [place_inj hy hx]

theorem planesWf_iff {p : Planes} :
    planesWf p = true ↔ planeWf p.y = true ∧ planeWf p.cb = true ∧ planeWf p.cr = true := by
  simp [planesWf, and_assoc]

theorem writeGroup_wf {p : Planes} (h : planesWf p = true) (line pos : Nat) (g : SampleGroup) :
    planesWf (writeGroup p line pos g) = true := by
  obtain ⟨hy, hb, hr⟩ := planesWf_iff.1 h
  exact planesWf_iff.2 ⟨writeAt_wf (writeAt_wf hy ..) .., writeAt_wf hb .., writeAt_wf hr ..⟩

/-- A group read after a group is written, both at even positions: that group, or what stood there before. -/
theorem readGroup_writeGroup {p : Planes} (h : planesWf p = true) {l m x y : Nat} (hx : x < 2048) (hy : y < 2048)
    (ex : x % 2 = 0) (ey : y % 2 = 0) (g : SampleGroup) :
    readGroup (writeGroup p l x g) m y = if m = l ∧ y = x then g else readGroup p m y := by
  obtain ⟨wy, wb, wr⟩ := planesWf_iff.1 h
  have h1 : planeWf (writeAt p.y l x g.y0) = true := writeAt_wf wy ..
  have n1 : ¬ (y = x + 1) := by omega
  have n2 : ¬ (y + 1 = x) := by omega
  simp only [readGroup, writeGroup, readAt_writeAt wb hx hy, readAt_writeAt wr hx hy,
    readAt_writeAt h1 (show x + 1 < 2048 by omega) hy, readAt_writeAt h1 (show x + 1 < 2048 by omega) (show y + 1 < 2048 by omega),
    readAt_writeAt wy hx hy, readAt_writeAt wy hx (show y + 1 < 2048 by omega), n1, n2, and_false, if_false,
    Nat.add_right_cancel_iff]
  by_cases c : m = l ∧ y = x <;> simp [c]

end Sys2Proof.Machine
end

