-- ==== Sys2Proof/Laws/State.lean ====
section
/-! SUPPORT. One lemma per field of the state for each of its updates, so that no proof unfolds a record update. -/

namespace Sys2Proof.Machine

@[simp] theorem advance_pending (dt : Nat) (s : State) : (advance dt s).pending = s.pending := rfl
@[simp] theorem advance_epoch (dt : Nat) (s : State) : (advance dt s).epoch = s.epoch := rfl
@[simp] theorem advance_station (dt : Nat) (s : State) : (advance dt s).station = s.station := rfl
@[simp] theorem advance_config (dt : Nat) (s : State) : (advance dt s).config = s.config := rfl
@[simp] theorem advance_clampCount (dt : Nat) (s : State) : (advance dt s).clampCount = s.clampCount := rfl
@[simp] theorem advance_eventMask (dt : Nat) (s : State) : (advance dt s).eventMask = s.eventMask := rfl
@[simp] theorem advance_lanes (dt : Nat) (s : State) : (advance dt s).lanes = s.lanes := rfl
@[simp] theorem advance_tx (dt : Nat) (s : State) : (advance dt s).tx = s.tx := rfl
@[simp] theorem advance_pub (dt : Nat) (s : State) : (advance dt s).pub = s.pub := rfl
@[simp] theorem advance_ing (dt : Nat) (s : State) : (advance dt s).ing = s.ing := rfl
@[simp] theorem advance_ref (dt : Nat) (s : State) : (advance dt s).ref = s.ref := rfl
@[simp] theorem advance_chans (dt : Nat) (s : State) : (advance dt s).chans = s.chans := rfl
@[simp] theorem advance_mgp (dt : Nat) (s : State) : (advance dt s).mgp = s.mgp := rfl
@[simp] theorem advance_tally (dt : Nat) (s : State) : (advance dt s).tally = s.tally := rfl
@[simp] theorem advance_flags (dt : Nat) (s : State) : (advance dt s).flags = s.flags := rfl

@[simp] theorem onChan_pending (k : Chan) (f : Channel → Channel) (s : State) : (onChan k f s).pending = s.pending := rfl
@[simp] theorem onChan_now (k : Chan) (f : Channel → Channel) (s : State) : (onChan k f s).now = s.now := rfl
@[simp] theorem onChan_epoch (k : Chan) (f : Channel → Channel) (s : State) : (onChan k f s).epoch = s.epoch := rfl
@[simp] theorem onChan_station (k : Chan) (f : Channel → Channel) (s : State) : (onChan k f s).station = s.station := rfl
@[simp] theorem onChan_config (k : Chan) (f : Channel → Channel) (s : State) : (onChan k f s).config = s.config := rfl
@[simp] theorem onChan_clampCount (k : Chan) (f : Channel → Channel) (s : State) : (onChan k f s).clampCount = s.clampCount := rfl
@[simp] theorem onChan_eventMask (k : Chan) (f : Channel → Channel) (s : State) : (onChan k f s).eventMask = s.eventMask := rfl
@[simp] theorem onChan_lanes (k : Chan) (f : Channel → Channel) (s : State) : (onChan k f s).lanes = s.lanes := rfl
@[simp] theorem onChan_tx (k : Chan) (f : Channel → Channel) (s : State) : (onChan k f s).tx = s.tx := rfl
@[simp] theorem onChan_pub (k : Chan) (f : Channel → Channel) (s : State) : (onChan k f s).pub = s.pub := rfl
@[simp] theorem onChan_ing (k : Chan) (f : Channel → Channel) (s : State) : (onChan k f s).ing = s.ing := rfl
@[simp] theorem onChan_ref (k : Chan) (f : Channel → Channel) (s : State) : (onChan k f s).ref = s.ref := rfl
@[simp] theorem onChan_mgp (k : Chan) (f : Channel → Channel) (s : State) : (onChan k f s).mgp = s.mgp := rfl
@[simp] theorem onChan_tally (k : Chan) (f : Channel → Channel) (s : State) : (onChan k f s).tally = s.tally := rfl
@[simp] theorem onChan_flags (k : Chan) (f : Channel → Channel) (s : State) : (onChan k f s).flags = s.flags := rfl

@[simp] theorem onLane_pending (l : LaneNo) (f : Lane → Lane) (s : State) : (onLane l f s).pending = s.pending := rfl
@[simp] theorem onLane_now (l : LaneNo) (f : Lane → Lane) (s : State) : (onLane l f s).now = s.now := rfl
@[simp] theorem onLane_epoch (l : LaneNo) (f : Lane → Lane) (s : State) : (onLane l f s).epoch = s.epoch := rfl
@[simp] theorem onLane_station (l : LaneNo) (f : Lane → Lane) (s : State) : (onLane l f s).station = s.station := rfl
@[simp] theorem onLane_config (l : LaneNo) (f : Lane → Lane) (s : State) : (onLane l f s).config = s.config := rfl
@[simp] theorem onLane_clampCount (l : LaneNo) (f : Lane → Lane) (s : State) : (onLane l f s).clampCount = s.clampCount := rfl
@[simp] theorem onLane_eventMask (l : LaneNo) (f : Lane → Lane) (s : State) : (onLane l f s).eventMask = s.eventMask := rfl
@[simp] theorem onLane_tx (l : LaneNo) (f : Lane → Lane) (s : State) : (onLane l f s).tx = s.tx := rfl
@[simp] theorem onLane_pub (l : LaneNo) (f : Lane → Lane) (s : State) : (onLane l f s).pub = s.pub := rfl
@[simp] theorem onLane_ing (l : LaneNo) (f : Lane → Lane) (s : State) : (onLane l f s).ing = s.ing := rfl
@[simp] theorem onLane_ref (l : LaneNo) (f : Lane → Lane) (s : State) : (onLane l f s).ref = s.ref := rfl
@[simp] theorem onLane_chans (l : LaneNo) (f : Lane → Lane) (s : State) : (onLane l f s).chans = s.chans := rfl
@[simp] theorem onLane_mgp (l : LaneNo) (f : Lane → Lane) (s : State) : (onLane l f s).mgp = s.mgp := rfl
@[simp] theorem onLane_tally (l : LaneNo) (f : Lane → Lane) (s : State) : (onLane l f s).tally = s.tally := rfl
@[simp] theorem onLane_flags (l : LaneNo) (f : Lane → Lane) (s : State) : (onLane l f s).flags = s.flags := rfl

@[simp] theorem onPub_pending (f : Publication → Publication) (s : State) : (onPub f s).pending = s.pending := rfl
@[simp] theorem onPub_now (f : Publication → Publication) (s : State) : (onPub f s).now = s.now := rfl
@[simp] theorem onPub_epoch (f : Publication → Publication) (s : State) : (onPub f s).epoch = s.epoch := rfl
@[simp] theorem onPub_station (f : Publication → Publication) (s : State) : (onPub f s).station = s.station := rfl
@[simp] theorem onPub_config (f : Publication → Publication) (s : State) : (onPub f s).config = s.config := rfl
@[simp] theorem onPub_clampCount (f : Publication → Publication) (s : State) : (onPub f s).clampCount = s.clampCount := rfl
@[simp] theorem onPub_eventMask (f : Publication → Publication) (s : State) : (onPub f s).eventMask = s.eventMask := rfl
@[simp] theorem onPub_lanes (f : Publication → Publication) (s : State) : (onPub f s).lanes = s.lanes := rfl
@[simp] theorem onPub_tx (f : Publication → Publication) (s : State) : (onPub f s).tx = s.tx := rfl
@[simp] theorem onPub_ing (f : Publication → Publication) (s : State) : (onPub f s).ing = s.ing := rfl
@[simp] theorem onPub_ref (f : Publication → Publication) (s : State) : (onPub f s).ref = s.ref := rfl
@[simp] theorem onPub_chans (f : Publication → Publication) (s : State) : (onPub f s).chans = s.chans := rfl
@[simp] theorem onPub_mgp (f : Publication → Publication) (s : State) : (onPub f s).mgp = s.mgp := rfl
@[simp] theorem onPub_tally (f : Publication → Publication) (s : State) : (onPub f s).tally = s.tally := rfl
@[simp] theorem onPub_flags (f : Publication → Publication) (s : State) : (onPub f s).flags = s.flags := rfl

@[simp] theorem onTx_pending (f : Transmit → Transmit) (s : State) : (onTx f s).pending = s.pending := rfl
@[simp] theorem onTx_now (f : Transmit → Transmit) (s : State) : (onTx f s).now = s.now := rfl
@[simp] theorem onTx_epoch (f : Transmit → Transmit) (s : State) : (onTx f s).epoch = s.epoch := rfl
@[simp] theorem onTx_station (f : Transmit → Transmit) (s : State) : (onTx f s).station = s.station := rfl
@[simp] theorem onTx_config (f : Transmit → Transmit) (s : State) : (onTx f s).config = s.config := rfl
@[simp] theorem onTx_clampCount (f : Transmit → Transmit) (s : State) : (onTx f s).clampCount = s.clampCount := rfl
@[simp] theorem onTx_eventMask (f : Transmit → Transmit) (s : State) : (onTx f s).eventMask = s.eventMask := rfl
@[simp] theorem onTx_lanes (f : Transmit → Transmit) (s : State) : (onTx f s).lanes = s.lanes := rfl
@[simp] theorem onTx_pub (f : Transmit → Transmit) (s : State) : (onTx f s).pub = s.pub := rfl
@[simp] theorem onTx_ing (f : Transmit → Transmit) (s : State) : (onTx f s).ing = s.ing := rfl
@[simp] theorem onTx_ref (f : Transmit → Transmit) (s : State) : (onTx f s).ref = s.ref := rfl
@[simp] theorem onTx_chans (f : Transmit → Transmit) (s : State) : (onTx f s).chans = s.chans := rfl
@[simp] theorem onTx_mgp (f : Transmit → Transmit) (s : State) : (onTx f s).mgp = s.mgp := rfl
@[simp] theorem onTx_tally (f : Transmit → Transmit) (s : State) : (onTx f s).tally = s.tally := rfl
@[simp] theorem onTx_flags (f : Transmit → Transmit) (s : State) : (onTx f s).flags = s.flags := rfl

@[simp] theorem onIngest_pending (f : Ingest → Ingest) (s : State) : (onIngest f s).pending = s.pending := rfl
@[simp] theorem onIngest_now (f : Ingest → Ingest) (s : State) : (onIngest f s).now = s.now := rfl
@[simp] theorem onIngest_epoch (f : Ingest → Ingest) (s : State) : (onIngest f s).epoch = s.epoch := rfl
@[simp] theorem onIngest_station (f : Ingest → Ingest) (s : State) : (onIngest f s).station = s.station := rfl
@[simp] theorem onIngest_config (f : Ingest → Ingest) (s : State) : (onIngest f s).config = s.config := rfl
@[simp] theorem onIngest_clampCount (f : Ingest → Ingest) (s : State) : (onIngest f s).clampCount = s.clampCount := rfl
@[simp] theorem onIngest_eventMask (f : Ingest → Ingest) (s : State) : (onIngest f s).eventMask = s.eventMask := rfl
@[simp] theorem onIngest_lanes (f : Ingest → Ingest) (s : State) : (onIngest f s).lanes = s.lanes := rfl
@[simp] theorem onIngest_tx (f : Ingest → Ingest) (s : State) : (onIngest f s).tx = s.tx := rfl
@[simp] theorem onIngest_pub (f : Ingest → Ingest) (s : State) : (onIngest f s).pub = s.pub := rfl
@[simp] theorem onIngest_ref (f : Ingest → Ingest) (s : State) : (onIngest f s).ref = s.ref := rfl
@[simp] theorem onIngest_chans (f : Ingest → Ingest) (s : State) : (onIngest f s).chans = s.chans := rfl
@[simp] theorem onIngest_mgp (f : Ingest → Ingest) (s : State) : (onIngest f s).mgp = s.mgp := rfl
@[simp] theorem onIngest_tally (f : Ingest → Ingest) (s : State) : (onIngest f s).tally = s.tally := rfl
@[simp] theorem onIngest_flags (f : Ingest → Ingest) (s : State) : (onIngest f s).flags = s.flags := rfl

@[simp] theorem onRef_pending (f : Reference → Reference) (s : State) : (onRef f s).pending = s.pending := rfl
@[simp] theorem onRef_now (f : Reference → Reference) (s : State) : (onRef f s).now = s.now := rfl
@[simp] theorem onRef_epoch (f : Reference → Reference) (s : State) : (onRef f s).epoch = s.epoch := rfl
@[simp] theorem onRef_station (f : Reference → Reference) (s : State) : (onRef f s).station = s.station := rfl
@[simp] theorem onRef_config (f : Reference → Reference) (s : State) : (onRef f s).config = s.config := rfl
@[simp] theorem onRef_clampCount (f : Reference → Reference) (s : State) : (onRef f s).clampCount = s.clampCount := rfl
@[simp] theorem onRef_eventMask (f : Reference → Reference) (s : State) : (onRef f s).eventMask = s.eventMask := rfl
@[simp] theorem onRef_lanes (f : Reference → Reference) (s : State) : (onRef f s).lanes = s.lanes := rfl
@[simp] theorem onRef_tx (f : Reference → Reference) (s : State) : (onRef f s).tx = s.tx := rfl
@[simp] theorem onRef_pub (f : Reference → Reference) (s : State) : (onRef f s).pub = s.pub := rfl
@[simp] theorem onRef_ing (f : Reference → Reference) (s : State) : (onRef f s).ing = s.ing := rfl
@[simp] theorem onRef_chans (f : Reference → Reference) (s : State) : (onRef f s).chans = s.chans := rfl
@[simp] theorem onRef_mgp (f : Reference → Reference) (s : State) : (onRef f s).mgp = s.mgp := rfl
@[simp] theorem onRef_tally (f : Reference → Reference) (s : State) : (onRef f s).tally = s.tally := rfl
@[simp] theorem onRef_flags (f : Reference → Reference) (s : State) : (onRef f s).flags = s.flags := rfl

@[simp] theorem onMgmt_pending (f : Management → Management) (s : State) : (onMgmt f s).pending = s.pending := rfl
@[simp] theorem onMgmt_now (f : Management → Management) (s : State) : (onMgmt f s).now = s.now := rfl
@[simp] theorem onMgmt_epoch (f : Management → Management) (s : State) : (onMgmt f s).epoch = s.epoch := rfl
@[simp] theorem onMgmt_station (f : Management → Management) (s : State) : (onMgmt f s).station = s.station := rfl
@[simp] theorem onMgmt_config (f : Management → Management) (s : State) : (onMgmt f s).config = s.config := rfl
@[simp] theorem onMgmt_clampCount (f : Management → Management) (s : State) : (onMgmt f s).clampCount = s.clampCount := rfl
@[simp] theorem onMgmt_eventMask (f : Management → Management) (s : State) : (onMgmt f s).eventMask = s.eventMask := rfl
@[simp] theorem onMgmt_lanes (f : Management → Management) (s : State) : (onMgmt f s).lanes = s.lanes := rfl
@[simp] theorem onMgmt_tx (f : Management → Management) (s : State) : (onMgmt f s).tx = s.tx := rfl
@[simp] theorem onMgmt_pub (f : Management → Management) (s : State) : (onMgmt f s).pub = s.pub := rfl
@[simp] theorem onMgmt_ing (f : Management → Management) (s : State) : (onMgmt f s).ing = s.ing := rfl
@[simp] theorem onMgmt_ref (f : Management → Management) (s : State) : (onMgmt f s).ref = s.ref := rfl
@[simp] theorem onMgmt_chans (f : Management → Management) (s : State) : (onMgmt f s).chans = s.chans := rfl
@[simp] theorem onMgmt_tally (f : Management → Management) (s : State) : (onMgmt f s).tally = s.tally := rfl
@[simp] theorem onMgmt_flags (f : Management → Management) (s : State) : (onMgmt f s).flags = s.flags := rfl

@[simp] theorem onPorts_pending (f : Port → Port) (s : State) : (onPorts f s).pending = s.pending := rfl
@[simp] theorem onPorts_now (f : Port → Port) (s : State) : (onPorts f s).now = s.now := rfl
@[simp] theorem onPorts_epoch (f : Port → Port) (s : State) : (onPorts f s).epoch = s.epoch := rfl
@[simp] theorem onPorts_station (f : Port → Port) (s : State) : (onPorts f s).station = s.station := rfl
@[simp] theorem onPorts_config (f : Port → Port) (s : State) : (onPorts f s).config = s.config := rfl
@[simp] theorem onPorts_clampCount (f : Port → Port) (s : State) : (onPorts f s).clampCount = s.clampCount := rfl
@[simp] theorem onPorts_eventMask (f : Port → Port) (s : State) : (onPorts f s).eventMask = s.eventMask := rfl
@[simp] theorem onPorts_lanes (f : Port → Port) (s : State) : (onPorts f s).lanes = s.lanes := rfl
@[simp] theorem onPorts_tx (f : Port → Port) (s : State) : (onPorts f s).tx = s.tx := rfl
@[simp] theorem onPorts_pub (f : Port → Port) (s : State) : (onPorts f s).pub = s.pub := rfl
@[simp] theorem onPorts_ing (f : Port → Port) (s : State) : (onPorts f s).ing = s.ing := rfl
@[simp] theorem onPorts_ref (f : Port → Port) (s : State) : (onPorts f s).ref = s.ref := rfl
@[simp] theorem onPorts_mgp (f : Port → Port) (s : State) : (onPorts f s).mgp = s.mgp := rfl
@[simp] theorem onPorts_tally (f : Port → Port) (s : State) : (onPorts f s).tally = s.tally := rfl
@[simp] theorem onPorts_flags (f : Port → Port) (s : State) : (onPorts f s).flags = s.flags := rfl

@[simp] theorem countStation_pending (s : State) (c : StationCtr) : (countStation s c).pending = s.pending := rfl
@[simp] theorem countStation_now (s : State) (c : StationCtr) : (countStation s c).now = s.now := rfl
@[simp] theorem countStation_epoch (s : State) (c : StationCtr) : (countStation s c).epoch = s.epoch := rfl
@[simp] theorem countStation_station (s : State) (c : StationCtr) : (countStation s c).station = s.station := rfl
@[simp] theorem countStation_config (s : State) (c : StationCtr) : (countStation s c).config = s.config := rfl
@[simp] theorem countStation_clampCount (s : State) (c : StationCtr) : (countStation s c).clampCount = s.clampCount := rfl
@[simp] theorem countStation_eventMask (s : State) (c : StationCtr) : (countStation s c).eventMask = s.eventMask := rfl
@[simp] theorem countStation_lanes (s : State) (c : StationCtr) : (countStation s c).lanes = s.lanes := rfl
@[simp] theorem countStation_tx (s : State) (c : StationCtr) : (countStation s c).tx = s.tx := rfl
@[simp] theorem countStation_pub (s : State) (c : StationCtr) : (countStation s c).pub = s.pub := rfl
@[simp] theorem countStation_ing (s : State) (c : StationCtr) : (countStation s c).ing = s.ing := rfl
@[simp] theorem countStation_ref (s : State) (c : StationCtr) : (countStation s c).ref = s.ref := rfl
@[simp] theorem countStation_chans (s : State) (c : StationCtr) : (countStation s c).chans = s.chans := rfl
@[simp] theorem countStation_mgp (s : State) (c : StationCtr) : (countStation s c).mgp = s.mgp := rfl
@[simp] theorem countStation_flags (s : State) (c : StationCtr) : (countStation s c).flags = s.flags := rfl

@[simp] theorem flagStation_pending (s : State) (f : StationFlag) : (flagStation s f).pending = s.pending := rfl
@[simp] theorem flagStation_now (s : State) (f : StationFlag) : (flagStation s f).now = s.now := rfl
@[simp] theorem flagStation_epoch (s : State) (f : StationFlag) : (flagStation s f).epoch = s.epoch := rfl
@[simp] theorem flagStation_station (s : State) (f : StationFlag) : (flagStation s f).station = s.station := rfl
@[simp] theorem flagStation_config (s : State) (f : StationFlag) : (flagStation s f).config = s.config := rfl
@[simp] theorem flagStation_clampCount (s : State) (f : StationFlag) : (flagStation s f).clampCount = s.clampCount := rfl
@[simp] theorem flagStation_eventMask (s : State) (f : StationFlag) : (flagStation s f).eventMask = s.eventMask := rfl
@[simp] theorem flagStation_lanes (s : State) (f : StationFlag) : (flagStation s f).lanes = s.lanes := rfl
@[simp] theorem flagStation_tx (s : State) (f : StationFlag) : (flagStation s f).tx = s.tx := rfl
@[simp] theorem flagStation_pub (s : State) (f : StationFlag) : (flagStation s f).pub = s.pub := rfl
@[simp] theorem flagStation_ing (s : State) (f : StationFlag) : (flagStation s f).ing = s.ing := rfl
@[simp] theorem flagStation_ref (s : State) (f : StationFlag) : (flagStation s f).ref = s.ref := rfl
@[simp] theorem flagStation_chans (s : State) (f : StationFlag) : (flagStation s f).chans = s.chans := rfl
@[simp] theorem flagStation_mgp (s : State) (f : StationFlag) : (flagStation s f).mgp = s.mgp := rfl
@[simp] theorem flagStation_tally (s : State) (f : StationFlag) : (flagStation s f).tally = s.tally := rfl

@[simp] theorem storeAdverts_pending (s : State) : (storeAdverts s).pending = s.pending := rfl
@[simp] theorem storeAdverts_now (s : State) : (storeAdverts s).now = s.now := rfl
@[simp] theorem storeAdverts_epoch (s : State) : (storeAdverts s).epoch = s.epoch := rfl
@[simp] theorem storeAdverts_station (s : State) : (storeAdverts s).station = s.station := rfl
@[simp] theorem storeAdverts_config (s : State) : (storeAdverts s).config = s.config := rfl
@[simp] theorem storeAdverts_clampCount (s : State) : (storeAdverts s).clampCount = s.clampCount := rfl
@[simp] theorem storeAdverts_eventMask (s : State) : (storeAdverts s).eventMask = s.eventMask := rfl
@[simp] theorem storeAdverts_lanes (s : State) : (storeAdverts s).lanes = s.lanes := rfl
@[simp] theorem storeAdverts_tx (s : State) : (storeAdverts s).tx = s.tx := rfl
@[simp] theorem storeAdverts_ing (s : State) : (storeAdverts s).ing = s.ing := rfl
@[simp] theorem storeAdverts_ref (s : State) : (storeAdverts s).ref = s.ref := rfl
@[simp] theorem storeAdverts_chans (s : State) : (storeAdverts s).chans = s.chans := rfl
@[simp] theorem storeAdverts_mgp (s : State) : (storeAdverts s).mgp = s.mgp := rfl
@[simp] theorem storeAdverts_tally (s : State) : (storeAdverts s).tally = s.tally := rfl
@[simp] theorem storeAdverts_flags (s : State) : (storeAdverts s).flags = s.flags := rfl

@[simp] theorem noteAdvert_pending (s : State) (p : PubIx) : (noteAdvert s p).pending = s.pending := rfl
@[simp] theorem noteAdvert_now (s : State) (p : PubIx) : (noteAdvert s p).now = s.now := rfl
@[simp] theorem noteAdvert_epoch (s : State) (p : PubIx) : (noteAdvert s p).epoch = s.epoch := rfl
@[simp] theorem noteAdvert_station (s : State) (p : PubIx) : (noteAdvert s p).station = s.station := rfl
@[simp] theorem noteAdvert_config (s : State) (p : PubIx) : (noteAdvert s p).config = s.config := rfl
@[simp] theorem noteAdvert_clampCount (s : State) (p : PubIx) : (noteAdvert s p).clampCount = s.clampCount := rfl
@[simp] theorem noteAdvert_eventMask (s : State) (p : PubIx) : (noteAdvert s p).eventMask = s.eventMask := rfl
@[simp] theorem noteAdvert_lanes (s : State) (p : PubIx) : (noteAdvert s p).lanes = s.lanes := rfl
@[simp] theorem noteAdvert_tx (s : State) (p : PubIx) : (noteAdvert s p).tx = s.tx := rfl
@[simp] theorem noteAdvert_ing (s : State) (p : PubIx) : (noteAdvert s p).ing = s.ing := rfl
@[simp] theorem noteAdvert_ref (s : State) (p : PubIx) : (noteAdvert s p).ref = s.ref := rfl
@[simp] theorem noteAdvert_chans (s : State) (p : PubIx) : (noteAdvert s p).chans = s.chans := rfl
@[simp] theorem noteAdvert_mgp (s : State) (p : PubIx) : (noteAdvert s p).mgp = s.mgp := rfl
@[simp] theorem noteAdvert_tally (s : State) (p : PubIx) : (noteAdvert s p).tally = s.tally := rfl
@[simp] theorem noteAdvert_flags (s : State) (p : PubIx) : (noteAdvert s p).flags = s.flags := rfl
@[simp] theorem noteAdvert_pub_slots (s : State) (p : PubIx) : (noteAdvert s p).pub.slots = s.pub.slots := rfl
@[simp] theorem noteAdvert_pub_demand (s : State) (p : PubIx) : (noteAdvert s p).pub.demand = s.pub.demand := rfl
@[simp] theorem noteAdvert_pub_tick (s : State) (p : PubIx) : (noteAdvert s p).pub.tick = s.pub.tick := rfl
@[simp] theorem noteAdvert_pub_tally (s : State) (p : PubIx) : (noteAdvert s p).pub.tally = s.pub.tally := rfl
@[simp] theorem noteAdvert_pub_itemTally (s : State) (p : PubIx) : (noteAdvert s p).pub.itemTally = s.pub.itemTally := rfl
@[simp] theorem noteAdvert_pub_lastSequence (s : State) (p : PubIx) : (noteAdvert s p).pub.lastSequence = s.pub.lastSequence := rfl

@[simp] theorem hearAdverts_pub (s : State) : (hearAdverts s).pub = { s.pub with unheard := false } := rfl
@[simp] theorem hearAdverts_pending (s : State) : (hearAdverts s).pending = s.pending := rfl
@[simp] theorem hearAdverts_now (s : State) : (hearAdverts s).now = s.now := rfl
@[simp] theorem hearAdverts_epoch (s : State) : (hearAdverts s).epoch = s.epoch := rfl
@[simp] theorem hearAdverts_station (s : State) : (hearAdverts s).station = s.station := rfl
@[simp] theorem hearAdverts_config (s : State) : (hearAdverts s).config = s.config := rfl
@[simp] theorem hearAdverts_clampCount (s : State) : (hearAdverts s).clampCount = s.clampCount := rfl
@[simp] theorem hearAdverts_eventMask (s : State) : (hearAdverts s).eventMask = s.eventMask := rfl
@[simp] theorem hearAdverts_lanes (s : State) : (hearAdverts s).lanes = s.lanes := rfl
@[simp] theorem hearAdverts_tx (s : State) : (hearAdverts s).tx = s.tx := rfl
@[simp] theorem hearAdverts_ing (s : State) : (hearAdverts s).ing = s.ing := rfl
@[simp] theorem hearAdverts_ref (s : State) : (hearAdverts s).ref = s.ref := rfl
@[simp] theorem hearAdverts_chans (s : State) : (hearAdverts s).chans = s.chans := rfl
@[simp] theorem hearAdverts_mgp (s : State) : (hearAdverts s).mgp = s.mgp := rfl
@[simp] theorem hearAdverts_tally (s : State) : (hearAdverts s).tally = s.tally := rfl
@[simp] theorem hearAdverts_flags (s : State) : (hearAdverts s).flags = s.flags := rfl

@[simp] theorem setSlot_pending (i : PubSlotNo) (x : PubSlot) (s : State) : (setSlot i x s).pending = s.pending := rfl
@[simp] theorem setSlot_now (i : PubSlotNo) (x : PubSlot) (s : State) : (setSlot i x s).now = s.now := rfl
@[simp] theorem setSlot_epoch (i : PubSlotNo) (x : PubSlot) (s : State) : (setSlot i x s).epoch = s.epoch := rfl
@[simp] theorem setSlot_station (i : PubSlotNo) (x : PubSlot) (s : State) : (setSlot i x s).station = s.station := rfl
@[simp] theorem setSlot_config (i : PubSlotNo) (x : PubSlot) (s : State) : (setSlot i x s).config = s.config := rfl
@[simp] theorem setSlot_clampCount (i : PubSlotNo) (x : PubSlot) (s : State) : (setSlot i x s).clampCount = s.clampCount := rfl
@[simp] theorem setSlot_eventMask (i : PubSlotNo) (x : PubSlot) (s : State) : (setSlot i x s).eventMask = s.eventMask := rfl
@[simp] theorem setSlot_lanes (i : PubSlotNo) (x : PubSlot) (s : State) : (setSlot i x s).lanes = s.lanes := rfl
@[simp] theorem setSlot_tx (i : PubSlotNo) (x : PubSlot) (s : State) : (setSlot i x s).tx = s.tx := rfl
@[simp] theorem setSlot_ing (i : PubSlotNo) (x : PubSlot) (s : State) : (setSlot i x s).ing = s.ing := rfl
@[simp] theorem setSlot_ref (i : PubSlotNo) (x : PubSlot) (s : State) : (setSlot i x s).ref = s.ref := rfl
@[simp] theorem setSlot_chans (i : PubSlotNo) (x : PubSlot) (s : State) : (setSlot i x s).chans = s.chans := rfl
@[simp] theorem setSlot_mgp (i : PubSlotNo) (x : PubSlot) (s : State) : (setSlot i x s).mgp = s.mgp := rfl
@[simp] theorem setSlot_tally (i : PubSlotNo) (x : PubSlot) (s : State) : (setSlot i x s).tally = s.tally := rfl
@[simp] theorem setSlot_flags (i : PubSlotNo) (x : PubSlot) (s : State) : (setSlot i x s).flags = s.flags := rfl

@[simp] theorem advance_now (dt : Nat) (s : State) : (advance dt s).now = s.now + BitVec.ofNat 48 dt := rfl
@[simp] theorem onPub_pub (f : Publication → Publication) (s : State) : (onPub f s).pub = f s.pub := rfl
@[simp] theorem onTx_tx (f : Transmit → Transmit) (s : State) : (onTx f s).tx = f s.tx := rfl
@[simp] theorem onIngest_ing (f : Ingest → Ingest) (s : State) : (onIngest f s).ing = f s.ing := rfl
@[simp] theorem setReader_reader (r : Reader) (s : State) : (setReader r s).ing.reader = r := rfl
@[simp] theorem setReader_openLine (r : Reader) (s : State) : (setReader r s).ing.openLine = s.ing.openLine := rfl
@[simp] theorem setReader_now (r : Reader) (s : State) : (setReader r s).now = s.now := rfl
@[simp] theorem setReader_chans (r : Reader) (s : State) : (setReader r s).chans = s.chans := rfl
@[simp] theorem setReader_tx (r : Reader) (s : State) : (setReader r s).tx = s.tx := rfl
@[simp] theorem setReader_pub (r : Reader) (s : State) : (setReader r s).pub = s.pub := rfl
@[simp] theorem holdCalls_callQueue (k : Chan) (cs : List Call) (x : Transmit) :
    (holdCalls k cs x).callQueue = x.callQueue := rfl
@[simp] theorem holdCalls_sending (k : Chan) (cs : List Call) (x : Transmit) :
    (holdCalls k cs x).sending = x.sending := rfl
@[simp] theorem holdCalls_instant (k : Chan) (cs : List Call) (x : Transmit) :
    (holdCalls k cs x).instant = x.instant := rfl
@[simp] theorem holdCalls_tally (k : Chan) (cs : List Call) (x : Transmit) : (holdCalls k cs x).tally = x.tally := rfl
@[simp] theorem noteBegun_callQueue (x : Transmit) : (noteBegun x).callQueue = x.callQueue := rfl
@[simp] theorem noteBegun_sending (x : Transmit) : (noteBegun x).sending = x.sending := rfl
@[simp] theorem noteBegun_instant (x : Transmit) :
    (noteBegun x).instant = x.instant.map fun i => { i with begun := true } := rfl
@[simp] theorem holdCalls_offers (k : Chan) (cs : List Call) (x : Transmit) :
    (holdCalls k cs x).offers.get k = x.offers.get k ++ cs := by simp [holdCalls]
@[simp] theorem onRef_ref (f : Reference → Reference) (s : State) : (onRef f s).ref = f s.ref := rfl
@[simp] theorem onMgmt_mgp (f : Management → Management) (s : State) : (onMgmt f s).mgp = f s.mgp := rfl

@[simp] theorem chan_onChan (k : Chan) (f : Channel → Channel) (s : State) : chan (onChan k f s) k = f (chan s k) := by
  simp [chan, onChan]

theorem chan_onChan_ne {k j : Chan} (h : j ≠ k) (f : Channel → Channel) (s : State) :
    chan (onChan k f s) j = chan s j := by
  simp [chan, onChan, Bank.get_modify_ne _ h]

@[simp] theorem lane_onLane (l : LaneNo) (f : Lane → Lane) (s : State) : lane (onLane l f s) l = f (lane s l) := by
  simp [lane, onLane]

theorem lane_onLane_ne {l m : LaneNo} (h : m ≠ l) (f : Lane → Lane) (s : State) : lane (onLane l f s) m = lane s m := by
  simp [lane, onLane, Bank.get_modify_ne _ h]

@[simp] theorem lane_onChan (k : Chan) (f : Channel → Channel) (s : State) (l : LaneNo) :
    lane (onChan k f s) l = lane s l := rfl
@[simp] theorem chan_onLane (l : LaneNo) (f : Lane → Lane) (s : State) (k : Chan) :
    chan (onLane l f s) k = chan s k := rfl
@[simp] theorem chan_advance (dt : Nat) (s : State) (k : Chan) : chan (advance dt s) k = chan s k := rfl
@[simp] theorem lane_advance (dt : Nat) (s : State) (l : LaneNo) : lane (advance dt s) l = lane s l := rfl
@[simp] theorem chan_onPub (f : Publication → Publication) (s : State) (k : Chan) : chan (onPub f s) k = chan s k := rfl
@[simp] theorem chan_onTx (f : Transmit → Transmit) (s : State) (k : Chan) : chan (onTx f s) k = chan s k := rfl
@[simp] theorem chanConfig_onChan (k : Chan) (f : Channel → Channel) (s : State) (j : Chan) :
    chanConfig (onChan k f s) j = chanConfig s j := rfl
@[simp] theorem chanConfig_advance (dt : Nat) (s : State) (j : Chan) : chanConfig (advance dt s) j = chanConfig s j := rfl

end Sys2Proof.Machine
end

