-- ==== Sys2Proof/Laws/Frames.lean ====
section
/-! SUPPORT. Frames: which parts of the state each shared operation can change, said once for each. -/

namespace Sys2Proof.Machine

/-- Nothing changed but channels and the transmit lane. -/
def WithinChannels (s t : State) : Prop := t = { s with chans := t.chans, tx := t.tx }

/-- Nothing changed but channels, the transmit lane and the Publication Unit. -/
def WithinLink (s t : State) : Prop := t = { s with chans := t.chans, tx := t.tx, pub := t.pub }

theorem WithinChannels.refl (s : State) : WithinChannels s s := rfl
theorem WithinLink.refl (s : State) : WithinLink s s := rfl

theorem WithinChannels.trans {s t u : State} (h : WithinChannels s t) (g : WithinChannels t u) : WithinChannels s u := by
  unfold WithinChannels at *; rw [g, h]

theorem WithinLink.trans {s t u : State} (h : WithinLink s t) (g : WithinLink t u) : WithinLink s u := by
  unfold WithinLink at *; rw [g, h]

theorem WithinChannels.link {s t : State} (h : WithinChannels s t) : WithinLink s t := by
  unfold WithinChannels WithinLink at *; rw [h]

/-! What a frame leaves alone. -/

section fields
variable {s t : State}

theorem WithinLink.pending (h : WithinLink s t) : t.pending = s.pending := by rw [h]
theorem WithinLink.now (h : WithinLink s t) : t.now = s.now := by rw [h]
theorem WithinLink.epoch (h : WithinLink s t) : t.epoch = s.epoch := by rw [h]
theorem WithinLink.station (h : WithinLink s t) : t.station = s.station := by rw [h]
theorem WithinLink.config (h : WithinLink s t) : t.config = s.config := by rw [h]
theorem WithinLink.clampCount (h : WithinLink s t) : t.clampCount = s.clampCount := by rw [h]
theorem WithinLink.eventMask (h : WithinLink s t) : t.eventMask = s.eventMask := by rw [h]
theorem WithinLink.lanes (h : WithinLink s t) : t.lanes = s.lanes := by rw [h]
theorem WithinLink.ing (h : WithinLink s t) : t.ing = s.ing := by rw [h]
theorem WithinLink.ref (h : WithinLink s t) : t.ref = s.ref := by rw [h]
theorem WithinLink.mgp (h : WithinLink s t) : t.mgp = s.mgp := by rw [h]
theorem WithinLink.tally (h : WithinLink s t) : t.tally = s.tally := by rw [h]
theorem WithinLink.flags (h : WithinLink s t) : t.flags = s.flags := by rw [h]
theorem WithinChannels.pub (h : WithinChannels s t) : t.pub = s.pub := by rw [h]

end fields

/-! ## Updates -/

theorem onChan_within (k : Chan) (f : Channel → Channel) (s : State) : WithinChannels s (onChan k f s) := rfl
theorem onTx_within (f : Transmit → Transmit) (s : State) : WithinChannels s (onTx f s) := rfl
theorem onPub_within (f : Publication → Publication) (s : State) : WithinLink s (onPub f s) := rfl
theorem setSlot_within (i : PubSlotNo) (x : PubSlot) (s : State) : WithinLink s (setSlot i x s) := rfl

theorem onConfigured_within (k : Chan) (f : Env → Channel → Channel) (s : State) :
    WithinChannels s (onConfigured k f s) := by
  unfold onConfigured; split <;> rfl

/-! ## Re-judgement -/

theorem switchTo_within (k : Chan) (q : Option Copy) (s : State) : WithinChannels s (switchTo k q s) := by
  unfold switchTo
  have h : WithinChannels s (onTx (holdCalls k (releaseCall s k ++ requestCall s k q)) s) := rfl
  exact h.trans (onConfigured_within ..)

theorem updateRevert_within (k : Chan) (s : State) : WithinChannels s (updateRevert k s) := onChan_within ..

theorem enterLatched_within (k : Chan) (s : State) : WithinChannels s (enterLatched k s) := by
  unfold enterLatched
  refine WithinChannels.trans ?_ (onChan_within ..)
  split
  · exact (onConfigured_within ..).trans (switchTo_within ..)
  · exact onConfigured_within ..

theorem rejudge_within (n : Nat) (k : Chan) (s : State) : WithinChannels s (rejudge n k s) := by
  induction n generalizing s with
  | zero => exact .refl s
  | succ n ih =>
    unfold rejudge
    dsimp only
    split
    · exact .refl s
    split
    · exact updateRevert_within k s
    split
    · split
      · exact ((switchTo_within ..).trans (onChan_within ..)).trans (enterLatched_within ..)
      · exact (((switchTo_within ..).trans (onChan_within ..)).trans (onConfigured_within ..)).trans (ih _)
    · exact switchTo_within ..

theorem rejudgeOne_within (k : Chan) (s : State) : WithinChannels s (rejudgeOne k s) := rejudge_within ..

theorem enterAcquiring_within (k : Chan) (s : State) : WithinChannels s (enterAcquiring k s) :=
  (onConfigured_within ..).trans (rejudgeOne_within ..)

theorem standardReport_within (k : Chan) (s : State) : WithinChannels s (standardReport k s) := by
  unfold standardReport
  dsimp only
  split
  · split
    · exact (onChan_within ..).trans (enterLatched_within ..)
    · exact (onChan_within ..).trans (enterAcquiring_within ..)
  · exact .refl s

theorem rejudgeBoth_within (s : State) : WithinChannels s (rejudgeBoth s) :=
  (rejudgeOne_within ..).trans (rejudgeOne_within ..)

/-! ## The timers that offer calls -/

theorem holdoverTimer_within (k : Chan) (s : State) : WithinChannels s (holdoverTimer k s) := by
  unfold holdoverTimer holdoverExpired
  dsimp only
  split
  · split
    · exact (onChan_within ..).trans (enterLatched_within ..)
    · exact (onChan_within ..).trans (onChan_within ..)
  · exact .refl s

theorem passOverExpired_within (k : Chan) (s : State) : WithinChannels s (passOverExpired k s) := by
  unfold passOverExpired
  dsimp only
  split
  · exact (onChan_within ..).trans (rejudgeOne_within ..)
  · exact .refl s

theorem revertExpired_within (k : Chan) (s : State) : WithinChannels s (revertExpired k s) := by
  unfold revertExpired
  dsimp only
  split
  · exact .refl s
  split
  · split
    · exact (((rejudgeOne_within ..).trans (switchTo_within ..)).trans (onChan_within ..)).trans
        (standardReport_within ..)
    · exact ((rejudgeOne_within ..).trans (switchTo_within ..)).trans (onChan_within ..)
  · exact rejudgeOne_within ..

theorem refreshExpired_within (k : Chan) (s : State) : WithinChannels s (refreshExpired k s) := by
  unfold refreshExpired
  dsimp only
  split
  · split <;> rfl
  · exact .refl s

/-! ## Publication -/

theorem storeAdverts_within (s : State) : WithinLink s (storeAdverts s) := rfl

theorem noteAdvert_within (s : State) (p : PubIx) : WithinLink s (noteAdvert s p) := rfl

theorem hearAdverts_within (s : State) : WithinLink s (hearAdverts s) := rfl

theorem noteStarts_within (s : State) : WithinLink s (noteStarts s) := by
  have one : ∀ (s : State) (p : PubIx), WithinLink s (if starts s p then noteAdvert s p else s) := by
    intro s p
    split
    · exact noteAdvert_within ..
    · exact .refl s
  exact ((one s 0).trans (one _ 1)).trans (one _ 2)

theorem countReleased_within (b : Bool) (p : PubIx) (s : State) : WithinLink s (countReleased b p s) := by
  unfold countReleased; split <;> rfl

theorem vacate_within (i : PubSlotNo) (b : Bool) (s : State) : WithinLink s (vacate i b s) := by
  unfold vacate
  split
  · exact ((setSlot_within ..).trans (countReleased_within ..)).trans (noteAdvert_within ..)
  · exact setSlot_within ..

theorem stopSlot_within (i : PubSlotNo) (p : PubIx) (s : State) : WithinLink s (stopSlot i p s) :=
  (((setSlot_within ..).trans (onPub_within ..)).trans (countReleased_within ..)).trans (onTx_within ..).link

theorem reviewSlot_within (s : State) (i : PubSlotNo) : WithinLink s (reviewSlot s i) := by
  unfold reviewSlot
  dsimp only
  split
  · exact .refl s
  split
  · exact .refl s
  split
  · exact stopSlot_within ..
  split
  · exact .refl s
  split
  · exact setSlot_within ..
  · split
    · exact setSlot_within ..
    · exact vacate_within ..
  · exact vacate_within ..

theorem grantOne_within (s : State) : WithinLink s (grantOne s) := by
  unfold grantOne; split <;> rfl

theorem yieldOne_within (s : State) : WithinLink s (yieldOne s) := by
  unfold yieldOne
  dsimp only
  split
  · split
    · split
      · rfl
      · exact (onPub_within ..).trans (vacate_within ..)
    · exact .refl s
  · exact .refl s

theorem arbitrate_within (s : State) : WithinLink s (arbitrate s) :=
  ((reviewSlot_within s 0).trans (reviewSlot_within _ 1)).trans
    (((grantOne_within _).trans (grantOne_within _)).trans ((yieldOne_within _).trans (grantOne_within _)))

theorem settleFor_within (n : Nat) (s : State) : WithinLink s (settleFor n s) := by
  induction n generalizing s with
  | zero => exact .refl s
  | succ n ih =>
    unfold settleFor
    dsimp only
    have first := ((noteStarts_within s).trans (arbitrate_within _)).trans (storeAdverts_within _)
    split
    · exact first.trans (((hearAdverts_within _).trans (rejudgeBoth_within _).link).trans (ih _))
    · exact first

/-- Settling leaves no change of an advert unheard (04/R53). -/
theorem settleFor_unheard (n : Nat) (s : State) (h : n = 0 → s.pub.unheard = false) :
    (settleFor n s).pub.unheard = false := by
  induction n generalizing s with
  | zero => exact h rfl
  | succ n ih =>
    unfold settleFor
    dsimp only
    split
    · refine ih _ fun _ => ?_
      rw [(rejudgeBoth_within _).pub]
      rfl
    · next h => simpa using h

theorem settle_unheard (s : State) : (settle s).pub.unheard = false := by
  unfold settle
  exact settleFor_unheard 8 s nofun

theorem settle_within (s : State) : WithinLink s (settle s) := settleFor_within ..

theorem pictureOnSlot_within (i : PubSlotNo) (p : PubIx) (r : PictureRecord) (s : State) :
    WithinLink s (pictureOnSlot i p r s) := by
  unfold pictureOnSlot
  dsimp only
  split
  · exact vacate_within ..
  · split <;> rfl

theorem linesOnSlot_within (i : PubSlotNo) (p : PubIx) (r : LinesRecord) (s : State) :
    WithinLink s (linesOnSlot i p r s) := by
  unfold linesOnSlot
  dsimp only
  split
  · split
    · split
      · exact ((onTx_within ..).link.trans (onPub_within ..)).trans (vacate_within ..)
      · rfl
    · rfl
  · exact .refl s

theorem pictureToChannel_within (via : Origin) (r : PictureRecord) (k : Chan) (s : State) :
    WithinChannels s (pictureToChannel via r k s) := by
  unfold pictureToChannel
  split
  · exact .refl s
  · dsimp only
    split
    · split
      · exact (onChan_within ..).trans (standardReport_within ..)
      · exact onChan_within ..
    · exact .refl s

theorem linesToChannel_within (via : Origin) (r : LinesRecord) (k : Chan) (s : State) :
    WithinChannels s (linesToChannel via r k s) := by
  unfold linesToChannel
  split
  · exact .refl s
  · split
    · exact onChan_within ..
    · exact .refl s

theorem foldl_within {α : Type} (f : State → α → State) (h : ∀ s a, WithinLink s (f s a)) (xs : List α) (s : State) :
    WithinLink s (xs.foldl f s) := by
  induction xs generalizing s with
  | nil => exact .refl s
  | cons a xs ih => exact (h s a).trans (ih _)

theorem publishPicture_within (p : PubIx) (r : PictureRecord) (s : State) : WithinLink s (publishPicture p r s) := by
  unfold publishPicture
  dsimp only
  refine WithinLink.trans ?_ (foldl_within _ (fun s k => (pictureToChannel_within _ r k s).link) _ _)
  split
  · exact (onPub_within ..).trans (pictureOnSlot_within ..)
  · exact onPub_within ..

theorem publishLines_within (p : PubIx) (r : LinesRecord) (s : State) : WithinLink s (publishLines p r s) := by
  unfold publishLines
  dsimp only
  refine WithinLink.trans ?_ (foldl_within _ (fun s k => (linesToChannel_within _ r k s).link) _ _)
  split
  · exact linesOnSlot_within ..
  · exact .refl s

/-! ## The end of every command -/

theorem beginSending_within (s : State) (g : StationConfig) : WithinChannels s (beginSending s g) := by
  unfold beginSending
  dsimp only
  split
  · rfl
  · split
    · rfl
    · split
      · split <;> rfl
      · rfl

theorem arbitrateLane_within (s : State) : WithinChannels s (arbitrateLane s) := by
  unfold arbitrateLane
  split
  · split
    · exact beginSending_within ..
    · exact .refl s
  · exact .refl s

/-- The calls of an instant are the transmit lane's own (01/R13). -/
theorem takeCalls_within (s : State) : WithinChannels s (takeCalls s) := by
  unfold takeCalls
  dsimp only
  split
  · exact onTx_within ..
  · rfl

/-- Whatever a command did, its end touches only channels, the transmit lane and the Publication Unit. -/
theorem conclude_within (s : State) : WithinLink s (conclude s) :=
  (settle_within s).trans ((takeCalls_within _).trans (arbitrateLane_within _)).link

/-! ## The entry into RUNNING -/

theorem startChannel_within (g : StationConfig) (s : State) (k : Chan) : WithinChannels s (startChannel g s k) := by
  unfold startChannel
  dsimp only
  split
  · exact .refl s
  · exact onChan_within ..
  · exact (onChan_within ..).trans (enterAcquiring_within ..)

theorem startPublishing_within (s : State) : WithinLink s (startPublishing s) := by
  unfold startPublishing
  refine WithinLink.trans ?_ ((storeAdverts_within _).trans (hearAdverts_within _))
  rfl

theorem enterRunning_within (g : StationConfig) (s : State) : WithinLink (startPublishing (takeConfig g s)) (enterRunning g s) :=
  ((startChannel_within g _ 0).trans (startChannel_within g _ 1)).link

theorem takeConfig_eventMask (g : StationConfig) (s : State) : (takeConfig g s).eventMask = g.eventMask := by
  unfold takeConfig portsLoseReference
  dsimp only
  split <;> rfl

theorem takeConfig_config (g : StationConfig) (s : State) : (takeConfig g s).config = some g := by
  unfold takeConfig portsLoseReference
  dsimp only
  split <;> rfl

theorem takeConfig_station (g : StationConfig) (s : State) : (takeConfig g s).station = .running := by
  unfold takeConfig portsLoseReference
  dsimp only
  split <;> rfl

/-- The mask in force after the entry into RUNNING is the configured one (12/R194, R203). -/
theorem enterRunning_eventMask (g : StationConfig) (s : State) : (enterRunning g s).eventMask = g.eventMask :=
  ((startPublishing_within _).trans (enterRunning_within g s)).eventMask.trans (takeConfig_eventMask g s)

theorem enterRunning_config (g : StationConfig) (s : State) : (enterRunning g s).config = some g :=
  ((startPublishing_within _).trans (enterRunning_within g s)).config.trans (takeConfig_config g s)

theorem enterRunning_station (g : StationConfig) (s : State) : (enterRunning g s).station = .running :=
  ((startPublishing_within _).trans (enterRunning_within g s)).station.trans (takeConfig_station g s)

end Sys2Proof.Machine
end

