-- ==== Sys2Proof/Laws/Image.lean ====
section
/-! SUPPORT. The configuration image: its length, and the checksum of an image the memory supplies only in part. -/

namespace Sys2Proof.Machine

theorem imageWords_length (image : List (BitVec 32)) : (imageWords image).length = imageLength := by
  simp only [imageWords, List.length_append, List.length_take, List.length_replicate]
  omega

theorem foldl_add_replicate (n : Nat) (a x : BitVec 32) :
    (List.replicate n x).foldl (· + ·) a = a + BitVec.ofNat 32 n * x := by
  induction n generalizing a with
  | zero => simp
  | succ n ih =>
    rw [List.replicate_succ, List.foldl_cons, ih, show n + 1 = 1 + n from Nat.add_comm .., BitVec.ofNat_add, BitVec.add_mul,
      BitVec.add_assoc]
    simp

/-- The words that are not supplied are all ones; the last of them is then the sum to be met (12/R191). -/
theorem checksum_short (image : List (BitVec 32)) (h : image.length ≤ 1116) :
    checksumHolds image = decide (image.foldl (· + ·) 0 + BitVec.ofNat 32 (1116 - image.length) * BitVec.allOnes 32
      = BitVec.allOnes 32) := by
  have hw : imageWords image = image ++ List.replicate (1117 - image.length) (BitVec.allOnes 32) := by
    rw [imageWords, List.take_of_length_le (by simp only [imageLength]; omega)]
    rfl
  have hl : (imageWords image).getLast? = some (BitVec.allOnes 32) := by
    rw [hw, List.getLast?_append, List.getLast?_replicate, if_neg (by omega)]
    rfl
  have ht : (imageWords image).take 1116 = image ++ List.replicate (1116 - image.length) (BitVec.allOnes 32) := by
    rw [hw, List.take_append, List.take_of_length_le h, List.take_replicate]
    congr 2
    omega
  rw [checksumHolds, hl, ht, List.foldl_append, foldl_add_replicate]
  rfl

/-- One value of an image, treated by its place (12/R192). -/
theorem treated_getD (image : List (BitVec 32)) (n : Nat) :
    (treatedValues image).getD n 0 = ((rawValues image)[n]?.map (treat (treatmentAt n))).getD 0 := by
  rw [List.getD_eq_getElem?_getD, treatedValues, List.getElem?_mapIdx]

/-- The configuration of an image, place by place. -/
theorem configOf_eq (image : List (BitVec 32)) :
    configOf image = (let v := fun n => ((rawValues image)[n - 1]?.map (treat (treatmentAt (n - 1)))).getD 0
      { station := Fin.ofNat 8 (natOf (v 1)), ingestFeed := feedOfWord (v 2), ingestRank := rankOfWord (v 3)
        ingestPublish := onOff (v 4), reference := stdOfWord (v 5), eventMask := BitVec.ofNat 6 (natOf (v 6))
        chans := ⟨[chanConfigOf fun n => v (6 + n), chanConfigOf fun n => v (561 + n)], rfl⟩ }) := by
  simp only [configOf, treated_getD]

/-- An accepted image puts its mask in force (12/R194, R203). -/
theorem accepted_eventMask (image : List (BitVec 32)) (s : State) (hs : s.station = .loading)
    (h : checksumHolds image = true) : (readDone image s).eventMask = (configOf image).eventMask := by
  rw [readDone, if_neg (by rw [hs]; decide), if_pos h]
  exact enterRunning_eventMask ..

end Sys2Proof.Machine
end

