-- ==== Sys2Proof/Laws/Ops.lean ====
section
/-! SUPPORT. Small laws of the shared operations: time, clamping, rounding, counters, queues and the line-present map. -/

namespace Sys2Proof.Machine

/-! ## Station time -/

@[simp] theorem sdiff_self (t : Time) : Machine.sdiff t t = 0 := by simp [Machine.sdiff]
@[simp] theorem reached_self (t : Time) : reached t t = true := by simp [reached]
@[simp] theorem shift_zero (t : Time) : shift t 0 = t := by simp [shift]
@[simp] theorem due_none (now : Time) : due now none = false := rfl
@[simp] theorem due_some (now t : Time) : due now (some t) = reached now t := rfl

theorem reached_iff {a b : Time} : reached a b = true ↔ 0 ≤ Machine.sdiff a b := by simp [reached]
theorem later_iff {a b : Time} : later a b = true ↔ 0 < Machine.sdiff a b := by simp [later]

theorem due_iff {now : Time} {o : Option Time} : due now o = true ↔ ∃ t, o = some t ∧ 0 ≤ Machine.sdiff now t := by
  cases o <;> simp [reached_iff]

/-! ## Clamping and rounding -/

theorem clampInt_mem {lo hi : Int} (h : lo ≤ hi) (x : Int) : lo ≤ clampInt lo hi x ∧ clampInt lo hi x ≤ hi := by
  unfold clampInt
  split
  · exact ⟨Int.le_refl _, h⟩
  · split <;> omega

theorem clampInt_of_mem {lo hi x : Int} (h1 : lo ≤ x) (h2 : x ≤ hi) : clampInt lo hi x = x := by
  unfold clampInt
  rw [if_neg (by omega), if_neg (by omega)]

theorem clampNat_mem {lo hi : Nat} (h : lo ≤ hi) (x : Nat) : lo ≤ clampNat lo hi x ∧ clampNat lo hi x ≤ hi := by
  unfold clampNat
  split
  · exact ⟨Nat.le_refl _, h⟩
  · split <;> omega

theorem clampIx_lt {n : Nat} (h : 0 < n) (i : Int) : clampIx n i < n := by
  have := clampInt_mem (show (0 : Int) ≤ (n : Int) - 1 by omega) i
  unfold clampIx
  omega

@[simp] theorem roundHalfAway_zero (n : Nat) (h : 0 < n) : roundHalfAway 0 n = 0 := by
  unfold roundHalfAway roundHalfUp
  rw [if_neg (by omega)]
  apply Int.ediv_eq_zero_of_lt <;> omega

/-- Round half away is odd (00/0.7.3). -/
theorem roundHalfAway_neg (x : Int) (n : Nat) (h : 0 < n) : roundHalfAway (-x) n = -roundHalfAway x n := by
  rcases Int.lt_trichotomy x 0 with hx | rfl | hx
  · rw [roundHalfAway, if_neg (by omega), roundHalfAway, if_pos hx]
    omega
  · simp [roundHalfAway_zero n h]
  · rw [roundHalfAway, if_pos (by omega), roundHalfAway, if_neg (by omega)]
    simp

/-! ## Counters -/

theorem addCount_get {m : Nat} (t : Bank m Count) (i j : Fin m) (n : Nat) :
    (addCount t i n).get j = if j = i then t.get i + BitVec.ofNat 32 n else t.get j := by
  rw [addCount, Bank.get_set]

/-! ## Queues (01/R13, R15) -/

theorem offerCall_length (c : Call) (x : Transmit) (h : x.callQueue.length ≤ 8) :
    (offerCall c x).callQueue.length ≤ 8 := by
  unfold offerCall
  split
  · simpa using h
  · split
    · simp only [List.length_append, List.length_singleton]
      omega
    · simp only [countTx, List.length_append, List.length_drop, List.length_singleton]
      omega

@[simp] theorem offerCall_offers (c : Call) (x : Transmit) : (offerCall c x).offers = x.offers := by
  unfold offerCall; split <;> [rfl; (split <;> rfl)]

@[simp] theorem offerCall_instant (c : Call) (x : Transmit) : (offerCall c x).instant = x.instant := by
  unfold offerCall; split <;> [rfl; (split <;> rfl)]

@[simp] theorem offerCall_sending (c : Call) (x : Transmit) : (offerCall c x).sending = x.sending := by
  unfold offerCall; split <;> [rfl; (split <;> rfl)]

@[simp] theorem offerCalls_offers (cs : List Call) (x : Transmit) : (offerCalls cs x).offers = x.offers := by
  induction cs generalizing x with
  | nil => rfl
  | cons c cs ih => exact (ih _).trans (offerCall_offers c x)

@[simp] theorem offerCalls_instant (cs : List Call) (x : Transmit) : (offerCalls cs x).instant = x.instant := by
  induction cs generalizing x with
  | nil => rfl
  | cons c cs ih => exact (ih _).trans (offerCall_instant c x)

@[simp] theorem offerCalls_sending (cs : List Call) (x : Transmit) : (offerCalls cs x).sending = x.sending := by
  induction cs generalizing x with
  | nil => rfl
  | cons c cs ih => exact (ih _).trans (offerCall_sending c x)

theorem offerCalls_length (cs : List Call) (x : Transmit) (h : x.callQueue.length ≤ 8) :
    (offerCalls cs x).callQueue.length ≤ 8 := by
  induction cs generalizing x with
  | nil => exact h
  | cons c cs ih => exact ih _ (offerCall_length c x h)

/-- Once the queue has taken the calls of an instant, none of the present command waits, the instant is kept, and a queue
of at most eight holds at most eight (01/R13). -/
theorem requeue_spec (i : CallInstant) (calls : List Call) (x : Transmit) (h : i.queue.length ≤ 8) :
    (requeue i calls x).offers = Bank.fill 2 [] ∧ (requeue i calls x).instant = some i
      ∧ (requeue i calls x).callQueue.length ≤ 8 ∧ (requeue i calls x).sending = x.sending := by
  refine ⟨?_, ?_, offerCalls_length _ _ h, ?_⟩ <;> simp [requeue]

/-- With no call offered in the command or earlier in its instant, the queue stays as it is and no instant is kept. -/
theorem takeCalls_quiet {s : State} (i : s.tx.instant = none) (h : s.tx.offers = Bank.fill 2 []) : takeCalls s = s := by
  have e : (heldNow s.now s.tx).offered = Bank.fill 2 [] := by
    rw [heldNow, instantNow, i, h]; rfl
  unfold takeCalls
  dsimp only
  rw [if_pos e, onTx, ← i]

theorem offerBurst_length (k i : PubSlotNo) (r : LinkRecord) (x : Transmit) (h : (x.bursts.get i).length ≤ 32) :
    ((offerBurst k r x).bursts.get i).length ≤ 32 := by
  unfold offerBurst
  split
  · simp only [Bank.get_modify]
    split
    · subst_vars
      simp only [List.length_append, List.length_singleton]
      omega
    · exact h
  · exact h

/-! ## RESTART at the transmitter (01/R10) -/

@[simp] theorem payRestart_restartOwed (x : Transmit) : (payRestart x).restartOwed = false := by
  unfold payRestart; split <;> simp_all [clearTransmit]

@[simp] theorem payRestart_sending (x : Transmit) : (payRestart x).sending = x.sending := by
  unfold payRestart; split <;> rfl

@[simp] theorem payRestart_tally (x : Transmit) : (payRestart x).tally = x.tally := by
  unfold payRestart; split <;> rfl

theorem payRestart_of_not_owed {x : Transmit} (h : x.restartOwed = false) : payRestart x = x := by
  simp [payRestart, h]

/-! ## Records of a motion job (07/R121) -/

theorem searchedIn_start (ticks : Nat → Nat) (blocks n : Nat) : searchedIn ticks blocks n 0 = 0 := by
  cases blocks <;> simp [searchedIn]

theorem searchedIn_le (ticks : Nat → Nat) (blocks n e : Nat) : searchedIn ticks blocks n e ≤ blocks := by
  induction blocks generalizing n e with
  | zero => simp [searchedIn]
  | succ blocks ih =>
    unfold searchedIn
    split
    · have := ih (n + 1) (e - (ticks n + 1))
      omega
    · omega

/-- The count never falls while time passes. -/
theorem searchedIn_mono (ticks : Nat → Nat) (blocks n : Nat) {d e : Nat} (h : d ≤ e) :
    searchedIn ticks blocks n d ≤ searchedIn ticks blocks n e := by
  induction blocks generalizing n d e with
  | zero => simp [searchedIn]
  | succ blocks ih =>
    unfold searchedIn
    split
    · rw [if_pos (by omega)]
      have := ih (n + 1) (show d - (ticks n + 1) ≤ e - (ticks n + 1) by omega)
      omega
    · omega

/-- No two searches end at one tick: the count grows by at most one in a tick. -/
theorem searchedIn_succ (ticks : Nat → Nat) (blocks n e : Nat) :
    searchedIn ticks blocks n (e + 1) ≤ searchedIn ticks blocks n e + 1 := by
  induction blocks generalizing n e with
  | zero => simp [searchedIn]
  | succ blocks ih =>
    unfold searchedIn
    split
    · split
      · have := ih (n + 1) (e - (ticks n + 1))
        rw [show e + 1 - (ticks n + 1) = e - (ticks n + 1) + 1 by omega]
        omega
      · rw [show e + 1 - (ticks n + 1) = 0 by omega, searchedIn_start]
    · omega

theorem recordsWritten_at_start (k : Chan) (j : Job) : recordsWritten k j.started j = 0 := by
  simp [recordsWritten, searchedIn_start]

/-! ## Slots that become FREE (03/R37, R47, R48) -/

/-- A slot that becomes FREE leaves its holder the status it then has, with PUBLISH_DEFERRED where that is DEFERRED. -/
theorem vacate_holder {s : State} {i : PubSlotNo} {p : PubIx} (b : Bool) (h : (s.pub.slots.get i).holder = some p) :
    vacate i b s = noteAdvert (countReleased b p (setSlot i .freed s)) p := by
  simp [vacate, h]

theorem noteAdvert_advert (s : State) (p : PubIx) : (noteAdvert s p).pub.adverts.get p = advertNow s p :=
  Bank.get_set_same ..

/-- A publishable that shows what it showed leaves everything as it was. -/
theorem noteAdvert_same {s : State} {p : PubIx} (h : s.pub.adverts.get p = advertNow s p) : noteAdvert s p = s := by
  have flags : s.pub.deferredFlags.modify p (fun f => f || (advertNow s p).status = .deferred
      && (s.pub.adverts.get p).status ≠ .deferred) = s.pub.deferredFlags := by
    rw [h]; simp [Bank.modify]
  unfold noteAdvert onPub
  dsimp only
  rw [flags]
  simp [← h]

/-! ## The line-present map (05/R75) -/

theorem mem_insertKey {ks : List Nat} {k x : Nat} : x ∈ insertKey ks k ↔ x = k ∨ x ∈ ks := by
  induction ks with
  | nil => simp [insertKey]
  | cons a rest ih =>
    simp only [insertKey]
    split
    · simp
    · split
      · subst_vars
        simp
      · simp only [List.mem_cons, ih]
        tauto

end Sys2Proof.Machine
end

