-- ==== Sys2Proof/Laws/PerInstr.lean ====
section
/-! SUPPORT. Statements of every command of the table, made one constructor at a time. -/

namespace Sys2Proof.Laws.SpiFrame

/-- How many argument bytes follow a code byte; an unknown code has none (12/R199). -/
def argCount (code : Byte) : Nat :=
  match code.toNat with
  | 2 => 1
  | 4 => 1
  | 5 => 3
  | 6 => 1
  | 7 => 4
  | _ => 0

/-- The bytes a well-formed command is sent as are its code byte and as many arguments as the code has (12/R199). -/
def Statement (i : Instr) : Prop :=
  WellFormed i = true → ∀ bytes, encodeSpi i = some bytes → ∃ code args, bytes = code :: args ∧ args.length = argCount code

theorem powerOn : Statement .powerOn := by
  intro _ bytes hb
  cases hb

theorem configReadDone (dt : Nat) (image : List (BitVec 32)) : Statement (.configReadDone dt image) := by
  intro _ bytes hb
  cases hb

theorem selectAsserted (dt : Nat) : Statement (.selectAsserted dt) := by
  intro _ bytes hb
  cases hb

theorem selectReleasedEarly (dt : Nat) : Statement (.selectReleasedEarly dt) := by
  intro _ bytes hb
  cases hb

theorem readSummary (dt : Nat) : Statement (.readSummary dt) := by
  intro _ bytes hb
  exact ⟨_, _, (Option.some.inj hb).symm, rfl⟩

theorem readChannel (dt : Nat) (channel : Byte) : Statement (.readChannel dt channel) := by
  intro _ bytes hb
  exact ⟨_, _, (Option.some.inj hb).symm, rfl⟩

theorem readPeers (dt : Nat) : Statement (.readPeers dt) := by
  intro _ bytes hb
  exact ⟨_, _, (Option.some.inj hb).symm, rfl⟩

theorem readCounters (dt : Nat) (block : Byte) : Statement (.readCounters dt block) := by
  intro _ bytes hb
  exact ⟨_, _, (Option.some.inj hb).symm, rfl⟩

theorem clearEvents (dt : Nat) (group flag inst : Byte) : Statement (.clearEvents dt group flag inst) := by
  intro _ bytes hb
  exact ⟨_, _, (Option.some.inj hb).symm, rfl⟩

theorem releaseLatch (dt : Nat) (channel : Byte) : Statement (.releaseLatch dt channel) := by
  intro _ bytes hb
  exact ⟨_, _, (Option.some.inj hb).symm, rfl⟩

theorem forceCopy (dt : Nat) (channel origin station publishable : Byte) : Statement (.forceCopy dt channel origin station publishable) := by
  intro _ bytes hb
  exact ⟨_, _, (Option.some.inj hb).symm, rfl⟩

theorem restart (dt : Nat) : Statement (.restart dt) := by
  intro _ bytes hb
  exact ⟨_, _, (Option.some.inj hb).symm, rfl⟩

theorem unknownCode (dt : Nat) (code : Byte) : Statement (.unknownCode dt code) := by
  intro hw bytes hb
  refine ⟨code, [], by simpa [encodeSpi] using hb.symm, ?_⟩
  have h : code = 0 ∨ 9 ≤ code.toNat := by
    have := hw
    simp only [WellFormed, codeUnknown, Bool.and_eq_true, Bool.or_eq_true, decide_eq_true_eq] at this
    exact this.1.1.2
  rcases h with rfl | h
  · rfl
  · have hn : ∀ n, code.toNat = n → 9 ≤ n := fun n e => e ▸ h
    unfold argCount
    split <;> first | rfl | (rename_i e; exact absurd (hn _ e) (by decide))

theorem recordReceived (dt : Nat) (lane : LaneNo) (flight : Nat) (words : List Word) : Statement (.recordReceived dt lane flight words) := by
  intro _ bytes hb
  cases hb

theorem recordSent (dt : Nat) : Statement (.recordSent dt) := by
  intro _ bytes hb
  cases hb

theorem beaconTimerExpiry (dt : Nat) : Statement (.beaconTimerExpiry dt) := by
  intro _ bytes hb
  cases hb

theorem qualifyingDeadline (dt : Nat) (lane : LaneNo) : Statement (.qualifyingDeadline dt lane) := by
  intro _ bytes hb
  cases hb

theorem liveDeadline (dt : Nat) (lane : LaneNo) : Statement (.liveDeadline dt lane) := by
  intro _ bytes hb
  cases hb

theorem lapsedDeadline (dt : Nat) (lane : LaneNo) : Statement (.lapsedDeadline dt lane) := by
  intro _ bytes hb
  cases hb

theorem millisecondTick (dt : Nat) : Statement (.millisecondTick dt) := by
  intro _ bytes hb
  cases hb

theorem refreshTimerExpiry (dt : Nat) (ch : Chan) : Statement (.refreshTimerExpiry dt ch) := by
  intro _ bytes hb
  cases hb

theorem passOverExpiry (dt : Nat) (ch : Chan) : Statement (.passOverExpiry dt ch) := by
  intro _ bytes hb
  cases hb

theorem revertHoldExpiry (dt : Nat) (ch : Chan) : Statement (.revertHoldExpiry dt ch) := by
  intro _ bytes hb
  cases hb

theorem finishDone (dt : Nat) (ch : Chan) (slot : SlotNo) : Statement (.finishDone dt ch slot) := by
  intro _ bytes hb
  cases hb

theorem stall (dt : Nat) (ch : Chan) : Statement (.stall dt ch) := by
  intro _ bytes hb
  cases hb

theorem motionJobStart (dt : Nat) (ch : Chan) : Statement (.motionJobStart dt ch) := by
  intro _ bytes hb
  cases hb

theorem motionJobDone (dt : Nat) (ch : Chan) : Statement (.motionJobDone dt ch) := by
  intro _ bytes hb
  cases hb

theorem renderSelection (dt : Nat) (ch : Chan) : Statement (.renderSelection dt ch) := by
  intro _ bytes hb
  cases hb

theorem renderBegin (dt : Nat) (ch : Chan) : Statement (.renderBegin dt ch) := by
  intro _ bytes hb
  cases hb

theorem concealPoint (dt : Nat) (ch : Chan) : Statement (.concealPoint dt ch) := by
  intro _ bytes hb
  cases hb

theorem renderComplete (dt : Nat) (ch : Chan) : Statement (.renderComplete dt ch) := by
  intro _ bytes hb
  cases hb

theorem scanStart (dt : Nat) (ch : Chan) (entry : EntryOrder) : Statement (.scanStart dt ch entry) := by
  intro _ bytes hb
  cases hb

theorem outputLineRecords (dt : Nat) (ch : Chan) : Statement (.outputLineRecords dt ch) := by
  intro _ bytes hb
  cases hb

theorem referencePulse (dt : Nat) : Statement (.referencePulse dt) := by
  intro _ bytes hb
  cases hb

theorem refQualifyTimeout (dt : Nat) : Statement (.refQualifyTimeout dt) := by
  intro _ bytes hb
  cases hb

theorem refMissed (dt : Nat) : Statement (.refMissed dt) := by
  intro _ bytes hb
  cases hb

theorem acquisitionTimerExpiry (dt : Nat) (ch : Chan) : Statement (.acquisitionTimerExpiry dt ch) := by
  intro _ bytes hb
  cases hb

theorem holdoverTimerExpiry (dt : Nat) (ch : Chan) : Statement (.holdoverTimerExpiry dt ch) := by
  intro _ bytes hb
  cases hb

theorem decayTimerExpiry (dt : Nat) (ch : Chan) : Statement (.decayTimerExpiry dt ch) := by
  intro _ bytes hb
  cases hb

theorem ingestMarker (dt : Nat) (tail : List Sample) (flag check : Sample) : Statement (.ingestMarker dt tail flag check) := by
  intro _ bytes hb
  cases hb

theorem ingestSampleGroup (dt : Nat) (cb y0 cr y1 : Sample) : Statement (.ingestSampleGroup dt cb y0 cr y1) := by
  intro _ bytes hb
  cases hb

theorem ingestDeadline (dt : Nat) : Statement (.ingestDeadline dt) := by
  intro _ bytes hb
  cases hb

end Sys2Proof.Laws.SpiFrame
end

