-- ==== Sys2Proof/Tests/Slice0.lean ====
section
/-! SUPPORT. Small tests against the manual's worked values, and a witness for the hypotheses of each statement. -/

namespace Sys2Proof.Tests

open Sys2Proof.Machine

set_option Elab.async false

/-! ## Small states -/

/-- Channel 0 takes feed 5, of a 12-line crop, and shows it as feed 11. -/
def cfg : ChanConfig :=
  { feed := some 5, target := 2, outFeed := some 11, outRank := 1, outPublish := true, crop := ⟨0, 12, 0, 16⟩
    delay := 1000000, stillThreshold := 4, repeatThreshold := 3, combThreshold := 10, matchLimit := 12, lockCycles := 4
    cadenceEnable := true, acquisitionSeconds := 3, holdoverMs := 2000, relockLimit := 4, revertSeconds := 1
    callDuration := 60, refreshMs := 20, placement := ⟨4, 8, 8, 12⟩, fillColour := blackColour, safeMode := .bars
    matrix := identityMatrix, offsets := Bank.fill 3 0, legal := false, vTable := bilinear, hTable := bilinear }

def station : StationConfig :=
  { station := 1, ingestFeed := some 9, ingestRank := 3, ingestPublish := true, reference := 2, eventMask := 0
    chans := Bank.fill 2 cfg }

/-- The copy of feed 5 that station 2 publishes, heard on lane 0. -/
def copy : Copy := ⟨.lane 0, 2, 0⟩

def entry : PubEntry := ⟨some 5, 1, 0, .available, 2, 0⟩

/-- Lane 0: station 2, LIVE, publishing feed 5. -/
def peer : PeerEntry :=
  { state := .live, station := some 2, epoch := some 7, count := 3, startMark := false, lastArrival := some 99990000
    deadline := some 100098000, offset := 500, stepCount := 0, entries := ⟨[entry, .empty, .empty], rfl⟩ }

/-- A channel that has its copy, in ACQUIRING, its port scanning and the two pictures of its ring COMPLETE. -/
def held (stamp : Time) : Slot :=
  { Slot.empty with state := .complete, raws := [⟨.fieldTop, 3, stamp, 0, none⟩], committed := some stamp }

def channel : Channel :=
  { Channel.powerOn with
    csl := { Selector.powerOn with selection := some copy, callTarget := some 2, refresh := some 100000000 }
    int := { Intake.powerOn with
      aim := some copy, standard := 2, crop := some ⟨0, 12, 0, 16⟩, pEst := 450450, newest := some 99900000
      lastCommitted := some 99900000, lastCommitTime := some 98000000, committed := [0, 1]
      slots := ((Bank.fill 12 Slot.empty).set 0 (held 99449550)).set 1 (held 99900000) }
    cad := { Cadence.powerOn with rec32 := ⟨some .film32, none, 0⟩, rec22 := ⟨some .film22, none, 0⟩ }
    ren := { Render.powerOn with dEff := some 1000000 }
    sup := { state := .acquiring, relock := 3, acquisition := some 100000000, holdover := none, decay := none }
    port := { Port.powerOn with
      standard := some 2, tOut := some 99549550, tNext := some 100000000, lastFrame := some 99549550 } }

/-- A station that is RUNNING at tick 100,000,000, a record on its lane. -/
def running : State :=
  { State.reset with
    now := 100000000, station := .running, config := some station, clampCount := some 0
    lanes := (Bank.fill 7 Lane.powerOn).set 0 { Lane.powerOn with entry := peer }
    tx := { Transmit.powerOn with beaconDue := some 100000000, startCount := 3, sending := some [1] }
    pub := { Publication.powerOn with tick := some 100000000 }
    ref := { Reference.powerOn with standard := 2 }
    chans := (Bank.fill 2 Channel.powerOn).set 0 channel }

/-- The state after a command. -/
def after (c : Instr) (s : State) : State :=
  match exec c s with
  | .next t => t
  | _ => s

/-- A change of channel 0. -/
def with0 (f : Channel → Channel) : State := onChan 0 f running

/-- Channel 0 converting, with a render that awaits its pictures. -/
def waiting : RenderRecord :=
  { picture := 1, tOut := 100000000, select := 99549550, conceal := 99943694, point := 99500000, state := .waiting
    a := 0, b := some 1, early := false, prelim := some 7, mode := none, weight := none, buffer := 0, concealed := false }

def converting (r : Option RenderRecord) : Channel :=
  { channel with
    sup := { state := .converting, relock := 3, acquisition := none, holdover := none, decay := some 100000000 }
    ren := { channel.ren with record := r } }

def rendering (r : Option RenderRecord) : State := with0 fun _ => converting r

/-! ## Well-formed commands -/

theorem test_elapsed_too_long : WellFormed (.recordSent (2 ^ 47)) = false ∧ WellFormed (.recordSent (2 ^ 47 - 1)) = true := by
  decide

theorem test_image_too_long : imageFits (.configReadDone 0 (List.replicate 1118 0)) = false
    ∧ imageFits (.configReadDone 0 (List.replicate 1117 0)) = true := by decide +kernel

theorem test_known_code : WellFormed (.unknownCode 0 8) = false ∧ WellFormed (.unknownCode 0 9) = true := by decide

theorem test_empty_record : WellFormed (.recordReceived 0 3 0 []) = false := by decide

theorem test_whole_group_before_marker : WellFormed (.ingestMarker 0 [1, 2, 3, 4] 572 451) = false
    ∧ WellFormed (.ingestMarker 0 [1, 2, 3] 572 451) = true := by decide

/-! ## The manual's worked values -/

/-- The table of 08/R137. -/
theorem test_projection : (shiftsOf 44 ⟨20, -6⟩, shiftsOf 32 ⟨5, -5⟩, shiftsOf 1 ⟨7, 0⟩)
    = (⟨14, -4, 6, -2⟩, ⟨3, -3, 2, -2⟩, ⟨0, 0, 7, 0⟩) := by decide

/-- 11/R183: a period of 450,225 ticks of a progressive 1080-line picture matches code 11, and 451,000 another. -/
theorem test_nearest_code : matchCode ⟨1080, some 1920, 450225, some .progressive⟩ false = some 11
    ∧ matchCode ⟨1080, some 1920, 450224, some .progressive⟩ false = some 13
    ∧ matchCode ⟨1080, some 1920, 452703, some .progressive⟩ false = none := by decide

/-- The deadlines of 11/R184 and R185. -/
theorem test_deadlines : measuringDeadline 0 = 1689187
    ∧ ([13, 11, 5, 8, 7, 12, 9] : List StdCode).map (lockedDeadline · 0)
      = [675000, 675675, 810000, 1351350, 1620000, 1687500, 1689187] := by decide

/-- The tolerances of 11/R183. -/
theorem test_tolerances : ([13, 11, 5, 8, 7, 12, 9] : List StdCode).map (fun c => (standardOf c).rawPeriod / 200)
    = [2250, 2252, 2700, 4504, 5400, 5625, 5630] := by decide

/-- The marker codes of 11/11.1, with their check words. -/
theorem test_marker_words : markerWords .pictureStart 1 = [1023, 0, 620, 403] ∧ markerWords .lineEnd 0 = [1023, 0, 572, 451]
    := by decide

/-- An event summary has the station state in its upper bits and a bit for each set group (12/R201). -/
theorem test_summary : eventSummary (flagStation running .restarted) = 96 := by decide

/-! ## Commands, one step each -/

theorem test_acquire_timeout : (chan (after (.acquisitionTimerExpiry 0 0) running) 0).sup.state = .safe := by decide +kernel

theorem test_holdover_latches :
    (chan (after (.holdoverTimerExpiry 0 0) (with0 fun c => { c with sup := ⟨.holdover, 3, none, some 100000000, none⟩ })) 0).sup
      = ⟨.latched, 4, none, none, none⟩ := by decide +kernel

theorem test_release_latch :
    (chan (after (.releaseLatch 0 0) (with0 fun c => { c with sup := ⟨.latched, 4, none, none, none⟩ })) 0).sup
      = ⟨.acquiring, 0, some 181000000, none, none⟩ := by decide +kernel

theorem test_stall_enters_holdover :
    (chan (after (.stall 0 0) (rendering none)) 0).sup = ⟨.holdover, 3, none, some 154000000, none⟩ := by decide +kernel

theorem test_decay : (chan (after (.decayTimerExpiry 0 0) (rendering none)) 0).sup.relock = 2 := by decide +kernel

theorem test_fourth_pulse_is_valid :
    (after (.referencePulse 900900) { running with
      ref := { running.ref with state := .qualifying, good := some 3, lastPulse := some 100000000 } }).ref.expected
      = some 101801800 := by decide

theorem test_third_miss :
    (after (.refMissed 900) { running with ref := { running.ref with
      state := .valid, expected := some 100000000, miss := some 2, lastPulse := some 99099100, measured := some 900900 } }).ref.state
      = .absent := by decide

theorem test_bad_marker : (after (.ingestMarker 0 [] 540 0) running).ing.tally.get 0 = 1 := by decide +kernel

theorem test_line_of_one_group :
    ((after (.ingestMarker 0 [7] 572 451) { running with ing := { running.ing with
      state := .measuring, raw := some ⟨0, 0, 1, none, false⟩, openLine := some ⟨0, [⟨1, 2, 3, 4⟩], [], 0⟩ } }).ing.raw)
      = some ⟨0, 0, 1, some 2, true⟩ := by decide

/-- 11/R179: a marker whose four words stand in two groups of samples is a marker; the words after it are samples. -/
theorem test_marker_across_groups :
    let s := after (.ingestSampleGroup 0 5 6 1023 0) { running with ing := { running.ing with
      state := .measuring, raw := some ⟨0, 0, 1, none, false⟩, openLine := some ⟨0, [⟨1, 2, 3, 4⟩], [], 0⟩ } }
    (after (.ingestSampleGroup 0 572 451 7 8) s).ing.raw = some ⟨0, 0, 1, some 2, true⟩
      ∧ (after (.ingestSampleGroup 0 572 451 7 8) s).ing.openLine = none := by decide +kernel

theorem test_lapse : (lane (after (.liveDeadline 98000 0) running) 0).entry.deadline = some 106848000 := by decide +kernel

theorem test_beacon_skipped :
    (after (.beaconTimerExpiry 0) { running with tx := { running.tx with beaconPending := true } }).tx.tally.get 1 = 1 := by
  decide +kernel

/-- 03/R37, R48: a holder whose ENDING slot frees while it is still called becomes DEFERRED, flagged, before the slot is
granted to it again. -/
theorem test_deferred_before_regrant :
    let s := { rendering none with pub := setDemand 1 2 7 { running.pub with
      adverts := running.pub.adverts.set 1 ⟨.sending, 1, 2⟩
      slots := ⟨[⟨.ending, some 1, true, some .release, true⟩, .freed], rfl⟩ } }
    let t := settle (linesOnSlot 0 1 ⟨1, 1, 11, true, 4, 1, 0, [⟨4, 4, 4, 4⟩]⟩ s)
    t.pub.deferredFlags.get 1 = true ∧ (t.pub.slots.get 0).state = .granted ∧ (t.pub.adverts.get 1).status = .sending := by
  decide +kernel

/-- 03/R36: a source that starts producing with its row demanded becomes DEFERRED, flagged, and is then granted a slot. -/
def starting : State :=
  { running with
    ing := { running.ing with state := .locked, locked := 2 }
    pub := setDemand 0 2 7 { running.pub with adverts := running.pub.adverts.set 0 ⟨.absent, 0, 0⟩ } }

theorem test_deferred_at_start : ((noteStarts starting).pub.adverts.get 0).status = .deferred
    ∧ (settle starting).pub.deferredFlags.get 0 = true ∧ ((settle starting).pub.slots.get 0).state = .granted := by
  decide +kernel

/-- 04/R53: the generation of channel 0's output changes in the command that frees its slot, and channel 1 re-judges. -/
def freed : State :=
  let s0 : State := { running with
    config := some { station with chans := ⟨[cfg, { cfg with feed := some 11, outFeed := none }], rfl⟩ }
    chans := ⟨[converting none, { channel with csl := .powerOn, int := { channel.int with aim := none } }], rfl⟩ }
  { s0 with pub := { s0.pub with
    adverts := ⟨[advertNow s0 0, { advertNow s0 1 with generation := (advertNow s0 1).generation + 1 }, advertNow s0 2], rfl⟩
    slots := ⟨[⟨.carrying, some 1, false, none, false⟩, .freed], rfl⟩ } }

theorem test_generation_heard_as_slot_frees : selectionOf freed 1 = none
    ∧ selectionOf (settle freed) 1 = some ⟨.internal, 1, 1⟩ := by decide +kernel

/-- 01/R13: both channels' passed-over copies are due at one instant; channel 0's call goes first, whichever comes, also
where the lane was idle and channel 1's had begun. -/
def bothPassed : State :=
  let k : Channel := { channel with
    csl := { Selector.powerOn with passOver := [⟨2, 0, 0, 100000000⟩, ⟨2, 0, 1, 100000000⟩] }
    int := { channel.int with aim := none } }
  onLane 0 (fun x => { x with entry := { peer with entries := ⟨[entry, { entry with feed := some 12 }, .empty], rfl⟩ } })
    { running with
      config := some { station with chans := ⟨[cfg, { cfg with feed := some 12 }], rfl⟩ }
      chans := ⟨[k, k], rfl⟩ }

theorem test_channel_0_calls_first :
    (after (.passOverExpiry 0 0) (after (.passOverExpiry 0 1) bothPassed)).tx.callQueue.map (·.feed) = [5, 12] := by
  decide +kernel

theorem test_begun_call_gives_way :
    let s := after (.passOverExpiry 0 1) { bothPassed with tx := { bothPassed.tx with sending := none } }
    let t := after (.passOverExpiry 0 0) s
    s.tx.sending = some (encodeRecord (.call ⟨1, 2, 12, 60⟩)) ∧ t.tx.sending = some (encodeRecord (.call ⟨1, 2, 5, 60⟩))
      ∧ t.tx.callQueue = [⟨2, 12, 60⟩] ∧ t.tx.tally.get (txCtrIx .calls) = 1 := by decide +kernel

/-- 04/R61: no release of a demand that the other channel's selection keeps up. -/
theorem test_release_kept_up :
    let both : State := { running with chans := Bank.fill 2 channel }
    standingCalls both 0 [⟨2, 5, 0⟩, ⟨2, 5, 60⟩, ⟨2, 6, 0⟩, ⟨3, 5, 0⟩] = [⟨2, 5, 60⟩, ⟨2, 6, 0⟩, ⟨3, 5, 0⟩] := by
  decide +kernel

/-- The table of 09/R145: 1080i, 720p and 480i. -/
theorem test_placements : (cutRect ⟨0, 1080, 240, 1440⟩ 1080 1920, cutRect ⟨40, 800, 0, 1280⟩ 720 1280,
    cutRect ⟨600, 100, 0, 720⟩ 480 720)
    = ((⟨0, 1080, 240, 1440⟩, false), (⟨40, 680, 0, 1280⟩, false), (⟨0, 480, 0, 720⟩, true)) := by decide

/-- 10/R174, 03/R45: a scan start of a producing channel forms a PICTURE record, and its GRANTED slot carries it. -/
theorem test_picture_carried :
    let s := rendering none
    let t := after (.scanStart 0 0 .beforeSource) { s with pub := setDemand 1 2 7 { s.pub with
      slots := ⟨[⟨.granted, some 1, false, none, false⟩, .freed], rfl⟩ } }
    t.pub.slots.get 0 = ⟨.carrying, some 1, true, none, false⟩
      ∧ t.tx.bursts.get 0 = [.picture ⟨1, 1, 11, 1, 1, .fieldBottom, 2, 100000000, 240, 720⟩]
      ∧ t.pub.lastSequence.get 1 = 1 := by decide +kernel

/-- 01/R10: a RESTART during a record waits for its end; the transmitter is then idle at rest. -/
theorem test_restart_waits_for_record :
    let s := after (.restart 0) { running with tx := { running.tx with beaconPending := true } }
    s.tx.sending = some [1] ∧ s.tx.beaconPending = true ∧ (after (.recordSent 0) s).tx.beaconPending = false
      ∧ (after (.recordSent 0) s).tx.sending = none := by decide +kernel

/-- 12/R197: after the end of a response its bytes are 0. -/
theorem test_response_byte : responseByte (after (.unknownCode 0 9) running).mgp 0 = 1
    ∧ responseByte (after (.unknownCode 0 9) running).mgp 1 = 0 := by decide +kernel

theorem test_demand_counts_down : (((after (.millisecondTick 0) { running with
    pub := setDemand 1 2 3 running.pub }).pub.demand.get 1).get 2) = 2 := by decide +kernel

/-- 01/R13: with a record on the lane the call is queued at the end of the command. -/
theorem test_refresh_offers : (after (.refreshTimerExpiry 0 0) running).tx.callQueue = [⟨2, 5, 60⟩]
    ∧ (chan (after (.refreshTimerExpiry 0 0) running) 0).csl.refresh = some 100540000 := by decide +kernel

theorem test_scan_slews :
    (chan (after (.scanStart 0 0 .beforeSource) (with0 fun c => { c with
      port := { c.port with parity := 1, lock := .pulling, pendingError := some (-40) } })) 0).port.tNext
      = some 100450423 := by decide +kernel

theorem test_first_scan_is_parity_0 :
    (chan (after (.scanStart 0 0 .beforeSource) (with0 fun c => { c with
      port := { c.port with tOut := none, parity := 1, lastFrame := none } })) 0).port.parity = 0 := by decide +kernel

/-- 10/R165, R169: a DONE buffer is taken in HOLDOVER; its picture is marked as the scan start takes it. -/
theorem test_scan_takes_done_in_holdover :
    let s := with0 fun c => { converting (some { waiting with state := .done }) with
      sup := ⟨.holdover, 3, none, some 200000000, none⟩, port := { c.port with parity := 1 } }
    (((chan s 0).port.buffers.get 0).rendered, (chan (after (.scanStart 0 0 .afterRecord) s) 0).port.source,
      ((chan (after (.scanStart 0 0 .afterRecord) s) 0).port.buffers.get 0).rendered) = (false, .buffer 0, true) := by
  decide +kernel

/-- 10/R167: the third bar, and the fill colour kept inside the legal range. -/
theorem test_bars_and_fill :
    scanGroup { channel with port := { channel.port with source := .bars } } 2 5 200 = ⟨625, 525, 176, 525⟩
    ∧ scanGroup { channel with
        port := { channel.port with source := .fill }
        siz := { Sizer.powerOn with legal := true, fillColour := ⟨1015, 3, 970⟩ } } 2 5 200 = ⟨64, 940, 960, 940⟩ := by
  decide +kernel

theorem test_emit_first_line : ((chan (after (.outputLineRecords 0 0) running) 0).port.emitted.take 8)
    = [1023, 0, 556, 467, 512, 64, 512, 64] := by decide +kernel

theorem test_begin_vectorless : (chan (after (.renderBegin 0 0) (rendering (some waiting))) 0).ren.record.map (·.mode)
    = some (some .plain) := by decide +kernel

/-- 08/R135: at the conceal point a record whose B is not COMPLETE begins A-only and late; one whose A is not yet COMPLETE
waits, concealed. -/
def concealing (a b : SlotState) : Channel :=
  onSlot 0 (fun x => { x with state := a }) (onSlot 1 (fun x => { x with state := b }) (converting (some waiting)))

theorem test_concealed :
    ((chan (after (.concealPoint 0 0) (with0 fun _ => concealing .complete .finishing)) 0).ren.record.bind (·.mode),
      (chan (after (.concealPoint 0 0) (with0 fun _ => concealing .finishing .complete)) 0).ren.record.map
        fun r => (r.state, r.concealed)) = (some .aOnly, some (.waiting, true)) := by decide +kernel

/-- 12/R200: the outcome, and RUNNING as the first value. -/
theorem test_read_summary : (after (.readSummary 0) running).mgp.response.take 9 = [0, 0, 0, 0, 0, 0, 0, 0, 1] := by
  decide +kernel

theorem test_refused_code : (after (.unknownCode 0 9) running).mgp.response = [1] := by decide +kernel

theorem test_restart_epoch : (after (.restart 0) { running with epoch := 255 }).epoch = 0 := by decide +kernel

/-! ## Witnesses: states and operands that meet the hypotheses of each statement -/

/-- A step from a queue, and an empty queue. -/
theorem witness_StepRunsTheFrontCommand :
    ({ running with pending := [.recordSent 5] } : State).pending = [.recordSent 5] ∧ running.pending = [] := by decide

theorem witness_EveryCommandAnswersNext : Instr.restart 5 ≠ .powerOn ∧ ∃ t, exec (.restart 5) running = .next t :=
  ⟨by decide, _, rfl⟩

theorem witness_FlagsStaySet : isPowerOn (.restart 5) = false ∧ clearsFlags (.restart 5) = false
    ∧ (groupFlags (flagStation running .restarted) 5)[0]? = some true := by decide

/-- An image whose words after the ninth the memory does not supply: station 1, mask 5, and channel 0 takes feed 5 in
standard 2. Its 1,117th word, all ones, is the sum of the others. -/
def image : List (BitVec 32) := [1, 9, 3, 1, 2, 5, 5, 2, 1078]

theorem image_accepted : checksumHolds image = true ∧ checksumHolds [1] = false := by
  rw [checksum_short _ (by decide), checksum_short _ (by decide)]
  decide

theorem image_mask : (configOf image).eventMask = 5 := by
  rw [configOf_eq]
  decide +kernel

theorem witness_EventLineAndMask : checksumHolds [1] = false
    ∧ (after (.configReadDone 0 image) State.reset).eventMask ≠ State.reset.eventMask := by
  refine ⟨image_accepted.2, ?_⟩
  have h : after (.configReadDone 0 image) State.reset = conclude (readDone image (advance 0 State.reset)) := rfl
  rw [h, (conclude_within _).eventMask, accepted_eventMask _ _ rfl image_accepted.1, image_mask]
  decide

/-- A station that loads anew, its mask empty. -/
theorem witness_EventLineAndMask_loading : ({ running with station := .loading } : State).station = .loading
    ∧ ({ running with station := .loading } : State).eventMask = 0 := ⟨rfl, rfl⟩

theorem witness_BlocksChangeOnlyByTheirCommands : touchesLane 0 (.recordSent 5) = false ∧ touchesIngest (.recordSent 5) = false
    ∧ touchesReference (.recordSent 5) = false ∧ isManagement (.recordSent 5) = false ∧ isConfigRead (.recordSent 5) = false
    ∧ isRestart (.recordSent 5) = false ∧ touchesTimebase 0 (.scanStart 5 1 .beforeSource) = false
    ∧ touchesDemand (.recordSent 5) = false ∧ touchesForced 0 (.recordSent 5) = false
    ∧ touchesChannel 1 (.recordReceived 0 0 0 []) = false ∧ isSelecting running 1 = false ∧ selectionOf running 1 = none
    ∧ (chan running 1).int.aim = none := by decide

theorem witness_TheEndOfACommand : arbitrate (conclude running) = conclude running
    ∧ (∀ p, (conclude running).pub.adverts.get p = advertNow (conclude running) p)
    ∧ (conclude running).pub.unheard = false
    ∧ (conclude running).tx.offers = Bank.fill 2 [] ∧ (conclude running).tx.instant = none
    ∧ (conclude running).tx.sending.isSome ∧ isSelecting running 1 = false := by decide +kernel

/-- One state of a working station, on which every law stands. -/
def atWork : State := { rendering (some waiting) with pending := [.finishDone 5 0 3] }

theorem witness_StoredValuesKept : configLaw atWork ∧ planesLaw atWork := by constructor <;> decide +kernel
theorem witness_LinkLawsKept : laneLaw atWork ∧ transmitLaw atWork ∧ publicationLaw atWork ∧ quietLaw atWork
    ∧ supervisorLaw atWork ∧ selectionLaw atWork := by
  refine ⟨?_, ?_, ?_, ?_, ?_, ?_⟩ <;> decide +kernel
theorem witness_LinkLawsKept_at_rest : transmitLaw State.reset ∧ quietLaw State.reset ∧ State.reset.station ≠ .running
    ∧ State.reset.tx.restartOwed = false := by refine ⟨?_, ?_, ?_, ?_⟩ <;> decide +kernel
theorem witness_InputLawsKept : ingestLaw atWork ∧ referenceLaw atWork := by constructor <;> decide +kernel
theorem witness_ChannelLawsKept : portLaw atWork ∧ supervisorLaw atWork ∧ configLaw atWork ∧ selectionLaw atWork
    ∧ cadenceLaw atWork := by refine ⟨?_, ?_, ?_, ?_, ?_⟩ <;> decide +kernel
theorem witness_PictureRingLawKept : pictureRingLaw atWork := fun k => ⟨by revert k; decide +kernel, by revert k; decide +kernel⟩
theorem witness_RenderLawKept : renderLaw atWork := by decide +kernel
theorem witness_AStepThere : ∃ t, step atWork = .next t := ⟨_, rfl⟩

/-! Records -/

def beaconOf (n : StationNo) : LinkRecord := .beacon ⟨n, false, 7, 99989500, ⟨[entry, .empty, .empty], rfl⟩⟩
def callOf (f : FeedNo) : LinkRecord := .call ⟨2, 1, f, 9⟩
def pictureOf (kind : Kind) (stamp : Time) : LinkRecord := .picture ⟨2, 0, 5, 4, 0, kind, 2, stamp, 240, 720⟩
def linesOf (last : Bool) : LinkRecord := .lines ⟨2, 0, 5, last, 4, 0, 14, [⟨512, 100, 512, 101⟩]⟩

theorem witness_RoundTrips : recordOk (beaconOf 2) = true ∧ recordOk (callOf 63) = true
    ∧ recordOk (.picture ⟨2, 0, 5, 4, 0, .frame, 13, 0, 1152, 2048⟩) = true
    ∧ recordOk (.lines ⟨2, 0, 5, true, 4, 1151, 2046, [⟨4, 1019, 4, 1019⟩]⟩) = true
    ∧ WellFormed (.forceCopy 3 1 255 0 0) = true ∧ encodeSpi (.forceCopy 3 1 255 0 0) = some [7, 1, 255, 0, 0] := by decide

theorem witness_OneWrongBitFailsTheCrc : recordOk (callOf 63) = true ∧ 2 ≤ (headerWords (callOf 63)).length
    ∧ ¬ ((2 = 0) ∧ 12 ≤ 15) ∧ ¬ ((0 = 0) ∧ 12 ≤ 11) := by decide

theorem witness_ConfigurationRead : State.reset.station = .loading ∧ State.reset.tx.sending = none
    ∧ ({ State.reset with tx := { Transmit.powerOn with sending := some [1], restartOwed := true } } : State).tx.sending.isSome ∧ checksumHolds image = true ∧ checksumHolds [1] = false
    ∧ running.station ≠ .loading ∧ judgeChannel ((configOf image).chans.get 0) = .configured
    ∧ judgeChannel ((configOf image).chans.get 1) ≠ .configured ∧ isSelecting State.reset 1 = false
    ∧ judgeChannel { cfg with feed := some 5, outFeed := some 5 } = .refused :=
  ⟨rfl, rfl, rfl, image_accepted.1, image_accepted.2, by rw [configOf_eq]; decide +kernel⟩

theorem witness_RestartCommand : running.tx.offers = Bank.fill 2 [] ∧ running.tx.sending.isSome
    ∧ ({ running with tx := { running.tx with sending := none } } : State).tx.sending = none
    ∧ ChanCtr.committed ∉ ([.flushes, .renderAbandoned, .motionAbandoned, .cadenceBreaks] : List ChanCtr) := by decide

theorem witness_ImageValuesInRange : (rawValues [1])[0]? = some 1 ∧ (rawValues [1])[1116]? = some (-1) := by decide +kernel

/-- A station whose two ports scan, one of them at its target, and whose reference is VALID. -/
theorem witness_ConfigurationRead_channels : (∀ j, (chan State.reset j).sup.state = .idle) ∧ (chan State.reset 0).int.standard = 0
    ∧ State.reset.tx.instant = none ∧ cfg.target ≠ 0 ∧ channel.port.standard = some cfg.target
    ∧ Channel.powerOn.port.standard ≠ some cfg.target
    ∧ (({ Reference.powerOn with state := .valid, standard := 3 } : Reference).state = .valid)
    ∧ meetsFrame cfg.placement (standardOf 2).lines (standardOf 2).samples ∧ ¬ meetsFrame ⟨600, 100, 0, 720⟩ 480 720
    ∧ (∃ accepted : FilterTable → Prop, ∀ x, accepted x ↔ ∀ i : Fin 64,
        (x.get i).get 0 + (x.get i).get 1 + (x.get i).get 2 + (x.get i).get 3 = 256) := by
  refine ⟨?_, ?_, ?_, ?_, ?_, ?_, ?_, ?_, ?_, _, fun _ => Iff.rfl⟩ <;> decide +kernel

theorem witness_SelectBeginsAndEnds : running.mgp.phase = .idle
    ∧ (after (.selectAsserted 0) running).mgp.phase = .selected ∧ (after (.readPeers 0) running).mgp.phase = .received
    ∧ (groupFlags (flagStation running .restarted) 5)[0]? = some true
    ∧ (∀ j < 15, (groupFlags running 3)[j]? ≠ some true) := by decide +kernel

theorem witness_ReadsDisturbNothing : (1 : Byte).toNat = (1 : Chan).val ∧ (3 : Byte).toNat ≠ 4
    ∧ (∃ n : Nat → Values, ∀ x, n x = [BitVec.ofNat 64 x]) ∧ (chanConfig running 0).isSome ∧ chanConfig State.reset 1 = none
    ∧ (chan running 0).csl.selection = some copy ∧ (chan running 1).csl.selection = none
    ∧ (chan (rendering (some waiting)) 0).ren.record = some waiting ∧ (lane running 0).entry.state = .live :=
  ⟨by decide, by decide, ⟨_, fun _ => rfl⟩, by decide +kernel⟩

theorem witness_RefusedCommandsChangeNothing : 2 ≤ (2 : Byte).toNat ∧ 5 ≤ (5 : Byte).toNat ∧ State.reset.station = .loading
    ∧ running.station = .running ∧ flagsExist 6 255 0 = false ∧ flagsExist 5 3 0 = false
    ∧ (∀ k : Chan, (7 : Byte).toNat = k.val → (chan running k).sup.state = .idle)
    ∧ (∀ k : Chan, (1 : Byte).toNat = k.val → (chan running k).sup.state = .idle)
    ∧ (chan running 0).sup.state ≠ .idle ∧ (chan running 0).sup.state ≠ .latched
    ∧ forceable running 0 7 1 1 = false ∧ forceable running 0 8 1 0 = false := by decide +kernel

theorem witness_ClearEventsCommand : running.station ≠ .loading ∧ flagsExist 0 4 6 = true ∧ flagsExist 2 3 1 = true
    ∧ flagsExist 5 2 77 = true ∧ isCleared 2 3 1 5 = true ∧ isCleared 2 3 1 4 = false := by decide

theorem witness_LatchReleasedAndCopyForced : (chanConfig running 0).isSome
    ∧ (chan (with0 fun c => { c with sup := ⟨.latched, 4, none, none, none⟩ }) 0).sup.state = .latched
    ∧ (chan running 0).sup.state ≠ .idle ∧ forceable running 0 255 0 0 = true ∧ forceable running 0 6 7 2 = true
    ∧ forceable running 0 7 1 0 = true ∧ isEligible running 0 copy = true := by decide +kernel

theorem witness_RecordsThatReachNoBlock : ([20480] : List Word) ≠ [] ∧ headerLength 1 = some 11
    ∧ ([4096] : List Word).length < 11 ∧ ([8192, 0, 0] : List Word).getD 2 0 ≠ crc [8192, 0]
    ∧ (encodeRecord (callOf 5) ++ [0]).getD 2 0 = crc ((encodeRecord (callOf 5) ++ [0]).take 2)
    ∧ (∀ k q, (chan running k).int.aim = some q → q.origin ≠ .lane 1) := by
  refine ⟨?_, ?_, ?_, ?_, ?_, ?_⟩
  · decide
  · decide
  · decide
  · decide +kernel
  · decide +kernel
  · intro k q h
    have : q ∈ (chan running k).int.aim := h
    revert k
    intro k h1 h2
    have h3 : ∀ k : Chan, (chan running k).int.aim = none ∨ (chan running k).int.aim = some copy := by decide +kernel
    rcases h3 k with e | e <;> rw [e] at h1 <;> cases h1
    decide

/-- A header closed by its CRC word. -/
def sealed (h : List Word) : List Word := h ++ [crc h]

theorem witness_RecordsThatReachNoBlock_fields :
    (sealed [4096, 0, 0, 0, 32768, 0, 0, 0, 0, 0]).length = 11 ∧ (32768 : Word).toNat / 64 % 8 = 0
    ∧ (sealed [4096, 0, 0, 0, 32768, 0, 0, 0, 0, 0]).getD 10 0 = crc [4096, 0, 0, 0, 32768, 0, 0, 0, 0, 0]
    ∧ (sealed [8192 + 512 + 64, 0]).length = 3 ∧ (8192 + 512 + 64) / 512 % 8 = (8192 + 512 + 64) / 64 % 8
    ∧ (sealed [12288, 32, 0, 0, 0, 1152, 2048]).length = 8 ∧ 32 % 16 = 0
    ∧ (sealed [16384, 0, 1152, 0, 2]).length = 6 ∧ 1151 < 1152 % 2048
    ∧ (sealed [16384, 0, 1151, 2046, 2] ++ [0, 0, 0]).length ≠ 6 + 2 * (2 % 512) := by decide +kernel

/-- Whether a record is read back as it was. -/
def heard (r : LinkRecord) : Bool :=
  match checkRecord (encodeRecord r) with
  | .ok q => q = r
  | .error _ => false

theorem heard_spec {r : LinkRecord} (h : heard r = true) : checkRecord (encodeRecord r) = .ok r := by
  unfold heard at h
  split at h
  · rename_i q e
    rw [e, of_decide_eq_true h]
  · cases h

/-- A picture of the aimed lane from another station, publishable or feed. -/
theorem witness_RecordsThatReachNoBlock_aimed :
    checkRecord (encodeRecord (.picture ⟨3, 1, 6, 4, 0, .frame, 13, 0, 1152, 2048⟩))
      = .ok (.picture ⟨3, 1, 6, 4, 0, .frame, 13, 0, 1152, 2048⟩)
    ∧ (∀ k, (chan running k).int.aim = none ∨ (chan running k).int.aim = some copy) ∧ copy.origin = .lane 0
    ∧ copy.station ≠ 3 ∧ copy.pub ≠ 1 ∧ cfg.feed ≠ some 6 :=
  ⟨heard_spec (by decide +kernel), by decide +kernel⟩

theorem witness_BeaconReceived : checkRecord (encodeRecord (beaconOf 2)) = .ok (beaconOf 2)
    ∧ checkRecord (encodeRecord (beaconOf 1)) = .ok (beaconOf 1) ∧ ownNumber running = some 1 :=
  ⟨heard_spec (by decide +kernel), heard_spec (by decide +kernel), by decide⟩

/-- The lane of station 2 in each of its states. -/
def laneIn (st : LaneState) (n : Nat) : Lane := { Lane.powerOn with entry := { peer with state := st, count := n } }

theorem witness_LaneQualification : peer.station = some 2 ∧ peer.epoch = some 7 ∧ Machine.sdiff 100030500 99990000 ≤ 40500
    ∧ ¬ Machine.sdiff 100030501 99990000 ≤ 40500 ∧ (laneIn .qualifying 2).entry.state = .qualifying
    ∧ (laneIn .qualifying 2).entry.count = 2 ∧ (laneIn .lapsed 0).entry.state = .lapsed := by decide

theorem witness_OnlyAThirdBeaconMakesALaneLive :
    (lane (after (.recordReceived 0 0 500 (encodeRecord (beaconOf 2)))
      { running with lanes := (Bank.fill 7 Lane.powerOn).set 0 (laneIn .qualifying 2) }) 0).entry.state = .live := by
  decide +kernel

/-- The third beacon at 40,500 ticks after the second, and a tick too late. -/
theorem witness_OnlyAThirdBeaconMakesALaneLive_bound :
    let s := { running with lanes := (Bank.fill 7 Lane.powerOn).set 0 (laneIn .qualifying 2) }
    (lane (after (.recordReceived 30500 0 0 (encodeRecord (beaconOf 2))) s) 0).entry.state = .live
      ∧ (lane (after (.recordReceived 30501 0 0 (encodeRecord (beaconOf 2))) s) 0).entry.state = .qualifying := by
  decide +kernel

theorem witness_OffsetEstimate (b : Beacon) (hb : beaconOf 2 = .beacon b) :
    continues peer 99990007 b = true ∧ (sdiff (99990007 - b.emission) peer.offset).natAbs = 7
    ∧ (sdiff (99992700 - b.emission) peer.offset).natAbs = 2700 ∧ (sdiff (99992701 - b.emission) peer.offset).natAbs = 2701
    ∧ continues peer 99992701 b = true ∧ continues { peer with stepCount := 1 } 99992701 b = true
    ∧ continues { peer with epoch := some 8 } 99990007 b = false := by
  cases hb
  decide

theorem witness_LaneDeadlines : peer.deadline = some 100098000 ∧ 0 ≤ sdiff (running.now + BitVec.ofNat 48 98000) 100098000
    ∧ (laneIn .qualifying 1).entry.deadline = some 100098000 ∧ (lane running 0).entry.state = .live := by decide

def sevenCalls : List Call := (List.range 7).map fun i => ⟨Fin.ofNat 8 i, 5, 3⟩

theorem witness_QueuesAndTimers :
    (∃ q ∈ sevenCalls, q.target = 6 ∧ q.feed = 5) ∧ (∀ q ∈ sevenCalls, q.target ≠ 7 ∨ q.feed ≠ 5) ∧ sevenCalls.length < 8
    ∧ (sevenCalls ++ [(⟨7, 5, 3⟩ : Call)]).length = 8 ∧ (∀ q ∈ sevenCalls ++ [(⟨7, 5, 3⟩ : Call)], q.target ≠ 7 ∨ q.feed ≠ 6)
    ∧ (List.replicate 31 (callOf 5)).length < 32 ∧ 32 ≤ (List.replicate 32 (callOf 5)).length
    ∧ running.station = .running ∧ running.tx.beaconDue = some 100000000 ∧ running.pub.tick = some 100000000
    ∧ 0 ≤ sdiff (running.now + BitVec.ofNat 48 0) 100000000 := by decide +kernel

/-- An instant in which channel 1's call has begun to be sent, and channel 0 offers one. -/
def begun : State :=
  onTx (holdCalls 0 [⟨2, 5, 60⟩]) (after (.passOverExpiry 0 1) { bothPassed with tx := { bothPassed.tx with sending := none } })

theorem witness_QueuesAndTimers_instant : begun.tx.instant.map (·.time) = some begun.now
    ∧ begun.tx.instant.map (·.begun) = some true ∧ begun.config.isSome ∧ begun.tx.offers.get 0 ≠ []
    ∧ (takeCalls begun).tx.callQueue ≠ [] ∧ (∀ j ∈ running.tx.instant, j.time ≠ running.now)
    ∧ running.tx.offers = Bank.fill 2 [] ∧ (∃ keeps : Call → Bool, ∀ c, keeps c = true ↔ ∃ q, selectionOf running 0 = some q
      ∧ q.origin ≠ .internal ∧ q.station = c.target ∧ (chanConfig running 0).bind (·.feed) = some c.feed) := by
  refine ⟨by decide +kernel, by decide +kernel, by decide +kernel, by decide +kernel, by decide +kernel, by decide,
    by decide, fun c => keepsDemand running 0 (selectionOf running 0) c.target c.feed, fun c => ?_⟩
  simp [keepsDemand, selectionOf, and_assoc, show (chan running 0).csl.selection = some copy from rfl]

/-- What a transmitter with such contents finds at a record boundary. -/
def atBoundary (beacon : Bool) (calls : List Call) (b0 b1 : List LinkRecord) : State :=
  takeCalls (settle { running with tx := { running.tx with
    sending := none, beaconPending := beacon, callQueue := calls, bursts := ⟨[b0, b1], rfl⟩ } })

theorem witness_RecordBoundary : running.config = some station ∧ running.tx.restartOwed = false
    ∧ (after (.restart 0) running).tx.restartOwed = true ∧ (atBoundary true [] [] []).tx.beaconPending = true
    ∧ (atBoundary false [⟨2, 5, 3⟩] [] []).tx.callQueue = [⟨2, 5, 3⟩] ∧ (atBoundary false [] [] []).tx.callQueue = []
    ∧ (atBoundary false [] [callOf 5] [callOf 6]).tx.bursts.get 0 = [callOf 5]
    ∧ (atBoundary false [] [callOf 5] [callOf 6]).tx.mark ≠ 0 ∧ (atBoundary false [] [] [callOf 6]).tx.bursts.get 0 = []
    ∧ (atBoundary false [] [] [callOf 6]).tx.bursts.get 1 = [callOf 6] := by decide +kernel

theorem witness_CallReceived : checkRecord (encodeRecord (callOf 11)) = .ok (callOf 11) ∧ ownNumber running = some 1
    ∧ ownNumber { running with config := some { station with station := 3 } } ≠ some 1
    ∧ (lane running 0).entry.state = .live ∧ (lane running 0).entry.station = some 2 ∧ (lane running 1).entry.state ≠ .live
    ∧ carries running 1 = true ∧ running.config.bind (pubFeedOf · 1) = some 11
    ∧ (∀ p, carries running p = true → running.config.bind (pubFeedOf · p) ≠ some 12) := by
  refine ⟨heard_spec (by decide +kernel), ?_⟩
  decide +kernel

/-- Publishables 1 and 2 hold the slots while the ingest port locks and is called. -/
def crowded (sending : Bool) : State :=
  { running with
    ing := { running.ing with state := .locked, locked := 2 }
    pub := setDemand 0 2 7 { running.pub with slots :=
      ⟨[⟨.granted, some 1, false, none, false⟩, ⟨.carrying, some 2, sending, none, false⟩], rfl⟩ } }

theorem witness_StatusAndSlots : claims (crowded true) 0 = true ∧ ((crowded true).pub.slots.get 1).openPicture = true
    ∧ ((crowded true).pub.slots.get 0).holder = some 1 ∧ ((crowded false).pub.slots.get 1).openPicture = false
    ∧ claims { crowded true with pub := { (crowded true).pub with slots := Bank.fill 2 .freed } } 0 = true := by decide +kernel

theorem witness_StatusAndSlots_starts : (starting.pub.adverts.get 0).status = .absent ∧ carries starting 0 = true
    ∧ producing starting 0 = true ∧ (∀ i, (starting.pub.slots.get i).holder ≠ some 0)
    ∧ (starting.pub.demand.get 0).get 2 ≠ 0 ∧ (∀ p, (running.pub.adverts.get p).status ≠ .absent) := by decide +kernel

/-- Publishable 1 of a channel that produces, or not, in an ENDING slot that owes its release. -/
def ending (s : State) : State :=
  { s with pub := setDemand 1 2 7 { s.pub with
    adverts := s.pub.adverts.set 1 ⟨.sending, 1, 2⟩
    slots := ⟨[⟨.ending, some 1, true, some .release, true⟩, .freed], rfl⟩ } }

theorem witness_StatusAndSlots_ending :
    let s := ending (rendering none)
    (s.pub.slots.get 0).state = .ending ∧ (s.pub.slots.get 0).holder = some 1 ∧ (s.pub.slots.get (1 - 0)).holder ≠ some 1
      ∧ carries s 1 = true ∧ producing s 1 = true ∧ demanded s 1 = true ∧ (s.pub.adverts.get 1).status = .sending := by
  decide +kernel

theorem witness_StatusAndSlots_stopped :
    let s := ending (with0 fun c => { c with sup := ⟨.latched, 4, none, none, none⟩ })
    (s.pub.slots.get 0).state ≠ .free ∧ (s.pub.slots.get 0).holder = some 1 ∧ producing s 1 = false := by decide +kernel

/-- Publishable 1 of a producing channel in a slot of a state, called for or not. -/
def slotIn (st : PubSlotState) (opened : Bool) (calls : BitVec 8) : State :=
  let s := rendering none
  { s with pub := setDemand 1 2 calls { s.pub with slots := ⟨[⟨st, some 1, opened, none, false⟩, .freed], rfl⟩ } }

theorem witness_StatusAndSlots_carried : demanded (slotIn .granted false 7) 1 = true ∧ demanded (slotIn .carrying true 0) 1 = false
    ∧ producing (slotIn .carrying true 0) 1 = true ∧ carries (slotIn .carrying true 0) 1 = true
    ∧ ((slotIn .ending true 7).pub.slots.get 0).state = .ending ∧ ((slotIn .carrying false 0).pub.slots.get 0).openPicture = false
    ∧ ((slotIn .granted false 7).pub.slots.get (1 - 0)).holder ≠ some 1 ∧ (running.pub.slots.get 0).holder = none
    ∧ (chan running 1).int.aim = none ∧ (chan running 0).int.aim = some copy ∧ copy.origin ≠ .internal := by decide +kernel

/-- 03/R45, R47: a slot no longer called for is released at once, or as ENDING where its picture is open. -/
theorem test_release :
    ((reviewSlot (slotIn .granted false 0) 0).pub.slots.get 0, (reviewSlot (slotIn .carrying false 0) 0).pub.slots.get 0,
      (reviewSlot (slotIn .carrying true 0) 0).pub.slots.get 0)
      = (.freed, .freed, ⟨.ending, some 1, true, some .release, true⟩) := by decide +kernel

/-- The same feed twice: rank 1 as the second publishable, rank 3 as the first. -/
def twoCopies : State := onLane 0 (fun x => { x with entry := { peer with
  entries := ⟨[{ entry with rank := 3 }, entry, .empty], rfl⟩ } }) running

theorem witness_CopyOrder : (bestOf (eligibles twoCopies 0)).isSome ∧ revertTarget twoCopies 0 copy = some ⟨.lane 0, 2, 1⟩
    ∧ (candidates twoCopies 0).length = 23 ∧ State.reset.config = none ∧ (candidates State.reset 1).length = 23 := by
  decide +kernel

theorem witness_Rejudgement : chanConfig running 0 = some cfg ∧ isSelecting running 1 = false ∧ isSelecting running 0 = true
    ∧ choice running 0 = selectionOf running 0
    ∧ choice (with0 fun c => { c with csl := .powerOn }) 0 = some copy
    ∧ ((offering running 0 copy).map (·.standard)) = some 2 ∧ (chan running 0).int.standard = 2
    ∧ choice { running with lanes := Bank.fill 7 .powerOn } 0 = none
    ∧ selectionOf running 0 = some copy ∧ (chan running 0).csl.callTarget = some 2
    ∧ (chanConfig running 0).bind (·.feed) = some 5 := by decide +kernel

/-- A channel without a source standard meets a copy; its crop lies in the frame, and its placement stands. -/
def adopting : State :=
  with0 fun c => { c with csl := .powerOn, int := .powerOn, siz := { c.siz with placement := some ⟨4, 8, 8, 12⟩ } }

theorem witness_Rejudgement_adopts : choice adopting 0 = some copy ∧ selectionOf adopting 0 = none
    ∧ (offering adopting 0 copy).map (·.standard) = some 2 ∧ (chan adopting 0).int.standard = 0
    ∧ meetsFrame cfg.crop (standardOf 2).lines (standardOf 2).samples ∧ ¬ meetsFrame ⟨480, 12, 0, 16⟩ 480 720 := by
  decide +kernel

/-- 05/R71, 09/R146: the crop and the steps that an adoption leaves. -/
theorem test_adoption :
    let e := chan (rejudgeOne 0 adopting) 0
    (e.int.crop, e.siz.vStep, e.siz.hStep) = (some ⟨0, 12, 0, 16⟩, some 98304, some 87381) := by decide +kernel

theorem witness_SelectorTimers : (chan running 0).csl.refresh = some 100000000 ∧ selectionOf running 0 = some copy
    ∧ 0 ≤ sdiff (running.now + BitVec.ofNat 48 0) 100000000
    ∧ (∃ e ∈ ([⟨2, 0, 0, 100000000⟩] : List PassOver), 0 ≤ sdiff running.now e.expiry)
    ∧ cfg.revertSeconds ≠ 0 ∧ 0 ≤ sdiff running.now (shift 73000000 (cfg.revertSeconds * 27000000 : Nat))
    ∧ choice twoCopies 0 = some copy ∧ (chan twoCopies 0).csl.forced ≠ some copy
    ∧ (offering twoCopies 0 ⟨.lane 0, 2, 1⟩).map (·.standard) = some 2 := by decide +kernel

/-- The copy has read DEFERRED in four beacons; the next is `deferredBeacon`. -/
def fourDeferred : State := with0 fun c => { c with csl := { c.csl with deferred := 4 } }

def deferredBeacon : Beacon := ⟨2, false, 7, 99989500, ⟨[{ entry with status := .deferred }, .empty, .empty], rfl⟩⟩

theorem witness_SelectorTimers_passed_over :
    checkRecord (encodeRecord (.beacon deferredBeacon)) = .ok (.beacon deferredBeacon) ∧ ownNumber fourDeferred ≠ some 2
    ∧ selectionOf fourDeferred 0 = some copy ∧ isSelecting fourDeferred 0 = true ∧ (chan fourDeferred 0).csl.deferred = 4
    ∧ isEligible { advance 0 fourDeferred with
        lanes := fourDeferred.lanes.modify 0 fun x => absorbBeacon 99990000 deferredBeacon (countLane x .rxRecords) } 0 copy
        = true := by
  refine ⟨heard_spec (by decide +kernel), ?_⟩
  decide +kernel

theorem witness_PictureReceived : checkRecord (encodeRecord (pictureOf .fieldTop 0)) = .ok (pictureOf .fieldTop 0)
    ∧ checkRecord (encodeRecord (pictureOf .frame 0)) = .ok (pictureOf .frame 0) ∧ kindFits 2 .frame = false
    ∧ (chan running 0).int.aim = some copy ∧ (chan running 1).int.aim = none ∧ kindFits 2 .fieldTop = true
    ∧ (chan running 0).int.openSlot = none ∧ (∀ j, (slotOf (chan running 0) j).state ≠ .pairing)
    ∧ (slotOf (chan running 0) 2).state = .free ∧ (∀ j, j < 2 → (slotOf (chan running 0) j).state ≠ .free)
    ∧ 0 < sdiff (giveStamp 99900001 (chan running 0)).1 99900000 ∧ sdiff (giveStamp 99900000 (chan running 0)).1 99900000 ≤ 0
    := by
  refine ⟨heard_spec (by decide +kernel), heard_spec (by decide +kernel), ?_⟩
  decide +kernel

/-- The window of channel 0 on the station's own ingest, of its feed. -/
def inside : State :=
  with0 fun c => { c with
    csl := { c.csl with selection := some ⟨.internal, 1, 0⟩, callTarget := none, refresh := none }
    int := { c.int with aim := some ⟨.internal, 1, 0⟩ } }

theorem witness_PictureReceived_inside : (chan inside 0).int.aim = some ⟨.internal, 1, 0⟩ ∧ cfg.feed = some 5
    ∧ kindFits 2 .fieldTop = true ∧ kindFits 6 .frame = true ∧ (chan inside 0).int.standard = 2
    ∧ (chan inside 0).int.openSlot = none ∧ 0 < sdiff (giveStamp 99900001 (chan inside 0)).1 99900000 := by decide +kernel

/-- 03/R50: the station's own picture opens a slot with its stamp as it is, and its generation is taken (04/R64). -/
theorem test_inside :
    let c := chan (pictureToChannel .internal ⟨1, 0, 5, 4, 2, .fieldTop, 2, 99900001, 240, 720⟩ 0 inside) 0
    (c.int.openSlot, c.int.newest, c.csl.sourceGeneration) = (some 2, some 99900001, 2) := by decide +kernel

/-- Both channels on one copy of lane 0. -/
def both : State := onChan 1 (fun _ => channel) running

theorem witness_PictureReceived_both : (chan both 0).int.aim = some copy ∧ (chan both 1).int.aim = some copy
    ∧ (∀ k, (chanConfig both k).bind (·.feed) = some 5) ∧ (∀ k, (chan both k).int.openSlot = none)
    ∧ (∀ k, choice both k = selectionOf both k) := by decide +kernel

/-- 05/R70, R72: one record of the lane opens a slot in each channel, with the stamp that its lane's estimate gives. -/
theorem test_both :
    let t := after (.recordReceived 0 0 0 (encodeRecord (pictureOf .fieldTop 99899501))) both
    (chan t 0).int.openSlot = some 2 ∧ (chan t 1).int.openSlot = some 2 ∧ (chan t 0).int.newest = some 99900001
      ∧ (chan t 1).int.newest = some 99900001 := by decide +kernel

/-- A ring with no FREE slot: every one in one state. -/
def ringOf (st : SlotState) : Channel :=
  { channel with int := { channel.int with
    committed := []
    slots := Bank.fill 12 { Slot.empty with state := st, raws := [⟨.fieldTop, 3, 99449550, 0, none⟩] } } }

theorem witness_PictureReceived_no_free_slot :
    (∀ j, (slotOf (ringOf .finishing) j).state ≠ .free ∧ (slotOf (ringOf .finishing) j).state ≠ .pairing)
    ∧ (∀ j, recyclable (ringOf .finishing) j = false) ∧ (∀ j, recyclable (ringOf .history) j = true)
    ∧ (∀ j, ageStamp (slotOf (ringOf .history) j) = ageStamp (slotOf (ringOf .history) 0))
    ∧ (ringOf .history).int.openSlot = none ∧ (ringOf .history).int.standard = 2
    ∧ 0 < sdiff (giveStamp 99900001 (ringOf .history)).1 99900000 := by decide +kernel

/-- A top field waits for its partner in slot 2, under a lock or none. -/
def paired (mode : Option Family) : Channel :=
  { channel with
    cad := { channel.cad with mode, anchor := some 99900000, rec32 := ⟨some .film32, some 1, 9⟩ }
    int := { channel.int with slots := channel.int.slots.set 2 { Slot.empty with
      state := .pairing, raws := [⟨.fieldTop, 4, 99900450, 0, none⟩], received := [pairKey 0 2, pairKey 1 2] } } }

theorem witness_PictureReceived_pairing : (slotOf (paired none) 2).state = .pairing
    ∧ (∀ j : SlotNo, j < 2 → (slotOf (paired none) j).state ≠ .pairing)
    ∧ (slotOf (paired none) 2).raws.head? = some ⟨.fieldTop, 4, 99900450, 0, none⟩ ∧ (paired (some .film32)).cad.mode = some .film32
    ∧ (recordOf (paired (some .film32)).cad .film32).next = some 1 ∧ (paired none).int.lastCommitted = some 99900000
    ∧ 0 < Machine.sdiff 99900450 99900000 ∧ 0 < sdiff (giveStamp 99900950 (paired none)).1 99900000 := by decide +kernel

/-- 05/R73, R81: the bottom field joins under the lock, and in VIDEO the waiting field is committed alone. -/
theorem test_join_or_abandon :
    let t := fun mode => chan (after (.recordReceived 0 0 0 (encodeRecord (pictureOf .fieldBottom 99900450)))
      (with0 fun _ => paired mode)) 0
    ((slotOf (t (some .film32)) 2).state, (slotOf (t (some .film32)) 2).raws.length, (slotOf (t none) 2).state,
      (slotOf (t none) 2).committed, (slotOf (t none) 3).state)
      = (.filling, 2, .finishing, some 99900450, .filling) := by decide +kernel

/-- A copy of another standard, with a limit of 4 relocks reached at the next or not. -/
def otherStandard (relock : Nat) : State :=
  onLane 0 (fun x => { x with entry := { peer with entries := ⟨[{ entry with standard := 6 }, .empty, .empty], rfl⟩ } })
    (with0 fun c => { c with csl := .powerOn, sup := { c.sup with relock } })

def frameOf6 : LinkRecord := .picture ⟨2, 0, 5, 4, 0, .frame, 6, 100000000, rawLines 6, (standardOf 6).samples⟩

theorem witness_SourceStandardChange : isSelecting (otherStandard 3) 0 = true ∧ choice (otherStandard 3) 0 = some copy
    ∧ selectionOf (otherStandard 3) 0 = none ∧ (offering (otherStandard 3) 0 copy).map (·.standard) = some 6
    ∧ (chan (otherStandard 3) 0).int.standard = 2 ∧ min (3 + 1) 15 = cfg.relockLimit ∧ min (2 + 1) 15 ≠ cfg.relockLimit
    ∧ (chan (otherStandard 2) 0).sup.relock = 2 ∧ choice (otherStandard 2) 0 = some copy
    ∧ checkRecord (encodeRecord frameOf6) = .ok frameOf6 ∧ kindFits 6 .frame = true
    ∧ choice running 0 = selectionOf running 0 ∧ (chan running 0).int.aim = some copy := by
  refine ⟨?_, ?_, ?_, ?_, ?_, ?_, ?_, ?_, ?_, heard_spec ?_, ?_, ?_, ?_⟩ <;> decide +kernel

/-- The window on the own ingest, which brings another standard while its copy is the forced one. -/
def insideForced : State :=
  { (onChan 0 (fun c => { c with csl := { c.csl with forced := some ⟨.internal, 1, 0⟩ } }) inside) with
    config := some { station with ingestFeed := some 5 }
    pub := { running.pub with adverts := running.pub.adverts.set 0 ⟨.available, 0, 6⟩ } }

theorem witness_SourceStandardChange_inside : choice insideForced 0 = selectionOf insideForced 0
    ∧ (chan insideForced 0).int.aim = some ⟨.internal, 1, 0⟩ ∧ isSelecting insideForced 0 = true
    ∧ (chan insideForced 0).int.standard = 2 ∧ kindFits 6 .frame = true := by decide +kernel

theorem witness_StampsAndPeriod : (chan running 0).csl.rebasePending = false ∧ (chan running 0).int.newest = some 99900000
    ∧ Channel.powerOn.int.newest = none ∧ (standardOf 2).rawPeriod = 450450
    ∧ Machine.sdiff 100800900 99900000 ≤ 2 * (450450 : Int) ∧ 2 * (450450 : Int) < Machine.sdiff 100800901 99900000
    ∧ (450450 : Int) - (450450 / 16384 : Nat) ≤ 450450 + roundHalfAway (Machine.sdiff 100350482 99900000 - 450450) 16
    ∧ (450450 : Int) + roundHalfAway (Machine.sdiff 100350482 99900000 - 450450) 16 ≤ 450450 + (450450 / 16384 : Nat) := by decide

theorem witness_LinesReceived : checkRecord (encodeRecord (linesOf false)) = .ok (linesOf false)
    ∧ frameLine .fieldTop 0 = 0 ∧ inRect ⟨0, 12, 0, 16⟩ 0 14 = true ∧ inRect ⟨0, 12, 0, 16⟩ 0 16 = false
    ∧ planesWf .empty = true := by
  refine ⟨heard_spec (by decide +kernel), ?_⟩
  decide

/-- A channel that receives the lines of a top field in slot 2. -/
def receiving (received : List Nat) : Channel :=
  { channel with int := { channel.int with
    openSlot := some 2
    slots := channel.int.slots.set 2
      { Slot.empty with state := .filling, raws := [⟨.fieldTop, 4, 99900450, 0, none⟩], received } } }

theorem witness_LinesReceived_open : (receiving []).int.openSlot = some 2 ∧ (receiving []).int.crop = some ⟨0, 12, 0, 16⟩
    ∧ ((slotOf (receiving []) 2).raws.getLast?).map (·.sequence) = some 4 ∧ planesWf (slotOf (receiving []) 2).planes = true
    ∧ (receiving []).int.aim = some copy ∧ Channel.powerOn.int.aim = none ∧ (∃ r, linesOf true = .lines r ∧ r.last = true) :=
  ⟨rfl, rfl, rfl, rfl, rfl, rfl, _, rfl, rfl⟩

/-- The same on the internal path, of the station's own picture; and on a lane on which both windows stand. -/
theorem witness_LinesReceived_inside : let c := { receiving [] with int := { (receiving []).int with aim := some ⟨.internal, 1, 0⟩ } }
    c.int.aim = some ⟨.internal, 1, 0⟩ ∧ recordOk (.lines ⟨1, 0, 5, false, 4, 0, 14, [⟨512, 100, 512, 101⟩]⟩) = true
    ∧ c.int.openSlot = some 2 ∧ ((slotOf c 2).raws.getLast?).map (·.sequence) = some 4 ∧ 0 + 16 ≤ 2048 := by decide

theorem witness_LinesReceived_both : let s := onChan 1 (fun _ => receiving []) (with0 fun _ => receiving [])
    (∀ k, (chan s k).int.aim = some copy ∧ (chan s k).int.openSlot = some 2 ∧ (chanConfig s k).bind (·.feed) = some 5)
    ∧ recordOk (linesOf false) = true := by decide +kernel

/-- A picture of which no line is present, and one of which only line 2 is: lines 0 and 4 have it below and above. -/
theorem witness_LinesReceived_close :
    (ownLines ⟨0, 12, 0, 16⟩ .fieldTop).filter (fun f => (pairPositions ⟨0, 12, 0, 16⟩).all fun x =>
      pairKey f x ∈ (slotOf (receiving []) 2).received) = []
    ∧ (ownLines ⟨0, 12, 0, 16⟩ .fieldTop).filter (fun f => (pairPositions ⟨0, 12, 0, 16⟩).all fun x =>
      pairKey f x ∈ (slotOf (receiving ((pairPositions ⟨0, 12, 0, 16⟩).map (pairKey 2))) 2).received) = [2]
    ∧ ownLines ⟨0, 12, 0, 16⟩ .fieldTop = [0, 2, 4, 6, 8, 10] ∧ [2].Pairwise (· < ·) ∧ [0, 4, 6, 8, 10].Nodup := by
  decide +kernel

theorem witness_CommitAndFinish : channel.ren.record = none ∧ channel.int.lastCommitted = some 99900000
    ∧ 0 < Machine.sdiff 99900001 99900000 ∧ Machine.sdiff 99900000 99900000 ≤ 0 ∧ channel.int.committed.getLast? = some 1
    ∧ Channel.powerOn.int.committed = [] ∧ chanConfig running 0 = some cfg
    ∧ (slotOf (onSlot 5 (fun x => { x with state := .finishing }) channel) 5).state = .finishing
    ∧ channel.int.retireRef = none ∧ (∀ j, (slotOf channel j).state ≠ .history) := by decide +kernel

/-- A record that waits for its B. -/
def awaiting : Channel := converting (some { waiting with b := none, prelim := none, a := 1 })

theorem witness_CommitAndFinish_waiting : awaiting.ren.record = some { waiting with b := none, prelim := none, a := 1 }
    ∧ (∀ t, awaiting.int.lastCommitted = some t → 0 < Machine.sdiff 99990000 t) ∧ waiting.early = false
    ∧ 0 ≤ Machine.sdiff (shift 99500000 900000) 99990000 ∧ Machine.sdiff waiting.point 99990000 < 0
    ∧ (slotOf awaiting 1).committed = some 99900000 := by
  refine ⟨rfl, fun t h => ?_, ?_⟩
  · cases h
    decide
  · decide +kernel

/-- 08/R130: a commit after the render point is the record's B, and one at or before it its A. -/
theorem test_commit_to_record :
    let d := fun point => (commit ⟨100000000, cfg⟩ 2 99990000 none
      (converting (some { waiting with b := none, prelim := none, a := 1, point }))).ren.record.map fun r => (r.a, r.b)
    (d 99950000, d 99990000) = (some (1, some 2), some (2, none)) := by decide +kernel

theorem witness_Deinterlacing : 0 % 2 = 0 ∧ 16 % 2 = 0 ∧ 2032 + 16 ≤ 2048 ∧ planesWf .empty = true
    ∧ inRect ⟨0, 12, 0, 16⟩ 1 14 = true ∧ 1 % 2 ≠ (0 : Parity).val ∧ 10 + 1 < 0 + 12
    ∧ blockStill 4 ⟨0, 12, 0, 16⟩ 0 .empty .empty ((1 - 0) / 8) ((14 - 0) / 8) = true := by decide +kernel

/-- A moving block, on the first line of a crop and on the last. -/
theorem witness_Deinterlacing_moving :
    blockStill 4 ⟨0, 12, 0, 16⟩ 0 (writeGroup .empty 0 0 ⟨512, 1000, 512, 1000⟩) .empty ((1 - 0) / 8) ((6 - 0) / 8) = false
    ∧ inRect ⟨0, 12, 0, 16⟩ 11 6 = true ∧ 11 % 2 ≠ (0 : Parity).val ∧ ¬ 11 + 1 < 0 + 12
    ∧ inRect ⟨1, 12, 0, 16⟩ 1 6 = true ∧ 1 % 2 ≠ (0 : Parity).val ∧ ¬ 1 < 1 := by decide +kernel

theorem witness_CadenceRules : secondOfPair .film32 1 = true ∧ 1 < cycleOf .film32 ∧ secondOfPair .film22 1 = true
    ∧ signOf .film32 .r .s = .mark ∧ markAt .film32 2 = true ∧ markAt .film32 0 = false := by decide

/-- A top field about to be closed, every pair of its lines there, under a mode or with a pending lock. -/
def closing (mode pendingLock : Option Family) (next : Nat) : Channel :=
  { channel with
    cad := { channel.cad with
      mode, pendingLock, anchor := mode.map fun _ => 99000000, rec32 := ⟨some .film32, some next, 20⟩, repeats := [some 50] }
    int := { channel.int with
      history := [⟨1, 0⟩, ⟨0, 0⟩], openSlot := some 2
      slots := channel.int.slots.set 2 { Slot.empty with
        state := .filling, raws := [⟨.fieldTop, 4, 99900450, 0, none⟩], received := (pairPositions ⟨0, 12, 0, 16⟩).map (pairKey 2) } } }

/-- The flags of the field, and what the detector holds after its close. -/
def closed (mode pendingLock : Option Family) (next : Nat) : Option (RepeatFlag × CombFlag) × Option Family × Option Family :=
  let d := closeOpen ⟨100000000, cfg⟩ (closing mode pendingLock next)
  (((slotOf d 2).raws[0]?).bind (·.flags), d.cad.mode, d.cad.pendingLock)

/-- 06/R99 to R106: a repeat on its place becomes the pending lock; out of its place it breaks the lock, and a pending
lock undisturbed takes effect at its cycle start. -/
theorem test_locks_and_breaks :
    [closed none none 2, closed none (some .film32) 1, closed (some .film32) none 0, closed (some .film32) none 2]
      = [(some (.r, .s), none, some .film32), (some (.r, .s), none, none), (some (.r, .s), none, none),
        (some (.r, .s), some .film32, none)] := by decide +kernel

theorem witness_CadenceRules_close : (closing none none 2).int.openSlot = some 2
    ∧ (slotOf (closing none none 2) 2).raws.length = 1 ∧ (recordOf (closing (some .film32) none 0).cad .film32).next = some 0
    ∧ signOf .film32 .r .s ≠ .still ∧ ¬ (signOf .film32 .r .s = .mark ↔ markAt .film32 0 = true)
    ∧ (updateHypothesis ⟨some .film32, some 1, 20⟩ .r .s none).disturbed = true
    ∧ (updateHypothesis ⟨some .film32, some 0, 20⟩ .s .s none).disturbed = false
    ∧ (updateHypothesis ⟨some .film32, some 0, 20⟩ .s .s none).position = some 0
    ∧ (updateHypothesis ⟨some .film32, some 2, 20⟩ .r .s none).position = some 2 ∧ 5 * cfg.lockCycles ≤ 21 := by decide +kernel

/-- A job on the pair of the ring. -/
def job : Job := { pair := ⟨1, 0⟩, columns := 1, rows := 1, globalA := none, records := [⟨⟨1, 0⟩, 5, true⟩], started := 99999000 }

def estimating : State := with0 fun c => { c with meu := { c.meu with pending := [⟨1, 0⟩] } }

theorem witness_MotionJobs : chanConfig estimating 0 = some cfg ∧ (chan estimating 0).meu.job = none
    ∧ (chan estimating 0).meu.pending = [⟨1, 0⟩] ∧ (chan estimating 0).int.crop = some ⟨0, 12, 0, 16⟩
    ∧ (slotOf (chan estimating 0) 0).state = .complete ∧ (slotOf (chan estimating 0) 1).state = .complete
    ∧ (chan (with0 fun c => { c with meu := { c.meu with job := some job } }) 0).meu.job = some job := by decide +kernel

theorem witness_WeightsAndShifts : (0 : Int) ≤ Machine.sdiff 99449550 99449550
    ∧ Machine.sdiff 99449550 99449550 < Machine.sdiff 99900000 99449550
    ∧ Machine.sdiff 99899999 99449550 < Machine.sdiff 99900000 99449550 ∧ (64 : Nat) ≤ 64 ∧ (0 : Int) ≤ 32 ∧ (-16 : Int) ≤ 0 := by
  decide

theorem witness_RenderSelection : (chan (rendering none) 0).sup.state = .converting ∧ (chan (rendering none) 0).ren.selected = false
    ∧ (chan (rendering none) 0).ren.dEff = some 1000000 ∧ 0 ≤ Machine.sdiff 100000000 99549550
    ∧ 0 ≤ Machine.sdiff 100000000 (shift 100000000 (-(pOut cfg : Int))) ∧ [] ++ [0, 1] = channel.int.committed
    ∧ Machine.sdiff 99000000 (stampOf channel 0) < 0 ∧ (∀ i ∈ ([1] : List SlotNo), Machine.sdiff 99000000 (stampOf channel i) < 0)
    ∧ (∀ i ∈ ([1] : List SlotNo), Machine.sdiff 99500000 (stampOf channel i) < 0) ∧ 0 ≤ Machine.sdiff 99500000 (stampOf channel 0)
    ∧ Channel.powerOn.int.committed = [] := by decide +kernel

theorem witness_RenderBegins_not_complete : (slotOf (concealing .complete .finishing) 1).state ≠ .complete
    ∧ (slotOf (concealing .complete .finishing) 0).state = .complete ∧ (slotOf (concealing .finishing .complete) 0).state ≠ .complete
    ∧ (concealing .finishing .complete).ren.record = some waiting := by decide +kernel

/-- A render that reads A alone, and one whose B has its vectors. -/
def withTable (t : VectorTable) : Channel := onSlot 1 (fun x => { x with table := some t }) (converting (some waiting))

theorem witness_RenderBegins : (converting (some waiting)).ren.record = some waiting ∧ waiting.state = .waiting
    ∧ (slotOf (converting (some waiting)) 0).state = .complete ∧ ({ waiting with prelim := some 0 } : RenderRecord).prelim = some 0
    ∧ 0 ≤ Machine.sdiff 100000000 waiting.conceal ∧ waiting.early = false ∧ (slotOf channel 1).state = .complete
    ∧ vectorState (converting (some waiting)) 1 = .absent ∧ vectorState (withTable ⟨1, [], 1, none, true⟩) 1 = .ready
    ∧ vectorState { converting (some waiting) with meu := { pending := [⟨1, 0⟩], job := none } } 1 = .pending := by decide +kernel

theorem witness_RenderCompletes :
    (renderedPicture 2 { converting (some waiting) with siz := { Sizer.powerOn with
        placement := some ⟨0, 1, 0, 2⟩, vStep := some 0, hStep := some 0 } }
      { waiting with state := .rendering, mode := some .aOnly, weight := some 0 }).isSome := rfl

theorem witness_SampleArithmetic : tableAccepted bilinear = true
    ∧ (∃ p : Fin 64, ((Bank.fill 64 (Bank.fill 4 63) : FilterTable).get p).get 0 + ((Bank.fill 64 (Bank.fill 4 63) : FilterTable).get p).get 1
      + ((Bank.fill 64 (Bank.fill 4 63) : FilterTable).get p).get 2 + ((Bank.fill 64 (Bank.fill 4 63) : FilterTable).get p).get 3 ≠ 256)
    ∧ identityMatrix.items = [1024, 0, 0, 0, 1024, 0, 0, 0, 1024] ∧ (Bank.fill 3 (0 : Int)).items = [0, 0, 0] := by
  refine ⟨by decide +kernel, ⟨0, by decide⟩, by decide, by decide⟩

theorem witness_RenderedValues : 719 < (standardOf 2).samples ∧ 1 ∈ pictureLines 2 1 ∧ 2 ∉ pictureLines 2 1
    ∧ 479 ∈ pictureLines 2 1 ∧ inRect ⟨0, 1, 0, 2⟩ 1 0 = false ∧ inRect ⟨1, 1, 0, 2⟩ 1 1 = true
    ∧ (standardOf 6).interlaced = false ∧ (0 : Fin 64).val = 65536 % 65536 / 1024
    ∧ (63 : Fin 64).val = (2 * 65536 - 1) % 65536 / 1024 := by decide +kernel

theorem witness_ScanStartTimebase : channel.port.standard = some 2 ∧ channel.port.tNext = some 100000000
    ∧ 0 ≤ Machine.sdiff (running.now + BitVec.ofNat 48 0) 100000000 ∧ running.station ≠ .configFault
    ∧ (standardOf 2).rawPeriod / 4 < (112613 : Int).natAbs ∧ (112612 : Int).natAbs ≤ (standardOf 2).rawPeriod / 4 := by decide +kernel

theorem witness_ScanStartSource : (converting (some { waiting with state := .done })).sup.state = .converting
    ∧ (chan running 1).sup.state = .idle ∧ channel.sup.state = .acquiring ∧ running.station = .running
    ∧ channel.ren.record = none ∧ 2 ≤ (channel.int.committed.filter (isComplete channel)).length
    ∧ 0 ≤ Machine.sdiff 99900000 (shift 100450450 (-(1000000 : Int))) := by decide +kernel

theorem witness_ScanStartSource_enters : 2 ≤ (channel.int.committed.filter (isComplete channel)).length
    ∧ channel.int.newest = some 99900000 ∧ channel.ren.dEff = some 1000000
    ∧ 0 ≤ Machine.sdiff 99900000 (shift 100450450 (-(1000000 : Int))) ∧ selectionOf running 0 = some copy
    ∧ isEligible running 0 copy = true ∧ channel.csl.forced = none
    ∧ (chan (with0 fun c => { c with sup := ⟨.holdover, 3, none, some 200000000, none⟩ }) 0).sup.state = .holdover := by
  decide +kernel

theorem witness_ScanStartSource_records : (chanConfig running 0).bind (·.outFeed) = some 11 ∧ ownNumber running = some 1
    ∧ (rendering none).station = .running ∧ (chan (rendering none) 0).sup.state = .converting ∧ channel.sup.state ≠ .converting
    ∧ channel.int.committed = [0] ++ 1 :: [] ∧ 0 ≤ Machine.sdiff 99900001 (stampOf channel 1) ∧ (1 : SlotNo) ∉ ([0] : List SlotNo)
    ∧ channel.int.committed = [] ++ 0 :: [1] ∧ Machine.sdiff 99449550 (stampOf channel 1) < 0
    ∧ 0 ≤ Machine.sdiff 99449550 (stampOf channel 0) ∧ isSelecting running 1 = false := by decide +kernel

/-- 10/R169, 05/R87: the channel enters CONVERTING, its decay timer 60 s on, and the reference of this scan start named. -/
theorem test_enters_converting :
    let e := chan (after (.scanStart 0 0 .afterRecord) running) 0
    (e.sup, e.int.retireRef, e.port.sequence) = (⟨.converting, 3, none, none, some 1720000000⟩, some 0, 0) := by
  decide +kernel

theorem witness_LinesEmitted_handed : ({ (converting none).port with publishing := true } : Port).publishing = true
    ∧ (converting none).sup.state = .converting ∧ channel.port.publishing = false ∧ ownNumber running = some 1
    ∧ (chanConfig running 0).bind (·.outFeed) = some 11 := by decide +kernel

theorem witness_LinesEmitted : channel.port.standard = some 2 ∧ channel.port.tOut = some 99549550 ∧ channel.port.emittedLines < rawLines 2
    ∧ rawLines 2 ≤ 240 ∧ 90 / ((standardOf 2).samples / 8) = 1 ∧ (List.replicate 360 (⟨4, 4, 4, 4⟩ : SampleGroup)).length ≤ 1024
    ∧ ((List.range 8).all fun n => 90 * n / ((standardOf 2).samples / 8) = n)
    ∧ ({ running with station := .configFault } : State).station = .configFault ∧ channel.port.standard.isSome := by decide +kernel

theorem witness_SupervisorEvents : activeState channel.sup.state = true ∧ channel.int.standard ≠ 0 ∧ channel.int.stallMark = false
    ∧ 0 ≤ Machine.sdiff 100000000 (shift 98000000 (3 * pCommit none 450450 : Nat)) ∧ (converting none).sup.state = .converting
    ∧ channel.sup.acquisition = some 100000000 ∧ cfg.relockLimit ≠ 0 ∧ min (3 + 1) 15 = cfg.relockLimit
    ∧ min (2 + 1) 15 ≠ cfg.relockLimit ∧ (converting none).sup.decay = some 100000000
    ∧ selectionLaw (with0 fun c => { c with sup := ⟨.holdover, 3, none, some 100000000, none⟩ }) := by decide +kernel

/-- The reference input in a state, after a pulse at 100,000,000. -/
def pulsed (st : RefState) (good miss : Option Nat) : Reference :=
  { Reference.powerOn with
    state := st, standard := 2, lastPulse := some 100000000, good, miss, measured := some 900900
    expected := miss.map fun _ => 100900900 }

theorem witness_ReferencePulses : (pulsed .qualifying (some 3) none).standard ≠ 0 ∧ framePeriod 2 = 900900
    ∧ (Machine.sdiff 100901800 100000000 - 900900).natAbs ≤ 900900 / 1000 ∧ 900900 / 1000 < (Machine.sdiff 100901801 100000000 - 900900).natAbs
    ∧ (Machine.sdiff 100901800 100900900).natAbs ≤ 900900 / 1000 ∧ 900900 / 1000 < (Machine.sdiff 100901801 100900900).natAbs
    ∧ (pulsed .valid (some 4) (some 0)).expected = some 100900900 ∧ running.ref.state = .absent
    ∧ channel.port.lastFrame = some 99549550 ∧ framePeriod 6 ≠ 900900 := by decide +kernel

theorem witness_ReferenceTimeouts : Reference.powerOn.standard = 0 ∧ (pulsed .qualifying (some 1) none).lastPulse = some 100000000
    ∧ 0 ≤ Machine.sdiff 102702700 (shift 100000000 (3 * framePeriod 2 : Nat)) ∧ (pulsed .valid (some 4) (some 1)).miss = some 1
    ∧ (pulsed .valid (some 4) (some 2)).miss = some 2 ∧ 0 ≤ Machine.sdiff 100901800 (shift 100900900 (framePeriod 2 / 1000 : Nat)) := by
  decide +kernel

/-- The ingest port in measurement of a raw picture, with a line open or not. -/
def ingesting (st : IngestState) (code : StdCode) (opened : Option OpenLine) : Ingest :=
  { Ingest.powerOn with
    state := st, locked := code, raw := some ⟨1, 99549550, 240, some 720, false⟩, previousParity := some 0
    openLine := opened, deadline := some 100000000 }

theorem witness_IngestMarkers : (0 : Sample) ≠ 1023 - 540 ∧ (483 : Sample) = 1023 - 540 ∧ (540 : Sample).toNat = 540 + 64 * (0 : Parity).val
    ∧ (604 : Sample).toNat = 540 + 64 * (1 : Parity).val ∧ running.ing.raw = none
    ∧ (ingesting .measuring 0 none).openLine = none ∧ (ingesting .measuring 0 (some ⟨239, [], [], 0⟩)).openLine = some ⟨239, [], [], 0⟩
    ∧ (ingesting .measuring 0 none).forming = false ∧ (636 : Sample).toNat = 572 + 64 * (1 : Parity).val
    ∧ (588 : Sample).toNat = 588 + 64 * (0 : Parity).val
    ∧ (∀ c ∈ [540, 556, 572, 588, 604, 620, 636, 652], (1020 : Sample).toNat ≠ c) := by decide

/-- A picture of standard 2 being formed, at a line with samples gathered, some of them carried. -/
def forming (index carried : Nat) : State :=
  { running with
    ing := { ingesting .locked 2 (some ⟨index, List.replicate 4 ⟨512, 100, 512, 101⟩, [], carried⟩) with forming := true } }

theorem witness_IngestMarkers_forming : 239 < rawLines 2 ∧ 239 + 1 = rawLines 2 ∧ 238 + 1 ≠ rawLines 2 ∧ rawLines 2 ≤ 240
    ∧ min (2 * 4) (standardOf 2).samples = 8 ∧ (forming 239 0).ing.forming = true ∧ (forming 239 0).ing.reader = .idle
    ∧ ownNumber (forming 239 8) = some 1 ∧ (∀ l ∈ (forming 239 8).ing.openLine, l.carried = 8)
    ∧ (∃ y, y = advance 0 (forming 239 8)) := ⟨by decide, by decide, by decide, by decide, by decide, by decide, by decide,
      by decide, by decide, _, rfl⟩

/-- 11/R187: the close of the last line ends the forming, with or without a record; that of another line does not. A
picture-start marker closes it too, and the raw picture it marks irregular loses the lock (11/R180, R185). -/
theorem test_closes_while_forming :
    (((after (.ingestMarker 0 [] 572 451) (forming 239 0)).ing.forming, (after (.ingestMarker 0 [] 572 451) (forming 239 8)).ing.forming,
      (after (.ingestMarker 0 [] 588 435) (forming 238 0)).ing.forming) = (false, false, true))
    ∧ (after (.ingestMarker 0 [] 556 467) (forming 238 0)).ing.state = .measuring := by decide +kernel

/-- The record that such a close hands on: short, and the last of its picture. -/
theorem test_short_last_record :
    let s := forming 239 0
    let t := after (.ingestMarker 0 [] 572 451) { s with pub := setDemand 0 2 7 { s.pub with
      slots := ⟨[⟨.carrying, some 0, true, none, false⟩, .freed], rfl⟩ } }
    t.tx.bursts.get 0 = [.lines ⟨1, 0, 9, true, 0, 239, 0, List.replicate 4 ⟨512, 100, 512, 101⟩⟩]
      ∧ (t.pub.slots.get 0).openPicture = false := by decide +kernel

theorem witness_IngestMarkers_words : running.ing.reader = .idle
    ∧ (after (.ingestSampleGroup 0 5 6 7 1023) running).ing.reader = .first 100000000
    ∧ (after (.ingestSampleGroup 0 5 6 1023 0) running).ing.reader = .zero 100000000
    ∧ (after (.ingestSampleGroup 0 5 1023 0 540) running).ing.reader = .flag 100000000 540
    ∧ (483 : Sample) = 1023 - 540 ∧ (484 : Sample) ≠ 1023 - 540 ∧ ([1, 2, 3] : List Sample).length ≤ 3
    ∧ (∀ w ∈ ([1, 2, 3] : List Sample), w ≠ 1023) := by decide

theorem witness_IngestPictureStarts : (620 : Sample).toNat = 556 + 64 * (1 : Parity).val
    ∧ matchCode ⟨240, some 720, 450450, some .interlaced⟩ false = some 2 ∧ matchCode ⟨240, some 720, 452703, some .interlaced⟩ false = none
    ∧ (measurementAt ⟨1, 99549550, 240, some 720, false⟩ (some 0) 100000000) = ⟨240, some 720, 450450, some .interlaced⟩
    ∧ (ingesting .locked 2 none).locked = 2 ∧ (ingesting .measuring 0 none).candidate = none ∧ running.ing.state = .noSignal
    ∧ ({ ingesting .measuring 0 none with candidate := some 2 } : Ingest).candidate = some 2 := by decide +kernel

theorem witness_IngestSamplesAndDeadline : running.ing.openLine = none ∧ min (2 * (127 + 1)) (standardOf 2).samples = 256
    ∧ 0 + 256 ≤ 256 ∧ min (2 * (359 + 1)) (standardOf 2).samples = (standardOf 2).samples ∧ 239 + 1 = rawLines 2
    ∧ min (2 * (126 + 1)) (standardOf 2).samples < 0 + 256 ∧ ownNumber running = some 1
    ∧ (ingesting .locked 2 none).deadline = some 100000000 ∧ 0 ≤ Machine.sdiff (running.now + BitVec.ofNat 48 0) 100000000
    ∧ (ingesting .measuring 0 none).state = .measuring ∧ (ingesting .measuring 0 (some ⟨0, [], [], 0⟩)).forming = false
    ∧ (ingesting .measuring 0 (some ⟨0, [], [1, 2, 3], 0⟩)).openLine.map (·.begun) = some [1, 2, 3]
    ∧ running.ing.reader = .idle ∧ (1022 : Sample) ≠ 1023 := by decide +kernel

end Sys2Proof.Tests
end

section
/-! What the parts of the model do to the publications and to the transmit lane, said once as a sequence of moves: every
law of the two blocks is then proved for one move at a time. -/

namespace Sys2Proof.Machine

open Relation (ReflTransGen)

/-! ## Moves -/

/-- A change of values of the Publication Unit that no law speaks of: counters, flags and last sequences. -/
def OnlyTallies (f : Publication → Publication) : Prop :=
  ∀ u, f u = { u with
    lastSequence := (f u).lastSequence, tally := (f u).tally, itemTally := (f u).itemTally
    deferredFlags := (f u).deferredFlags }

/-- A slot just granted (03/R44). -/
def PubSlot.granted (p : PubIx) : PubSlot :=
  { state := .granted, holder := some p, openPicture := false, reason := none, releaseOwed := false }

/-- One change of the publications or of the transmit lane, but for those of the entry into RUNNING, of RESTART, of the
demand table and of the transmitter's own steps. -/
inductive Move : State → State → Prop where
  /-- whatever leaves both, the station state and the peer entries as they are -/
  | aside {s t : State} (pub : t.pub = s.pub) (tx : t.tx = s.tx) (station : t.station = s.station)
      (entry : ∀ l, (lane t l).entry = (lane s l).entry) : Move s t
  | offer (k : Chan) (cs : List Call) (s : State) : Move s (onTx (holdCalls k cs) s)
  | advert (p : PubIx) (s : State) : Move s (noteAdvert s p)
  | hear (s : State) : Move s (hearAdverts s)
  | tally {f : Publication → Publication} (h : OnlyTallies f) (s : State) : Move s (onPub f s)
  | vacant (i : PubSlotNo) (s : State) : Move s (setSlot i .freed s)
  | grant {i : PubSlotNo} {p : PubIx} {s : State} (free : (s.pub.slots.get i).state = .free) (h : claims s p = true) :
      Move s (setSlot i (.granted p) s)
  | change {i : PubSlotNo} {x y : PubSlot} {s : State} (law : pubSlotLaw y → pubSlotLaw x)
      (before : s.pub.slots.get i = y) (held : y.state ≠ .free) (holder : x.holder = y.holder) : Move s (setSlot i x s)
  | burst (i : PubSlotNo) {r : LinkRecord} (h : isPublished r = true) (s : State) : Move s (onTx (offerBurst i r) s)
  | flush (i : PubSlotNo) (s : State) : Move s (onTx (flushBurst i) s)

/-- Any number of moves, one after another. -/
abbrev Moves : State → State → Prop := ReflTransGen Move

theorem Move.moves {s t : State} (h : Move s t) : Moves s t := .single h

theorem Moves.aside {s t : State} (pub : t.pub = s.pub) (tx : t.tx = s.tx) (station : t.station = s.station)
    (entry : ∀ l, (lane t l).entry = (lane s l).entry) : Moves s t :=
  (Move.aside pub tx station entry).moves

theorem Moves.ite {s t u : State} {c : Prop} [Decidable c] (ht : Moves s t) (hu : Moves s u) :
    Moves s (if c then t else u) := by
  split
  · exact ht
  · exact hu

theorem foldl_moves {α : Type} {f : State → α → State} (h : ∀ s a, Moves s (f s a)) (xs : List α) (s : State) :
    Moves s (xs.foldl f s) := by
  induction xs generalizing s with
  | nil => exact .refl
  | cons a xs ih => exact (h s a).trans (ih _)

/-! ## Updates of a channel and re-judgement -/

theorem onChan_moves (k : Chan) (f : Channel → Channel) (s : State) : Moves s (onChan k f s) := .aside rfl rfl rfl fun _ => rfl

theorem onLane_moves (l : LaneNo) (f : Lane → Lane) (s : State) (h : ∀ x, (f x).entry = x.entry) :
    Moves s (onLane l f s) := by
  refine .aside rfl rfl rfl fun m => ?_
  by_cases e : m = l
  · rw [e, lane_onLane, h]
  · rw [lane_onLane_ne e]

theorem onIngest_moves (f : Ingest → Ingest) (s : State) : Moves s (onIngest f s) := .aside rfl rfl rfl fun _ => rfl

theorem onConfigured_moves (k : Chan) (f : Env → Channel → Channel) (s : State) : Moves s (onConfigured k f s) := by
  unfold onConfigured
  split
  · exact onChan_moves ..
  · exact .refl

theorem switchTo_moves (k : Chan) (q : Option Copy) (s : State) : Moves s (switchTo k q s) :=
  (Move.offer k (releaseCall s k ++ requestCall s k q) s).moves.trans
    (onConfigured_moves k (fun env => switchChannel env q (q.bind (offering s k))) _)

theorem enterLatched_moves (k : Chan) (s : State) : Moves s (enterLatched k s) := by
  unfold enterLatched
  refine ReflTransGen.trans ?_ (onChan_moves ..)
  split
  · exact (onConfigured_moves ..).trans (switchTo_moves ..)
  · exact onConfigured_moves ..

theorem rejudge_moves (n : Nat) (k : Chan) (s : State) : Moves s (rejudge n k s) := by
  induction n generalizing s with
  | zero => exact .refl
  | succ n ih =>
    unfold rejudge
    dsimp only
    split
    · exact .refl
    split
    · exact onChan_moves ..
    have switched := (switchTo_moves k (choice s k) s).trans (onChan_moves k countRelock _)
    split
    · split
      · exact switched.trans (enterLatched_moves ..)
      · exact switched.trans ((onConfigured_moves ..).trans (ih _))
    · exact switchTo_moves ..

theorem rejudgeOne_moves (k : Chan) (s : State) : Moves s (rejudgeOne k s) := rejudge_moves ..

theorem rejudgeBoth_moves (s : State) : Moves s (rejudgeBoth s) := (rejudgeOne_moves ..).trans (rejudgeOne_moves ..)

theorem enterAcquiring_moves (k : Chan) (s : State) : Moves s (enterAcquiring k s) :=
  (onConfigured_moves ..).trans (rejudgeOne_moves ..)

theorem standardReport_moves (k : Chan) (s : State) : Moves s (standardReport k s) := by
  unfold standardReport
  dsimp only
  split
  · refine (onChan_moves k countRelock s).trans ?_
    split
    · exact enterLatched_moves ..
    · exact enterAcquiring_moves ..
  · exact .refl

/-! ## The timers of a channel -/

theorem holdoverTimer_moves (k : Chan) (s : State) : Moves s (holdoverTimer k s) := by
  unfold holdoverTimer holdoverExpired
  dsimp only
  split
  · refine (onChan_moves k countRelock s).trans ?_
    split
    · exact enterLatched_moves ..
    · exact onChan_moves ..
  · exact .refl

theorem passOverExpired_moves (k : Chan) (s : State) : Moves s (passOverExpired k s) := by
  unfold passOverExpired
  dsimp only
  split
  · exact (onChan_moves ..).trans (rejudgeOne_moves ..)
  · exact .refl

theorem revertExpired_moves (k : Chan) (s : State) : Moves s (revertExpired k s) := by
  unfold revertExpired
  dsimp only
  split
  · exact .refl
  · next q _ =>
    refine (rejudgeOne_moves k s).trans ?_
    split
    · have switched := (switchTo_moves k (some q) (rejudgeOne k s)).trans (onChan_moves k (count · .copyReverted) _)
      split
      · exact switched.trans (standardReport_moves ..)
      · exact switched
    · exact .refl

theorem refreshExpired_moves (k : Chan) (s : State) : Moves s (refreshExpired k s) := by
  unfold refreshExpired
  dsimp only
  split
  · split
    · exact (Move.offer ..).moves.trans (onChan_moves ..)
    · exact .refl
  · exact .refl

/-! ## What a held slot can become (03/R45 to R48) -/

theorem pubSlotLaw_ending {x : PubSlot} (held : x.state ≠ .free) (picture : x.openPicture = true) (r : EndReason)
    (owed : Bool) (h : pubSlotLaw x) : pubSlotLaw { x with state := .ending, reason := some r, releaseOwed := owed } := by
  simp_all [pubSlotLaw]

theorem pubSlotLaw_owed {x : PubSlot} (ending : x.state = .ending) (h : pubSlotLaw x) :
    pubSlotLaw { x with releaseOwed := true } := by
  simp_all [pubSlotLaw]

theorem pubSlotLaw_carrying {x : PubSlot} (held : x.state = .granted ∨ x.state = .carrying) (h : pubSlotLaw x) :
    pubSlotLaw { x with state := .carrying, openPicture := true } := by
  rcases held with e | e <;> simp_all [pubSlotLaw]

theorem pubSlotLaw_closed {x : PubSlot} (carrying : x.state = .carrying) (h : pubSlotLaw x) :
    pubSlotLaw { x with openPicture := false } := by
  simp_all [pubSlotLaw]

theorem stalled_moves (k : Chan) (s : State) : Moves s (stalled k s) := by
  unfold stalled
  exact onConfigured_moves ..

/-! ## Slots and adverts -/

theorem onlyTallies_countItem (p : PubIx) (c : PubItemCtr) : OnlyTallies (countItem · p c) := fun _ => rfl
theorem onlyTallies_countPub (c : PubCtr) : OnlyTallies (countPub · c) := fun _ => rfl

theorem countReleased_moves (b : Bool) (p : PubIx) (s : State) : Moves s (countReleased b p s) := by
  unfold countReleased
  split
  · exact (Move.tally (onlyTallies_countItem _ _) s).moves
  · exact .refl

theorem vacate_moves (i : PubSlotNo) (b : Bool) (s : State) : Moves s (vacate i b s) := by
  unfold vacate
  split
  · exact ((Move.vacant i s).moves.trans (countReleased_moves ..)).trans (Move.advert ..).moves
  · exact (Move.vacant i s).moves

theorem stopSlot_moves (i : PubSlotNo) (p : PubIx) (s : State) : Moves s (stopSlot i p s) :=
  (((Move.vacant i s).moves.trans (Move.tally (onlyTallies_countItem p .sourceStopped) _).moves).trans
    (countReleased_moves ..)).trans (Move.flush ..).moves

theorem reviewSlot_moves (s : State) (i : PubSlotNo) : Moves s (reviewSlot s i) := by
  unfold reviewSlot
  dsimp only
  split
  · exact .refl
  split
  · exact .refl
  split
  · exact stopSlot_moves ..
  split
  · exact .refl
  next held _ _ =>
  split
  · next ending => exact (Move.change (pubSlotLaw_owed ending) rfl held rfl).moves
  · next carrying =>
    split
    · next picture => exact (Move.change (pubSlotLaw_ending held picture .release true) rfl held rfl).moves
    · exact vacate_moves ..
  · exact vacate_moves ..

theorem grantOne_moves (s : State) : Moves s (grantOne s) := by
  unfold grantOne
  split
  · next i p free top =>
    have hfree : (s.pub.slots.get i).state = .free := by simpa using List.find?_some free
    exact (Move.grant hfree (List.find?_some top)).moves.trans (Move.tally (onlyTallies_countItem _ _) _).moves
  · exact .refl

/-- Two slots stand still only where both are held and neither is ENDING (03/R46). -/
theorem yieldingSlot_held {s : State} {i : PubSlotNo} {q : PubIx} (h : yieldingSlot s = some (i, q)) :
    (s.pub.slots.get i).state ≠ .free := by
  simp only [yieldingSlot] at h
  split at h
  · cases h
  · next busy =>
    have held : (s.pub.slots.get 0).state ≠ .free ∧ (s.pub.slots.get 1).state ≠ .free :=
      ⟨fun e => busy (.inl e), fun e => busy (.inr (.inl e))⟩
    split at h
    · split at h <;> obtain ⟨rfl, -⟩ := Prod.mk.inj (Option.some.inj h)
      · exact held.2
      · exact held.1
    · cases h

theorem yieldOne_moves (s : State) : Moves s (yieldOne s) := by
  unfold yieldOne
  dsimp only
  split
  · next p i q _ yields =>
    split
    · have counted := (Move.tally (onlyTallies_countItem q .preempted) s).moves
      split
      · next picture =>
        have held := yieldingSlot_held yields
        exact counted.trans (Move.change (s := onPub (countItem · q .preempted) s)
          (pubSlotLaw_ending held picture .yield _) rfl held rfl).moves
      · exact counted.trans (vacate_moves ..)
    · exact .refl
  · exact .refl

theorem arbitrate_moves (s : State) : Moves s (arbitrate s) :=
  ((reviewSlot_moves s 0).trans (reviewSlot_moves _ 1)).trans
    (((grantOne_moves _).trans (grantOne_moves _)).trans ((yieldOne_moves _).trans (grantOne_moves _)))

theorem storeAdverts_moves (s : State) : Moves s (storeAdverts s) :=
  foldl_moves (fun s p => (Move.advert p s).moves) pubNos s

theorem noteStarts_moves (s : State) : Moves s (noteStarts s) := by
  refine foldl_moves (fun s p => ?_) pubNos s
  split
  · exact (Move.advert p s).moves
  · exact .refl

theorem settleFor_moves (n : Nat) (s : State) : Moves s (settleFor n s) := by
  induction n generalizing s with
  | zero => exact .refl
  | succ n ih =>
    unfold settleFor
    dsimp only
    have first := ((noteStarts_moves s).trans (arbitrate_moves _)).trans (storeAdverts_moves _)
    split
    · exact first.trans (((Move.hear _).moves.trans (rejudgeBoth_moves _)).trans (ih _))
    · exact first

theorem settle_moves (s : State) : Moves s (settle s) := settleFor_moves 8 s

/-! ## Records -/

theorem pictureOnSlot_moves (i : PubSlotNo) (p : PubIx) (r : PictureRecord) (s : State) :
    Moves s (pictureOnSlot i p r s) := by
  unfold pictureOnSlot
  dsimp only
  split
  · exact vacate_moves ..
  have carries (held : (s.pub.slots.get i).state = .granted ∨ (s.pub.slots.get i).state = .carrying) :
      Moves s (setSlot i { s.pub.slots.get i with state := .carrying, openPicture := true } s) :=
    (Move.change (pubSlotLaw_carrying held) rfl (by rcases held with e | e <;> simp [e]) rfl).moves
  have sent (t : State) : Moves t (onTx (offerBurst i (.picture r)) t) := (Move.burst i rfl t).moves
  split
  · next granted => exact (carries (.inl granted)).trans (sent _)
  · next carrying => exact (carries (.inr carrying)).trans (sent _)
  · exact sent s
  · exact .refl

theorem linesOnSlot_moves (i : PubSlotNo) (p : PubIx) (r : LinesRecord) (s : State) : Moves s (linesOnSlot i p r s) := by
  unfold linesOnSlot
  dsimp only
  split
  · next carries =>
    refine (Move.burst i (r := .lines r) rfl s).moves.trans ?_
    split
    · refine (Move.tally (onlyTallies_countItem p .picturesSent) _).moves.trans ?_
      split
      · exact vacate_moves ..
      · next notEnding =>
        have carrying := carries.resolve_right notEnding
        exact (Move.change (s := onPub (countItem · p .picturesSent) (onTx (offerBurst i (.lines r)) s))
          (pubSlotLaw_closed carrying) rfl (by simp [carrying]) rfl).moves
    · exact .refl
  · exact .refl

theorem pictureToChannel_moves (via : Origin) (r : PictureRecord) (k : Chan) (s : State) :
    Moves s (pictureToChannel via r k s) := by
  unfold pictureToChannel
  split
  · exact .refl
  · dsimp only
    split
    · split
      · exact (onChan_moves ..).trans (standardReport_moves ..)
      · exact onChan_moves ..
    · exact .refl

theorem linesToChannel_moves (via : Origin) (r : LinesRecord) (k : Chan) (s : State) :
    Moves s (linesToChannel via r k s) := by
  unfold linesToChannel
  split
  · exact .refl
  · split
    · exact onChan_moves ..
    · exact .refl

theorem publishPicture_moves (p : PubIx) (r : PictureRecord) (s : State) : Moves s (publishPicture p r s) := by
  unfold publishPicture
  dsimp only
  refine ReflTransGen.trans ?_ (foldl_moves (fun s k => pictureToChannel_moves _ r k s) _ _)
  refine (Move.tally (f := fun u => { u with lastSequence := u.lastSequence.set p r.sequence }) (fun _ => rfl) s).moves.trans ?_
  split
  · exact pictureOnSlot_moves ..
  · exact .refl

theorem publishLines_moves (p : PubIx) (r : LinesRecord) (s : State) : Moves s (publishLines p r s) := by
  unfold publishLines
  dsimp only
  refine ReflTransGen.trans ?_ (foldl_moves (fun s k => linesToChannel_moves _ r k s) _ _)
  split
  · exact linesOnSlot_moves ..
  · exact .refl

/-! ## The ingest port -/

/-- A relation between states that all the word stream does lies within: it holds of each thing done, one after another.
-/
structure CarriesIngest (R : State → State → Prop) : Prop where
  refl : ∀ s, R s s
  trans : ∀ {s t u}, R s t → R t u → R s u
  update : ∀ f s, R s (onIngest f s)
  settles : ∀ s, R s (settle s)
  picture : ∀ r s, s.station = .running → R s (publishPicture 0 r s)
  lines : ∀ r s, R s (publishLines 0 r s)

namespace CarriesIngest

variable {R : State → State → Prop} (h : CarriesIngest R)
include h

theorem beginForming (p : Parity) (arrival : Time) (s : State) : R s (beginForming p arrival s) := by
  unfold Machine.beginForming
  split
  · split
    · next forms => exact h.trans (h.update ..) (h.picture _ _ (by simpa [isRunning] using forms.2))
    · exact h.update ..
  · exact h.update ..

theorem formLines (l : OpenLine) (ends : Bool) (s : State) : R s (formLines l ends s) := by
  unfold Machine.formLines
  split
  · exact h.trans (h.update ..) (h.lines ..)
  · exact h.refl s

theorem gatherRecords (s : State) : R s (gatherRecords s) := by
  unfold Machine.gatherRecords
  split
  · dsimp only
    split
    · exact h.formLines ..
    · exact h.refl s
  · exact h.refl s

theorem closingRecords (s : State) : R s (closingRecords s) := by
  unfold Machine.closingRecords
  split
  · split
    · split
      · exact h.formLines ..
      · split
        · exact h.update ..
        · exact h.refl s
    · exact h.refl s
  · exact h.refl s

theorem closeLine (cut : Bool) (s : State) : R s (closeLine cut s) := by
  unfold Machine.closeLine
  split
  · exact h.trans (h.closingRecords s) (h.update ..)
  · exact h.refl s

theorem startLine (p : Parity) (s : State) : R s (startLine p s) := by
  unfold Machine.startLine
  split
  · exact h.refl s
  · exact h.trans (h.closeLine true s) (h.update ..)

theorem startPicture (arrival : Time) (p : Parity) (s : State) : R s (startPicture arrival p s) := by
  unfold Machine.startPicture
  exact h.trans (h.trans (h.closeLine true s) (h.update ..)) (h.trans (h.settles _) (h.beginForming ..))

theorem readMarker (arrival : Time) (f check : Sample) (s : State) : R s (readMarker arrival f check s) := by
  unfold Machine.readMarker
  split
  · exact h.update ..
  · exact h.startPicture ..
  · exact h.startLine ..
  · exact h.closeLine ..
  · exact h.closeLine ..

theorem sampleWord (w : Sample) (s : State) : R s (sampleWord w s) := by
  unfold Machine.sampleWord
  split
  · exact h.refl s
  · split
    · exact h.trans (h.update ..) (h.gatherRecords _)
    · exact h.update ..

theorem freshWord (w : Sample) (s : State) : R s (freshWord w s) := by
  unfold Machine.freshWord
  split
  · exact h.update ..
  · exact h.trans (h.update ..) (h.sampleWord ..)

theorem readWord (s : State) (w : Sample) : R s (readWord s w) := by
  unfold Machine.readWord
  split
  · exact h.freshWord ..
  · split
    · exact h.update ..
    · exact h.trans (h.sampleWord ..) (h.freshWord ..)
  · exact h.update ..
  · exact h.trans (h.update ..) (h.readMarker ..)

theorem readWords (ws : List Sample) (s : State) : R s (readWords ws s) := by
  induction ws generalizing s with
  | nil => exact h.refl s
  | cons w ws ih => exact h.trans (h.readWord s w) (ih _)

theorem ingestLate (s : State) : R s (ingestLate s) := by
  unfold Machine.ingestLate
  split
  · split
    · exact h.refl s
    · exact h.update ..
    · exact h.update ..
  · exact h.refl s

end CarriesIngest

theorem moves_carriesIngest : CarriesIngest Moves where
  refl _ := .refl
  trans := .trans
  update := onIngest_moves
  settles := settle_moves
  picture r s _ := publishPicture_moves 0 r s
  lines := publishLines_moves 0

/-! ## The output ports -/

theorem publishScan_moves (k : Chan) (std : StdCode) (t : Time) (s : State) : Moves s (publishScan k std t s) := by
  unfold publishScan
  split
  · split
    · split
      · exact (onChan_moves ..).trans (publishPicture_moves ..)
      · exact onChan_moves ..
    · exact onChan_moves ..
  · exact .refl

theorem enterAt_moves (k : Chan) (here : Bool) (s : State) : Moves s (enterAt k here s) := by
  unfold enterAt
  split
  · exact (onConfigured_moves ..).trans (settle_moves _)
  · exact .refl

theorem scanAt_moves (k : Chan) (entry : EntryOrder) (std : StdCode) (t : Time) (s : State) :
    Moves s (scanAt k entry std t s) :=
  (((((onChan_moves ..).trans (enterAt_moves ..)).trans (onChan_moves ..)).trans (enterAt_moves ..)).trans
    (publishScan_moves ..)).trans (enterAt_moves ..)

theorem scan_moves (k : Chan) (entry : EntryOrder) (s : State) : Moves s (scan k entry s) := by
  unfold scan
  split
  · split
    · split
      · exact onChan_moves ..
      · exact scanAt_moves ..
    · exact .refl
  · exact .refl

theorem publishLine_moves (k : Chan) (std : StdCode) (i : Nat) (s : State) : Moves s (publishLine k std i s) := by
  unfold publishLine
  split
  · dsimp only
    split
    · exact foldl_moves (fun s r => publishLines_moves _ r s) _ _
    · exact .refl
  · exact .refl

theorem emitLine_moves (k : Chan) (s : State) : Moves s (emitLine k s) := by
  unfold emitLine
  dsimp only
  split
  · split
    · exact (onChan_moves ..).trans (publishLine_moves ..)
    · exact onChan_moves ..
  · exact .refl

/-! ## The management port -/

theorem answer_moves (bytes : List Byte) (s : State) : Moves s (answer bytes s) := .aside rfl rfl rfl fun _ => rfl
theorem refuseWith_moves (r : Refused) (s : State) : Moves s (refuseWith r s) := .aside rfl rfl rfl fun _ => rfl
theorem accept_moves (s : State) : Moves s (accept s) := .aside rfl rfl rfl fun _ => rfl
theorem acceptRead_moves (values : State → Values) (s : State) : Moves s (acceptRead values s) :=
  .aside rfl rfl rfl fun _ => rfl

theorem releaseLatchCmd_moves (b : Byte) (s : State) : Moves s (releaseLatchCmd b s) := by
  unfold releaseLatchCmd
  split
  · exact refuseWith_moves ..
  split
  · exact refuseWith_moves ..
  split
  · exact ((onChan_moves ..).trans (enterAcquiring_moves ..)).trans (accept_moves _)
  · exact refuseWith_moves ..

theorem forceCopyCmd_moves (b origin station pub : Byte) (s : State) : Moves s (forceCopyCmd b origin station pub s) := by
  unfold forceCopyCmd
  split
  · exact refuseWith_moves ..
  split
  · exact refuseWith_moves ..
  split
  · exact refuseWith_moves ..
  · exact ((onChan_moves ..).trans (rejudgeOne_moves ..)).trans (accept_moves _)

theorem readChannelCmd_moves (b : Byte) (s : State) : Moves s (readChannelCmd b s) := by
  unfold readChannelCmd
  split
  · exact acceptRead_moves ..
  · exact refuseWith_moves ..

theorem readCountersCmd_moves (b : Byte) (s : State) : Moves s (readCountersCmd b s) := by
  unfold readCountersCmd
  exact .ite (acceptRead_moves ..) (refuseWith_moves ..)

theorem selectStart_moves (s : State) : Moves s (selectStart s) := by
  unfold selectStart
  split
  · exact .refl
  · exact .aside rfl rfl rfl fun _ => rfl

theorem selectEnd_moves (s : State) : Moves s (selectEnd s) := by
  unfold selectEnd
  split
  · exact .refl
  · exact .aside rfl rfl rfl fun _ => rfl
  · exact .aside rfl rfl rfl fun _ => rfl

/-- A relation between states that every clearing of flags lies within (12/R202). -/
structure CarriesClears (R : State → State → Prop) : Prop where
  refl : ∀ s, R s s
  trans : ∀ {s t u}, R s t → R t u → R s u
  lanes : ∀ s, R s { s with lanes := s.lanes.map fun x => { x with flags := Bank.fill 5 false } }
  laneFlag : ∀ f s l, R s (clearLaneFlag s f l)
  deferred : ∀ (f : Publication → Bank 3 Bool) (s : State), R s (onPub (fun u => { u with deferredFlags := f u }) s)
  inputs : ∀ f g (s : State), R s { s with ing := { s.ing with changeFlag := f }, ref := { s.ref with lostFlag := g } }
  ports : ∀ k (f g : Channel → Bool) s, R s (onChan k (fun c => { c with
    port := { c.port with jumpFlag := f c, mismatchFlag := g c } }) s)
  channel : ∀ k (f : Channel → Bank 15 Bool) s, R s (onChan k (fun c => { c with flags := f c }) s)
  station : ∀ f (s : State), R s { s with flags := f }

namespace CarriesClears

variable {R : State → State → Prop} (h : CarriesClears R)
include h

theorem foldl {α : Type} {f : State → α → State} (each : ∀ s a, R s (f s a)) (xs : List α) (s : State) :
    R s (xs.foldl f s) := by
  induction xs generalizing s with
  | nil => exact h.refl s
  | cons a xs ih => exact h.trans (each s a) (ih _)

theorem jump (s : State) (k : Chan) : R s (clearJump s k) := h.ports k (fun _ => false) (·.port.mismatchFlag) s
theorem mismatch (s : State) (k : Chan) : R s (clearMismatch s k) := h.ports k (·.port.jumpFlag) (fun _ => false) s
theorem ingestChange (s : State) : R s (clearIngestChange s) := h.inputs false s.ref.lostFlag s
theorem refLost (s : State) : R s (clearRefLost s) := h.inputs s.ing.changeFlag false s

theorem group (s : State) (g : Nat) : R s (clearGroup s g) := by
  unfold clearGroup
  split
  · exact h.lanes s
  · exact h.deferred (fun _ => Bank.fill 3 false) s
  · exact h.trans (h.trans (h.ingestChange s) (h.refLost _))
      (h.trans (h.trans (h.jump _ 0) (h.jump _ 1)) (h.trans (h.mismatch _ 0) (h.mismatch _ 1)))
  · exact h.channel 0 (fun _ => Bank.fill 15 false) s
  · exact h.channel 1 (fun _ => Bank.fill 15 false) s
  · exact h.station (Bank.fill 3 false) s
  · exact h.refl s

theorem chanFlag {s t : State} {k : Chan} {f : Nat} (e : clearChanFlag s k f = some t) : R s t := by
  unfold clearChanFlag at e
  split at e
  · next small => cases e; exact h.channel k (fun c => c.flags.set ⟨f, small⟩ false) s
  · cases e

/-- The instances that CLEAR_EVENTS names, cleared one after another. -/
theorem named {n : Nat} {f : State → Fin n → State} (each : ∀ s i, R s (f s i)) {s t : State} {inst : Nat}
    (e : (instances n inst).map (fun is => is.foldl f s) = some t) : R s t := by
  obtain ⟨is, -, rfl⟩ := Option.map_eq_some_iff.mp e
  exact h.foldl each is s

theorem clearFlags {s t : State} {g f inst : Nat} (e : clearFlags s g f inst = some t) : R s t := by
  unfold Machine.clearFlags at e
  split at e
  · cases e
  split at e
  · cases e; exact h.group ..
  split at e
  · split at e
    · exact h.named (h.laneFlag _) e
    · cases e
  · split at e
    · exact h.named (fun s p => h.deferred (·.deferredFlags.set p false) s) e
    · cases e
  · split at e
    · cases e; exact h.ingestChange s
    · cases e; exact h.refLost s
    · exact h.named h.jump e
    · exact h.named h.mismatch e
    · cases e
  · exact h.chanFlag e
  · exact h.chanFlag e
  · split at e
    · cases e; exact h.station _ s
    · cases e

end CarriesClears

theorem moves_carriesClears : CarriesClears Moves where
  refl _ := .refl
  trans := .trans
  lanes s := .aside rfl rfl rfl fun l => by simp [lane]
  laneFlag f s l := onLane_moves l _ s fun _ => rfl
  deferred f s := (Move.tally (f := fun u => { u with deferredFlags := f u }) (fun _ => rfl) s).moves
  inputs _ _ _ := .aside rfl rfl rfl fun _ => rfl
  ports _ _ _ _ := onChan_moves ..
  channel _ _ _ := onChan_moves ..
  station _ _ := .aside rfl rfl rfl fun _ => rfl

theorem clearEventsCmd_moves (g f inst : Byte) (s : State) : Moves s (clearEventsCmd g f inst s) := by
  unfold clearEventsCmd
  split
  · exact refuseWith_moves ..
  split
  · next cleared => exact (moves_carriesClears.clearFlags cleared).trans (accept_moves _)
  · exact refuseWith_moves ..

/-! ## The Reference Input -/

theorem onRef_moves (f : Reference → Reference) (s : State) : Moves s (onRef f s) := .aside rfl rfl rfl fun _ => rfl
theorem onPorts_moves (f : Port → Port) (s : State) : Moves s (onPorts f s) := .aside rfl rfl rfl fun _ => rfl

theorem pulse_moves (s : State) : Moves s (pulse s) := by
  unfold pulse
  split
  · exact .refl
  refine (onRef_moves (countRef · .pulses) s).trans ?_
  dsimp only
  split
  · exact onRef_moves ..
  · split
    · exact (onRef_moves ..).trans (onPorts_moves ..)
    · exact onRef_moves ..
  · split
    · exact (onRef_moves ..).trans (onPorts_moves ..)
    · exact onRef_moves ..

theorem refTimeout_moves (s : State) : Moves s (refTimeout s) := by
  unfold refTimeout
  exact .ite (onRef_moves ..) .refl

theorem refMiss_moves (s : State) : Moves s (refMiss s) := by
  unfold refMiss
  split
  · refine .ite ((onRef_moves (countRef · .missed) s).trans ?_) .refl
    exact Moves.ite (onRef_moves ..) ((onRef_moves ..).trans (onPorts_moves ..))
  · exact .refl

/-! ## The Channel Supervisor -/

theorem acquisitionTimer_moves (k : Chan) (s : State) : Moves s (acquisitionTimer k s) := by
  unfold acquisitionTimer
  exact .ite (onChan_moves ..) .refl

theorem decayTimer_moves (k : Chan) (s : State) : Moves s (decayTimer k s) := by
  unfold decayTimer
  exact .ite (onConfigured_moves ..) .refl

/-! ## The Peer Table -/

theorem stepNotice_moves (l : LaneNo) (k : Chan) (s : State) : Moves s (stepNotice l k s) := by
  unfold stepNotice
  split
  · exact onChan_moves ..
  · exact .refl

theorem deferReport_moves (l : LaneNo) (k : Chan) (s : State) : Moves s (deferReport l k s) := by
  unfold deferReport
  split
  · exact .ite (.ite ((onChan_moves ..).trans (onChan_moves ..)) (onChan_moves ..)) .refl
  · exact .refl

theorem followGeneration_moves (l : LaneNo) (q : Option Copy) (k : Chan) (s : State) :
    Moves s (followGeneration l q k s) := by
  unfold followGeneration
  split
  · split
    · exact onChan_moves ..
    · exact .refl
  · exact .refl

end Sys2Proof.Machine
end

section
/-! The laws of the publication slots and of the transmit lane, kept by one move and so by any number of them. -/

namespace Sys2Proof.Machine

open Relation (ReflTransGen)

/-! ## The publications (03/R51, R52) -/

/-- No publishable holds both slots (03/3.5). -/
def heldOnce (u : Publication) : Prop :=
  ∀ i j p, (u.slots.get i).holder = some p → (u.slots.get j).holder = some p → i = j

theorem heldOnce_iff (u : Publication) :
    heldOnce u ↔ ((u.slots.get 0).holder.isSome → (u.slots.get 0).holder ≠ (u.slots.get 1).holder) := by
  constructor
  · intro h some same
    obtain ⟨p, hp⟩ := Option.isSome_iff_exists.mp some
    exact absurd (h 0 1 p hp (same ▸ hp)) (by decide)
  · intro h i j p hi hj
    have apart (h0 : (u.slots.get 0).holder = some p) (h1 : (u.slots.get 1).holder = some p) : False :=
      h (by simp [h0]) (h0.trans h1.symm)
    match i, j with
    | 0, 0 => rfl
    | 0, 1 => exact (apart hi hj).elim
    | 1, 0 => exact (apart hj hi).elim
    | 1, 1 => rfl

/-- The publication law but for the mark of an unheard advert, which is set while a command runs. -/
structure SlotsLaw (s : State) : Prop where
  slot : ∀ i, pubSlotLaw (s.pub.slots.get i)
  once : heldOnce s.pub
  quiet : s.station ≠ .running → unpublished s.pub

theorem publicationLaw_iff (s : State) : publicationLaw s ↔ SlotsLaw s ∧ s.pub.unheard = false := by
  unfold publicationLaw
  rw [← heldOnce_iff]
  constructor
  · rintro ⟨slot, heard, once, quiet⟩
    exact ⟨⟨slot, once, quiet⟩, heard⟩
  · rintro ⟨⟨slot, once, quiet⟩, heard⟩
    exact ⟨slot, heard, once, quiet⟩

/-- The law reads slots, statuses, demand, tick and the station state. -/
theorem SlotsLaw.congr {s t : State} (h : SlotsLaw s) (slots : t.pub.slots = s.pub.slots)
    (adverts : t.pub.adverts = s.pub.adverts)
    (demand : t.pub.demand = s.pub.demand) (tick : t.pub.tick = s.pub.tick) (station : t.station = s.station) :
    SlotsLaw t := by
  obtain ⟨slot, once, quiet⟩ := h
  refine ⟨by rwa [slots], by unfold heldOnce at *; rwa [slots], ?_⟩
  rw [station]
  unfold unpublished at *
  rwa [slots, adverts, demand, tick]

theorem statusNow_stopped {s : State} (h : s.station ≠ .running) (p : PubIx) : statusNow s p = .none := by
  simp [statusNow, carries, isRunning, h]

theorem claims_running {s : State} {p : PubIx} (h : claims s p = true) : s.station = .running := by
  simp only [claims, carries, isRunning, Bool.and_eq_true, decide_eq_true_eq] at h
  obtain ⟨⟨⟨⟨running, -⟩, -⟩, -⟩, -⟩ := h
  exact running

/-- A claimant holds no slot (03/3.5). -/
theorem claims_holder {s : State} {p : PubIx} (h : claims s p = true) (law : ∀ i, pubSlotLaw (s.pub.slots.get i))
    (i : PubSlotNo) : (s.pub.slots.get i).holder ≠ some p := by
  intro held
  simp only [claims, Bool.and_eq_true, Option.isNone_iff_eq_none, heldSlot, List.find?_eq_none] at h
  have none := h.2 i (by match i with | 0 => simp [slotNos] | 1 => simp [slotNos])
  have free : (s.pub.slots.get i).state = .free := by simpa [held] using none
  rw [(law i).1 free] at held
  cases held

theorem Move.slotsLaw {s t : State} (m : Move s t) (h : SlotsLaw s) : SlotsLaw t := by
  cases m with
  | aside pub _ station _ => exact h.congr (by rw [pub]) (by rw [pub]) (by rw [pub]) (by rw [pub]) station
  | offer k cs => exact h.congr rfl rfl rfl rfl rfl
  | hear => exact h.congr rfl rfl rfl rfl rfl
  | burst i published => exact h.congr rfl rfl rfl rfl rfl
  | flush i => exact h.congr rfl rfl rfl rfl rfl
  | tally same =>
    exact h.congr (by rw [onPub_pub, same]) (by rw [onPub_pub, same]) (by rw [onPub_pub, same]) (by rw [onPub_pub, same]) rfl
  | advert p =>
    refine ⟨h.slot, h.once, fun stopped => ?_⟩
    obtain ⟨status, demand, slots, tick⟩ := h.quiet stopped
    refine ⟨fun q => ?_, demand, slots, tick⟩
    by_cases e : q = p
    · rw [e, noteAdvert_advert]
      exact statusNow_stopped stopped p
    · exact (congrArg Advert.status (Bank.get_set_ne _ e _)).trans (status q)
  | vacant i =>
    refine ⟨fun j => ?_, fun j l p hj hl => ?_, fun stopped => ?_⟩
    · simp only [setSlot, onPub_pub, Bank.get_set]
      split
      · simp [pubSlotLaw, PubSlot.freed]
      · exact h.slot j
    · simp only [setSlot, onPub_pub, Bank.get_set] at hj hl
      split at hj
      · cases hj
      split at hl
      · cases hl
      exact h.once j l p hj hl
    · obtain ⟨status, demand, slots, tick⟩ := h.quiet stopped
      refine ⟨status, demand, ?_, tick⟩
      simp only [setSlot, onPub_pub, slots]
      exact Bank.ext_get fun j => by simp [Bank.get_set]
  | @grant i q _ free claim =>
    refine ⟨fun j => ?_, fun j l p hj hl => ?_, fun stopped => absurd (claims_running claim) stopped⟩
    · simp only [setSlot, onPub_pub, Bank.get_set]
      split
      · simp [pubSlotLaw, PubSlot.granted]
      · exact h.slot j
    · have other := claims_holder claim h.slot
      simp only [setSlot, onPub_pub, Bank.get_set, PubSlot.granted] at hj hl
      split at hj <;> split at hl
      · next e e' => exact e.trans e'.symm
      · cases hj
        exact absurd hl (other l)
      · cases hl
        exact absurd hj (other j)
      · exact h.once j l p hj hl
  | @change i x y _ law before held holder =>
    subst before
    have holders (j : PubSlotNo) : ((setSlot i x s).pub.slots.get j).holder = (s.pub.slots.get j).holder := by
      simp only [setSlot, onPub_pub, Bank.get_set]
      split
      · next e => rw [e, holder]
      · rfl
    refine ⟨fun j => ?_, fun j l p hj hl => ?_, fun stopped => ?_⟩
    · simp only [setSlot, onPub_pub, Bank.get_set]
      split
      · exact law (h.slot i)
      · exact h.slot j
    · rw [holders] at hj hl
      exact h.once j l p hj hl
    · obtain ⟨-, -, slots, -⟩ := h.quiet stopped
      rw [slots, Bank.get_fill] at held
      exact absurd rfl held

theorem Moves.slotsLaw {s t : State} (m : Moves s t) (h : SlotsLaw s) : SlotsLaw t := by
  induction m with
  | refl => exact h
  | tail _ m ih => exact m.slotsLaw ih

/-! ## The transmit lane (01/R11, R13, R15) -/

/-- The transmit law but for the calls that the present command offers. -/
structure SendLaw (s : State) : Prop where
  queue : callQueueLaw s.tx.callQueue
  starts : s.tx.startCount ≤ 16
  instant : ∀ i ∈ s.tx.instant, instantLaw s i
  owed : s.tx.restartOwed = true → s.tx.sending.isSome ∧ s.station ≠ .running
  bursts : ∀ k, (s.tx.bursts.get k).length ≤ 32 ∧ ∀ r ∈ s.tx.bursts.get k, isPublished r = true

theorem transmitLaw_iff (s : State) : transmitLaw s ↔ SendLaw s ∧ s.tx.offers = Bank.fill 2 [] := by
  unfold transmitLaw
  constructor
  · rintro ⟨queue, starts, instant, offers, owed, bursts⟩
    exact ⟨⟨queue, starts, instant, owed, bursts⟩, offers⟩
  · rintro ⟨⟨queue, starts, instant, owed, bursts⟩, offers⟩
    exact ⟨queue, starts, instant, offers, owed, bursts⟩

/-- What a move leaves alone of the transmit lane: all but the calls offered, the burst queues and their counters. -/
theorem Move.tx {s t : State} (m : Move s t) :
    t.tx = { s.tx with offers := t.tx.offers, bursts := t.tx.bursts, slotTally := t.tx.slotTally } := by
  cases m with
  | aside _ tx _ _ => rw [tx]
  | burst i published =>
    show offerBurst i _ s.tx = _
    rw [onTx_tx]
    unfold offerBurst
    split <;> rfl
  | _ => rfl

theorem Move.station {s t : State} (m : Move s t) : t.station = s.station := by
  cases m with
  | aside _ _ station _ => exact station
  | _ => rfl

theorem Moves.tx {s t : State} (m : Moves s t) :
    t.tx = { s.tx with offers := t.tx.offers, bursts := t.tx.bursts, slotTally := t.tx.slotTally } := by
  induction m with
  | refl => rfl
  | tail _ m ih => rw [m.tx, ih]

theorem Moves.station {s t : State} (m : Moves s t) : t.station = s.station := by
  induction m with
  | refl => rfl
  | tail _ m ih => rw [m.station, ih]

theorem Move.entry {s t : State} (m : Move s t) (l : LaneNo) : (lane t l).entry = (lane s l).entry := by
  cases m with
  | aside _ _ _ entry => exact entry l
  | _ => rfl

theorem Moves.entry {s t : State} (m : Moves s t) (l : LaneNo) : (lane t l).entry = (lane s l).entry := by
  induction m with
  | refl => rfl
  | tail _ m ih => rw [m.entry, ih]

/-- The burst queues hold no more than 32 records each, all of them published (01/R15). -/
def burstsLaw (x : Transmit) : Prop :=
  ∀ k, (x.bursts.get k).length ≤ 32 ∧ ∀ r ∈ x.bursts.get k, isPublished r = true

theorem offerBurst_burstsLaw {x : Transmit} (h : burstsLaw x) (i : PubSlotNo) {r : LinkRecord}
    (published : isPublished r = true) : burstsLaw (offerBurst i r x) := by
  intro k
  refine ⟨offerBurst_length i k r x (h k).1, fun q hq => ?_⟩
  unfold offerBurst at hq
  split at hq
  · simp only [Bank.get_modify] at hq
    split at hq
    · next e =>
      rcases List.mem_append.mp hq with old | new
      · exact (h i).2 q old
      · rw [List.mem_singleton.mp new]; exact published
    · exact (h k).2 q hq
  · exact (h k).2 q hq

theorem flushBurst_burstsLaw {x : Transmit} (h : burstsLaw x) (i : PubSlotNo) : burstsLaw (flushBurst i x) := by
  intro k
  simp only [flushBurst, countSlot, Bank.get_set]
  split
  · simp
  · exact h k

theorem Move.bursts {s t : State} (m : Move s t) (h : burstsLaw s.tx) : burstsLaw t.tx := by
  cases m with
  | aside _ tx _ _ => rwa [tx]
  | burst i published => exact offerBurst_burstsLaw h i published
  | flush i => exact flushBurst_burstsLaw h i
  | _ => exact h

theorem Moves.sendLaw {s t : State} (m : Moves s t) (h : SendLaw s) : SendLaw t := by
  have bursts : burstsLaw t.tx := by
    induction m with
    | refl => exact h.bursts
    | tail _ m ih => exact m.bursts ih
  have tx := m.tx
  refine ⟨?_, ?_, ?_, ?_, bursts⟩
  · rw [tx]; exact h.queue
  · rw [tx]; exact h.starts
  · unfold instantLaw
    rw [tx]; exact h.instant
  · rw [tx, m.station]; exact h.owed

end Sys2Proof.Machine
end

section
/-! The end of every command at the transmit lane: the call queue takes the calls of the instant, and an idle transmitter
begins what is ready (01/R9, R13). -/

namespace Sys2Proof.Machine

/-! ## The call queue (01/R13) -/

theorem samePair_comm (a b : Call) : samePair a b = samePair b a := by
  simp only [samePair, eq_comm]

theorem samePair_iff {a b : Call} : samePair a b = true ↔ b.target = a.target ∧ b.feed = a.feed := by
  rw [samePair, Bool.and_eq_true, decide_eq_true_eq, decide_eq_true_eq, eq_comm (a := a.target), eq_comm (a := a.feed)]

/-- A call for a (target, feed) that the queue holds replaces it in place. -/
theorem offerCall_replace {c : Call} {x : Transmit} (h : x.callQueue.any (samePair c) = true) :
    offerCall c x = { x with 
      callQueue := x.callQueue.map fun q => if samePair c q then { q with duration := c.duration } else q } := by
  simp [offerCall, h]

theorem offerCall_append {c : Call} {x : Transmit} (h : x.callQueue.any (samePair c) = false)
    (room : x.callQueue.length < 8) : offerCall c x = { x with callQueue := x.callQueue ++ [c] } := by
  simp [offerCall, h, room]

theorem offerCall_drop {c : Call} {x : Transmit} (h : x.callQueue.any (samePair c) = false)
    (full : 8 ≤ x.callQueue.length) :
    offerCall c x = countTx { x with callQueue := x.callQueue.drop 1 ++ [c] } .callDropped := by
  simp [offerCall, h, full]

theorem offerCall_keepsLaw (c : Call) {x : Transmit} (h : callQueueLaw x.callQueue) :
    callQueueLaw (offerCall c x).callQueue := by
  refine ⟨offerCall_length c x h.1, ?_⟩
  have apart {qs : List Call} (new : x.callQueue.any (samePair c) = false) (part : List.Sublist qs x.callQueue) :
      (qs ++ [c]).Pairwise (fun a b => samePair a b = false) := by
    refine List.pairwise_append.mpr ⟨h.2.sublist part, List.pairwise_singleton .., fun a ha b hb => ?_⟩
    rw [List.mem_singleton.mp hb, samePair_comm]
    simpa using List.any_eq_false.mp new a (part.subset ha)
  cases new : x.callQueue.any (samePair c) with
  | true =>
    rw [offerCall_replace new]
    refine List.pairwise_map.mpr (h.2.imp fun {a b} old => ?_)
    have duration (q : Call) : samePair (if samePair c q then { q with duration := c.duration } else q) = samePair q := by
      split <;> rfl
    rw [duration, samePair_comm, duration, samePair_comm, old]
  | false =>
    by_cases room : x.callQueue.length < 8
    · rw [offerCall_append new room]
      exact apart new (.refl _)
    · rw [offerCall_drop new (by omega)]
      exact apart new (List.drop_sublist ..)

theorem offerCalls_keepsLaw (cs : List Call) {x : Transmit} (h : callQueueLaw x.callQueue) :
    callQueueLaw (offerCalls cs x).callQueue := by
  induction cs generalizing x with
  | nil => exact h
  | cons c cs ih => exact ih (offerCall_keepsLaw c h)

/-- An offered call touches the queue and its counter only. -/
theorem offerCall_frame (c : Call) (x : Transmit) :
    offerCall c x = { x with callQueue := (offerCall c x).callQueue, tally := (offerCall c x).tally } := by
  unfold offerCall
  split
  · rfl
  · split <;> rfl

theorem offerCalls_frame (cs : List Call) (x : Transmit) :
    offerCalls cs x = { x with callQueue := (offerCalls cs x).callQueue, tally := (offerCalls cs x).tally } := by
  induction cs generalizing x with
  | nil => rfl
  | cons c cs ih =>
    have rest := ih (offerCall c x)
    have first := offerCall_frame c x
    unfold offerCalls at rest ⊢
    rw [List.foldl_cons, rest]
    generalize cs.foldl (fun x c => offerCall c x) (offerCall c x) = y
    rw [first]

theorem requeue_frame (i : CallInstant) (calls : List Call) (x : Transmit) :
    requeue i calls x = { x with
      callQueue := (requeue i calls x).callQueue, tally := (requeue i calls x).tally, offers := Bank.fill 2 []
      instant := some i } :=
  offerCalls_frame ..

/-! ## The calls of an instant (notes/assumptions/43) -/

theorem instantNow_kept {now : Time} {x : Transmit} {i : CallInstant} (h : x.instant = some i) (e : i.time = now) :
    instantNow now x = i := by
  simp [instantNow, h, e]

theorem instantNow_fresh {now : Time} {x : Transmit} (h : ∀ i ∈ x.instant, i.time ≠ now) :
    instantNow now x = ⟨now, x.callQueue, x.tally.get (txCtrIx .callDropped), Bank.fill 2 [], false⟩ := by
  unfold instantNow
  split
  · next i e => rw [if_neg (h i e)]
  · rfl

theorem instantNow_law {s : State} (h : SendLaw s) (now : Time) : instantLaw s (instantNow now s.tx) := by
  by_cases kept : ∃ i, s.tx.instant = some i ∧ i.time = now
  · obtain ⟨i, e, time⟩ := kept
    rw [instantNow_kept e time]
    exact h.instant i e
  · rw [instantNow_fresh fun i e time => kept ⟨i, e, time⟩]
    exact ⟨h.queue, nofun⟩

theorem heldNow_law {s : State} (h : SendLaw s) : instantLaw s (heldNow s.now s.tx) := instantNow_law h s.now

theorem heldNow_offered (now : Time) (x : Transmit) (k : Chan) :
    (heldNow now x).offered.get k = (instantNow now x).offered.get k ++ x.offers.get k := Bank.get_ofFn ..

/-- The transmit lane once the calls of an instant stand in the queue that it found. -/
def queuedFor (s : State) (i : CallInstant) : Transmit :=
  requeue i (standingCalls s 0 (i.offered.get 0) ++ standingCalls s 1 (i.offered.get 1)) s.tx

/-- A CALL begun in the instant gives way to the oldest of the new queue. -/
def resendIf (config : Option StationConfig) (begun : Bool) (x : Transmit) : Transmit :=
  match config with
  | some g => if begun then resend g x else x
  | none => x

theorem takeCalls_none {s : State} (h : (heldNow s.now s.tx).offered = Bank.fill 2 []) :
    takeCalls s = onTx (fun x => { x with instant := none }) s := by
  unfold takeCalls
  exact if_pos h

theorem takeCalls_some {s : State} {i : CallInstant} (e : heldNow s.now s.tx = i) (h : i.offered ≠ Bank.fill 2 []) :
    takeCalls s = { s with tx := resendIf s.config i.begun (queuedFor s i) } := by
  subst e
  unfold takeCalls
  exact if_neg h

theorem queuedFor_frame (s : State) (i : CallInstant) :
    queuedFor s i = { s.tx with
      callQueue := (queuedFor s i).callQueue, tally := (queuedFor s i).tally, offers := Bank.fill 2 []
      instant := some i } := requeue_frame ..

theorem resend_frame (g : StationConfig) (x : Transmit) :
    resend g x = { x with callQueue := (resend g x).callQueue, sending := (resend g x).sending } := by
  unfold resend
  split <;> rfl

theorem resendIf_frame (config : Option StationConfig) (begun : Bool) (x : Transmit) :
    resendIf config begun x = { x with
      callQueue := (resendIf config begun x).callQueue, sending := (resendIf config begun x).sending } := by
  unfold resendIf
  split
  · split
    · exact resend_frame ..
    · rfl
  · rfl

theorem resend_keeps (g : StationConfig) {x : Transmit} (h : callQueueLaw x.callQueue) :
    callQueueLaw (resend g x).callQueue ∧ (x.sending.isSome → (resend g x).sending.isSome) := by
  unfold resend
  split
  · next c rest e =>
    rw [e] at h
    exact ⟨⟨Nat.le_of_succ_le h.1, h.2.of_cons⟩, fun _ => rfl⟩
  · exact ⟨h, id⟩

theorem resendIf_keeps (config : Option StationConfig) (begun : Bool) {x : Transmit} (h : callQueueLaw x.callQueue) :
    callQueueLaw (resendIf config begun x).callQueue
      ∧ (x.sending.isSome → (resendIf config begun x).sending.isSome) := by
  unfold resendIf
  split
  · split
    · exact resend_keeps _ h
    · exact ⟨h, id⟩
  · exact ⟨h, id⟩

/-- The transmit lane after the calls of an instant have been taken. -/
theorem resendIf_queuedFor_frame (s : State) (i : CallInstant) (x : Transmit)
    (h : x = resendIf s.config i.begun (queuedFor s i)) :
    x = { s.tx with
      callQueue := x.callQueue, tally := x.tally, sending := x.sending, offers := Bank.fill 2 [], instant := some i } := by
  subst h
  rw [resendIf_frame, queuedFor_frame]

theorem takeCalls_sendLaw {s : State} (h : SendLaw s) : transmitLaw (takeCalls s) := by
  rw [transmitLaw_iff]
  generalize e : heldNow s.now s.tx = i
  by_cases nothing : i.offered = Bank.fill 2 []
  · rw [takeCalls_none (e ▸ nothing)]
    refine ⟨⟨h.queue, h.starts, nofun, h.owed, h.bursts⟩, Bank.ext_get fun k => ?_⟩
    have both := heldNow_offered s.now s.tx k
    rw [e, nothing, Bank.get_fill] at both
    rw [Bank.get_fill]
    exact (List.append_eq_nil_iff.mp both.symm).2
  · obtain ⟨queue, begun⟩ : instantLaw s i := e ▸ heldNow_law h
    rw [takeCalls_some e nothing]
    obtain ⟨law, sending⟩ := resendIf_keeps s.config i.begun (x := queuedFor s i) (offerCalls_keepsLaw _ queue)
    generalize hx : resendIf s.config i.begun (queuedFor s i) = x at law sending
    have still : s.tx.sending.isSome → x.sending.isSome := by rwa [queuedFor_frame] at sending
    have frame := resendIf_queuedFor_frame s i x hx.symm
    rw [frame]
    refine ⟨⟨law, h.starts, ?_, fun owed => ⟨still (h.owed owed).1, (h.owed owed).2⟩, h.bursts⟩, rfl⟩
    rintro j ⟨⟩
    exact ⟨queue, fun b => still (begun b)⟩

/-! ## The transmit arbiter (01/R9, R12, R14) -/

theorem beginSending_beacon {s : State} (g : StationConfig) (h : s.tx.beaconPending = true) :
    beginSending s g = { s with tx := countTx { s.tx with
      beaconPending := false, startCount := s.tx.startCount - 1
      sending := some (encodeRecord (.beacon (formBeacon s g))) } .beacons } := by
  simp [beginSending, h]

theorem beginSending_call {s : State} (g : StationConfig) {c : Call} {rest : List Call}
    (h : s.tx.beaconPending = false) (queue : s.tx.callQueue = c :: rest) :
    beginSending s g = { s with tx := countTx (noteBegun { s.tx with
      callQueue := rest, sending := some (encodeRecord (callRecord g c)) }) .calls } := by
  simp [beginSending, h, queue]

theorem beginSending_burst {s : State} (g : StationConfig) {i : PubSlotNo} {r : LinkRecord} {rest : List LinkRecord}
    (h : s.tx.beaconPending = false) (queue : s.tx.callQueue = []) (served : servedSlot s.tx = some i)
    (burst : s.tx.bursts.get i = r :: rest) :
    beginSending s g = { s with tx := countSlot { s.tx with
      bursts := s.tx.bursts.set i rest, mark := i, sending := some (encodeRecord r) } i .records 1 } := by
  simp [beginSending, h, queue, served, burst]

theorem beginSending_idle {s : State} (g : StationConfig) (h : s.tx.beaconPending = false) (queue : s.tx.callQueue = [])
    (served : servedSlot s.tx = none) : beginSending s g = s := by
  simp [beginSending, h, queue, served]

/-- The slot served holds a record. -/
theorem servedSlot_holds {x : Transmit} {i : PubSlotNo} (h : servedSlot x = some i) : x.bursts.get i ≠ [] := by
  simp only [servedSlot] at h
  split at h
  · split at h
    · cases h
    · next other => cases h; exact other
  · next zero =>
    split at h
    · cases h; exact zero
    · next one =>
      split at h <;> cases h
      · exact one
      · exact zero

/-- What the arbiter can begin with: nothing, the beacon, a call or a record of a slot. -/
theorem beginSending_cases (s : State) (g : StationConfig) (P : State → Prop) (idle : P s)
    (beacon : s.tx.beaconPending = true → P { s with tx := countTx { s.tx with
      beaconPending := false, startCount := s.tx.startCount - 1
      sending := some (encodeRecord (.beacon (formBeacon s g))) } .beacons })
    (call : ∀ c rest, s.tx.callQueue = c :: rest → P { s with tx := countTx (noteBegun { s.tx with
      callQueue := rest, sending := some (encodeRecord (callRecord g c)) }) .calls })
    (burst : ∀ i r rest, s.tx.bursts.get i = r :: rest → P { s with tx := countSlot { s.tx with
      bursts := s.tx.bursts.set i rest, mark := i, sending := some (encodeRecord r) } i .records 1 }) :
    P (beginSending s g) := by
  cases h : s.tx.beaconPending with
  | true => rw [beginSending_beacon g h]; exact beacon h
  | false =>
    cases queue : s.tx.callQueue with
    | cons c rest => rw [beginSending_call g h queue]; exact call c rest queue
    | nil =>
      cases served : servedSlot s.tx with
      | none => rw [beginSending_idle g h queue served]; exact idle
      | some i =>
        cases e : s.tx.bursts.get i with
        | nil => exact absurd e (servedSlot_holds served)
        | cons r rest => rw [beginSending_burst g h queue served e]; exact burst i r rest e

theorem beginSending_sendLaw {s : State} (g : StationConfig) (h : SendLaw s) : SendLaw (beginSending s g) := by
  have owed (o : s.tx.restartOwed = true) := (h.owed o).2
  have sent : ∀ i ∈ s.tx.instant, callQueueLaw i.queue := fun i e => (h.instant i e).1
  refine beginSending_cases s g SendLaw h (fun _ => ?_) (fun c rest e => ?_) (fun i r rest e => ?_)
  · exact ⟨h.queue, Nat.le_trans (Nat.sub_le ..) h.starts, fun i e => ⟨sent i e, fun _ => rfl⟩, fun o => ⟨rfl, owed o⟩,
      h.bursts⟩
  · have queue := h.queue
    rw [e] at queue
    refine ⟨⟨Nat.le_of_succ_le queue.1, queue.2.of_cons⟩, h.starts, fun i e => ?_, fun o => ⟨rfl, owed o⟩, h.bursts⟩
    obtain ⟨j, hj, rfl⟩ := Option.map_eq_some_iff.mp e
    exact ⟨sent j hj, fun _ => rfl⟩
  · refine ⟨h.queue, h.starts, fun i e => ⟨sent i e, fun _ => rfl⟩, fun o => ⟨rfl, owed o⟩, fun k => ?_⟩
    simp only [countSlot, Bank.get_set]
    split
    · have old := h.bursts i
      rw [e] at old
      exact ⟨Nat.le_of_succ_le old.1, fun q hq => old.2 q (List.mem_cons_of_mem _ hq)⟩
    · exact h.bursts k

theorem beginSending_offers (s : State) (g : StationConfig) : (beginSending s g).tx.offers = s.tx.offers :=
  beginSending_cases s g (fun t => t.tx.offers = s.tx.offers) rfl (fun _ => rfl) (fun _ _ _ => rfl) (fun _ _ _ _ => rfl)

/-- The transmitter begins nothing while a record is on the lane or the station is not RUNNING (01/R9, R10). -/
theorem arbitrateLane_cases (s : State) (P : State → Prop) (idle : P s)
    (begins : ∀ g, s.config = some g → s.tx.sending = none → s.station = .running → P (beginSending s g)) :
    P (arbitrateLane s) := by
  unfold arbitrateLane
  split
  · next g sending config =>
    split
    · next running => exact begins g config sending (by simpa [isRunning] using running)
    · exact idle
  · exact idle

theorem arbitrateLane_transmitLaw {s : State} (h : transmitLaw s) : transmitLaw (arbitrateLane s) := by
  rw [transmitLaw_iff] at h
  refine arbitrateLane_cases s transmitLaw ((transmitLaw_iff s).mpr h) fun g _ _ _ => ?_
  rw [transmitLaw_iff]
  exact ⟨beginSending_sendLaw g h.1, (beginSending_offers s g).trans h.2⟩

/-! ## The end of a command -/

theorem conclude_transmitLaw {s : State} (h : SendLaw s) : transmitLaw (conclude s) := by
  unfold conclude
  exact arbitrateLane_transmitLaw (takeCalls_sendLaw ((settle_moves s).sendLaw h))

theorem conclude_pub (s : State) : (conclude s).pub = (settle s).pub :=
  ((takeCalls_within _).trans (arbitrateLane_within _)).pub

theorem conclude_publicationLaw {s : State} (h : SlotsLaw s) : publicationLaw (conclude s) := by
  have settled := (settle_moves s).slotsLaw h
  rw [publicationLaw_iff, conclude_pub]
  refine ⟨settled.congr ?_ ?_ ?_ ?_ ?_, settle_unheard s⟩
  · rw [conclude_pub]
  · rw [conclude_pub]
  · rw [conclude_pub]
  · rw [conclude_pub]
  · exact (conclude_within s).station.trans (settle_within s).station.symm

end Sys2Proof.Machine
end

section
/-! What every command does, between the ticks that pass and the end common to all commands; and the laws of lanes,
transmit lane and publications through it. -/

namespace Sys2Proof.Machine

open Relation (ReflTransGen)

/-! ## Peer entries and the demand table -/

/-- A change that the demand table sees: of a RUNNING station, or one that sets nothing (03/R40, R52). -/
structure OnlyDemand (s : State) (f : Publication → Publication) : Prop where
  frame : f s.pub = { s.pub with
    demand := (f s.pub).demand, tick := (f s.pub).tick, tally := (f s.pub).tally }
  stopped : s.station ≠ .running →
    (f s.pub).tick = s.pub.tick ∧ ∀ p n, (s.pub.demand.get p).get n = 0 → ((f s.pub).demand.get p).get n = 0

/-- A move, a change of one peer entry that keeps its law, or a change of the demand table. -/
inductive Effect : State → State → Prop where
  | move {s t : State} (m : Move s t) : Effect s t
  | entry {l : LaneNo} {f : Lane → Lane} {s : State} (law : peerLaw (lane s l).entry → peerLaw (f (lane s l)).entry) :
      Effect s (onLane l f s)
  | demand {f : Publication → Publication} {s : State} (h : OnlyDemand s f) : Effect s (onPub f s)

/-- Any number of effects, one after another. -/
abbrev Effects : State → State → Prop := ReflTransGen Effect

theorem Moves.effects {s t : State} (m : Moves s t) : Effects s t :=
  ReflTransGen.mono (fun _ _ => Effect.move) s t m

theorem Effect.effects {s t : State} (e : Effect s t) : Effects s t := .single e

/-! ## Records received -/

theorem leftLive_effects (e : PeerEntry) (l : LaneNo) (s : State) : Effects s (leftLive e l s) := by
  unfold leftLive
  split
  · next n _ _ =>
    split
    · exact .refl
    · refine (Effect.demand (f := clearColumn n) ⟨rfl, fun _ => ⟨rfl, fun p m zero => ?_⟩⟩).effects
      simp only [clearColumn, Bank.get_map, Bank.get_set]
      split
      · rfl
      · exact zero
  · exact .refl

theorem continueOffset_frame (m : Time) (x : Lane) :
    ∃ offset steps, (continueOffset m x).entry = { x.entry with offset := offset, stepCount := steps } ∧ steps ≤ 1 := by
  unfold continueOffset
  split
  · exact ⟨_, _, rfl, by decide⟩
  split
  · exact ⟨x.entry.offset, 1, rfl, by decide⟩
  · exact ⟨_, _, rfl, by decide⟩

/-- The entry that a taken beacon leaves: the beacon's own values, the state and count of its qualification, and an
estimate (02/R17, R18, R25). -/
theorem absorbBeacon_entry (arrival : Time) (b : Beacon) (x : Lane) :
    ∃ offset steps, steps ≤ 1 ∧ (absorbBeacon arrival b x).entry =
      { state := (qualify x.entry arrival b).1, count := (qualify x.entry arrival b).2, station := some b.station
        epoch := some b.epoch, startMark := b.start, lastArrival := some arrival
        deadline := some (shift arrival 108000), offset, stepCount := steps, entries := b.entries } := by
  have estimated (y : Lane) : ∃ offset steps, steps ≤ 1 ∧
      (if continues x.entry arrival b then continueOffset (measurementOf arrival b) y
        else initialiseOffset (measurementOf arrival b) y).entry = { y.entry with offset := offset, stepCount := steps } := by
    split
    · obtain ⟨offset, steps, e, small⟩ := continueOffset_frame (measurementOf arrival b) y
      exact ⟨offset, steps, small, e⟩
    · exact ⟨_, 0, by decide, rfl⟩
  have told (c d : Prop) [Decidable c] [Decidable d] (y : Lane) :
      (if c then flagLane y .laneLive else if d then countLane y .laneRequalified else y).entry = y.entry := by
    split
    · rfl
    · split <;> rfl
  unfold absorbBeacon
  dsimp only
  obtain ⟨offset, steps, small, e⟩ := estimated _
  refine ⟨offset, steps, small, ?_⟩
  rw [e, told]

/-- A lane is QUALIFYING after a beacon with a count of one or two, or LIVE with three (02/R19, R20, R22, R24). -/
theorem qualify_counts {e : PeerEntry} (h : peerLaw e) (arrival : Time) (b : Beacon) :
    (qualify e arrival b).1 = .qualifying ∧ ((qualify e arrival b).2 = 1 ∨ (qualify e arrival b).2 = 2)
      ∨ (qualify e arrival b).1 = .live ∧ (qualify e arrival b).2 = 3 := by
  obtain ⟨-, -, -, qualifying, -, -⟩ := h
  unfold qualify
  split
  · exact .inl ⟨rfl, .inl rfl⟩
  · exact .inl ⟨rfl, .inl rfl⟩
  · next state =>
    obtain ⟨count, -, -⟩ := qualifying state
    split
    · split
      · exact .inr ⟨rfl, rfl⟩
      · next few =>
        refine .inl ⟨rfl, .inr ?_⟩
        dsimp only
        omega
    · exact .inl ⟨rfl, .inl rfl⟩
  · split
    · exact .inr ⟨rfl, rfl⟩
    · exact .inl ⟨rfl, .inl rfl⟩

theorem absorbBeacon_peerLaw {b : Beacon} (entries : ∀ p, entryOk (b.entries.get p)) (arrival : Time) {x : Lane}
    (h : peerLaw x.entry) : peerLaw (absorbBeacon arrival b x).entry := by
  obtain ⟨offset, steps, small, e⟩ := absorbBeacon_entry arrival b x
  rw [e]
  rcases qualify_counts h arrival b with ⟨state, count⟩ | ⟨state, count⟩
  · simp [peerLaw, countsIdentity, state, count, small, entries]
  · simp [peerLaw, countsIdentity, state, count, small, entries]

/-- An entry that is read has a rank, or is all zero (01/R6, R25). -/
theorem readEntry_ok {a b : Word} {e : PubEntry} (h : readEntry a b = some e) : entryOk e = true := by
  unfold readEntry at h
  split at h
  · cases h; rfl
  split at h
  · cases h
  next rank =>
  obtain ⟨status, -, h⟩ := Option.bind_eq_some_iff.mp h
  obtain ⟨standard, -, h⟩ := Option.bind_eq_some_iff.mp h
  cases h
  have small : field a 6 3 < 8 := Nat.mod_lt _ (by decide)
  simp only [entryOk, decide_eq_true_eq, ne_eq, Fin.ext_iff, Fin.ofNat]
  simp only [Fin.coe_ofNat_eq_mod]
  omega

theorem readBeacon_ok {ws : List Word} {b : Beacon} (h : readBeacon ws = some b) (p : PubIx) :
    entryOk (b.entries.get p) = true := by
  unfold readBeacon at h
  obtain ⟨e0, h0, h⟩ := Option.bind_eq_some_iff.mp h
  obtain ⟨e1, h1, h⟩ := Option.bind_eq_some_iff.mp h
  obtain ⟨e2, h2, h⟩ := Option.bind_eq_some_iff.mp h
  cases h
  match p with
  | 0 => exact readEntry_ok h0
  | 1 => exact readEntry_ok h1
  | 2 => exact readEntry_ok h2

theorem checkRecord_beacon {ws : List Word} {b : Beacon} (h : checkRecord ws = .ok (.beacon b)) :
    readBeacon ws = some b := by
  unfold checkRecord at h
  split at h
  · cases h
  split at h
  · cases h
  split at h
  · cases h
  split at h
  · split at h
    · next read =>
      split at h <;> cases h
      exact read
    · cases h
  all_goals
    split at h
    · split at h <;> cases h
    · cases h

theorem takeBeacon_effects (l : LaneNo) (arrival : Time) {b : Beacon} (entries : ∀ p, entryOk (b.entries.get p))
    (s : State) : Effects s (takeBeacon l arrival b s) := by
  have noticed (t : State) : Moves t (if stepsOn (lane s l).entry arrival b then stepNotice l 1 (stepNotice l 0 t) else t) :=
    .ite ((stepNotice_moves ..).trans (stepNotice_moves ..)) .refl
  have reported (t : State) : Moves t (rejudgeBoth (deferReport l 1 (deferReport l 0 t))) :=
    ((deferReport_moves ..).trans (deferReport_moves ..)).trans (rejudgeBoth_moves _)
  have followed (t : State) : Moves t (followGeneration l (selectionOf s 1) 1 (followGeneration l (selectionOf s 0) 0 t)) :=
    (followGeneration_moves ..).trans (followGeneration_moves ..)
  unfold takeBeacon
  have absorbed : Effects s (onLane l (absorbBeacon arrival b) s) := (Effect.entry (absorbBeacon_peerLaw entries arrival)).effects
  exact (absorbed.trans (Moves.effects (((noticed _).trans (reported _)).trans (followed _)))).trans (leftLive_effects ..)

theorem hearBeacon_effects (l : LaneNo) (arrival : Time) {b : Beacon} (entries : ∀ p, entryOk (b.entries.get p))
    (s : State) : Effects s (hearBeacon l arrival b s) := by
  unfold hearBeacon
  split
  · exact Moves.effects (onLane_moves l _ s fun _ => rfl)
  · exact takeBeacon_effects l arrival entries s

/-- A CALL that is taken sets one column of some rows (03/R42). -/
theorem setDemands_frame (ps : List PubIx) (n : StationNo) (d : BitVec 8) (u : Publication) :
    ps.foldl (fun u p => setDemand p n d u) u = { u with demand := (ps.foldl (fun u p => setDemand p n d u) u).demand } := by
  induction ps generalizing u with
  | nil => rfl
  | cons p ps ih => exact ih (setDemand p n d u)

theorem takeCall_effects (l : LaneNo) (r : CallRecord) (s : State) : Effects s (takeCall l r s) := by
  have counted (c : PubCtr) : Effects s (onPub (countPub · c) s) := (Move.tally (onlyTallies_countPub c) s).moves.effects
  unfold takeCall
  split
  · exact .refl
  split
  · exact counted _
  next running =>
  split
  · exact counted _
  split
  · exact counted _
  · refine (Effect.demand ⟨?_, fun stopped => absurd ?_ stopped⟩).effects
    · rw [setDemands_frame]; rfl
    · simpa [isRunning] using running

theorem deliver_effects (l : LaneNo) (arrival : Time) {ws : List Word} {r : LinkRecord} (h : checkRecord ws = .ok r)
    (s : State) : Effects s (deliver l arrival r s) := by
  unfold deliver
  split
  · exact hearBeacon_effects l arrival (readBeacon_ok (checkRecord_beacon h)) s
  · exact takeCall_effects ..
  · exact Moves.effects ((pictureToChannel_moves ..).trans (pictureToChannel_moves ..))
  · exact Moves.effects ((linesToChannel_moves ..).trans (linesToChannel_moves ..))

theorem receive_effects (l : LaneNo) (flight : Nat) (ws : List Word) (s : State) : Effects s (receive l flight ws s) := by
  unfold receive receiveRecord
  split
  · exact .refl
  split
  · exact Moves.effects (onLane_moves l _ s fun _ => rfl)
  · next checked =>
    refine ReflTransGen.trans (Moves.effects ?_) (deliver_effects l _ checked _)
    exact onLane_moves l _ s fun _ => rfl

/-! ## Deadlines and the millisecond tick -/

theorem peerLaw_cleared : peerLaw .cleared := by
  simp [peerLaw, PeerEntry.cleared, entryOk, PubEntry.empty]

theorem clearEntry_effects (l : LaneNo) (s : State) : Effects s (clearEntry l s) :=
  (Effect.entry fun _ => peerLaw_cleared).effects

theorem lapse_peerLaw (now : Time) {x : Lane} (live : x.entry.state = .live) (h : peerLaw x.entry) :
    peerLaw (lapse now x).entry := by
  obtain ⟨-, steps, -, -, counted, -⟩ := h
  obtain ⟨-, ⟨station, epoch, arrival⟩, -⟩ := counted live
  simp [peerLaw, countsIdentity, lapse, flagLane, countLane, steps, station, epoch, arrival, entryOk, PubEntry.empty]

theorem laneDue_state {s : State} {l : LaneNo} {st : LaneState} (h : laneDue s l st = true) :
    (lane s l).entry.state = st := by
  simp only [laneDue, Bool.and_eq_true, decide_eq_true_eq] at h
  exact h.1

theorem lapseLane_effects {l : LaneNo} {s : State} (live : (lane s l).entry.state = .live) :
    Effects s (lapseLane l s) :=
  ((Effect.entry (f := lapse s.now) (lapse_peerLaw s.now live)).effects.trans (rejudgeBoth_moves _).effects).trans
    (leftLive_effects ..)

theorem liveExpired_effects (l : LaneNo) (s : State) : Effects s (liveExpired l s) := by
  unfold liveExpired
  split
  · next reached => exact lapseLane_effects (laneDue_state reached)
  · exact .refl

theorem qualifyingExpired_effects (l : LaneNo) (s : State) : Effects s (qualifyingExpired l s) := by
  unfold qualifyingExpired
  split
  · exact clearEntry_effects ..
  · exact .refl

theorem lapsedExpired_effects (l : LaneNo) (s : State) : Effects s (lapsedExpired l s) := by
  unfold lapsedExpired
  split
  · exact clearEntry_effects ..
  · exact .refl

theorem millisecond_effects (s : State) : Effects s (millisecond s) := by
  unfold millisecond
  split
  · split
    · next running =>
      refine (Effect.demand ⟨rfl, fun stopped => absurd ?_ stopped⟩).effects
      simp only [isRunning, Bool.and_eq_true, decide_eq_true_eq] at running
      exact running.2
    · exact .refl
  · exact .refl

/-! ## The laws through effects -/

theorem Effect.slotsLaw {s t : State} (e : Effect s t) (h : SlotsLaw s) : SlotsLaw t := by
  cases e with
  | move m => exact m.slotsLaw h
  | entry law => exact h.congr rfl rfl rfl rfl rfl
  | @demand f _ only =>
    have pub := only.frame
    refine ⟨?_, ?_, fun stopped => ?_⟩
    · rw [onPub_pub, pub]; exact h.slot
    · rw [onPub_pub, pub]; exact h.once
    · obtain ⟨status, zero, slots, tick⟩ := h.quiet stopped
      obtain ⟨kept, zeros⟩ := only.stopped stopped
      refine ⟨?_, fun p n => zeros p n (zero p n), ?_, kept.trans tick⟩
      · rw [onPub_pub, pub]; exact status
      · rw [onPub_pub, pub]; exact slots

theorem Effects.slotsLaw {s t : State} (e : Effects s t) (h : SlotsLaw s) : SlotsLaw t := by
  induction e with
  | refl => exact h
  | tail _ e ih => exact e.slotsLaw ih

theorem SendLaw.congr {s t : State} (h : SendLaw s) (tx : t.tx = s.tx) (station : t.station = s.station) : SendLaw t := by
  obtain ⟨queue, starts, instant, owed, bursts⟩ := h
  refine ⟨by rwa [tx], by rwa [tx], ?_, by rwa [tx, station], by rwa [tx]⟩
  unfold instantLaw at *
  rwa [tx]

theorem Effects.sendLaw {s t : State} (e : Effects s t) (h : SendLaw s) : SendLaw t := by
  induction e with
  | refl => exact h
  | tail _ e ih =>
    cases e with
    | move m => exact m.moves.sendLaw ih
    | entry law => exact ih.congr rfl rfl
    | demand only => exact ih.congr rfl rfl

theorem Effects.laneLaw {s t : State} (e : Effects s t) (h : laneLaw s) : laneLaw t := by
  induction e with
  | refl => exact h
  | tail _ e ih =>
    cases e with
    | move m => exact fun l => (m.entry l).symm ▸ ih l
    | @entry l f u law =>
      intro m
      by_cases same : m = l
      · rw [same, lane_onLane]
        exact law (ih l)
      · rw [lane_onLane_ne same]
        exact ih m
    | demand only => exact ih

theorem Effects.station {s t : State} (e : Effects s t) : t.station = s.station := by
  induction e with
  | refl => rfl
  | tail _ e ih =>
    cases e with
    | move m => exact m.station.trans ih
    | entry law => exact ih
    | demand only => exact ih

/-! ## What a command does -/

/-- A command's own part, once its ticks have passed and before the end of every command. -/
def body : Instr → State → State
  | .powerOn => id
  | .configReadDone _ image => readDone image
  | .selectAsserted _ => selectStart
  | .selectReleasedEarly _ => selectEnd
  | .readSummary _ => acceptRead summaryValues
  | .readChannel _ b => readChannelCmd b
  | .readPeers _ => acceptRead peerValues
  | .readCounters _ b => readCountersCmd b
  | .clearEvents _ g f i => clearEventsCmd g f i
  | .releaseLatch _ b => releaseLatchCmd b
  | .forceCopy _ b o n p => forceCopyCmd b o n p
  | .restart _ => restartCmd
  | .unknownCode _ _ => refuseWith .badArgument
  | .recordReceived _ l flight words => receive l flight words
  | .recordSent _ => endSending
  | .beaconTimerExpiry _ => beaconTimer
  | .qualifyingDeadline _ l => qualifyingExpired l
  | .liveDeadline _ l => liveExpired l
  | .lapsedDeadline _ l => lapsedExpired l
  | .millisecondTick _ => millisecond
  | .refreshTimerExpiry _ k => refreshExpired k
  | .passOverExpiry _ k => passOverExpired k
  | .revertHoldExpiry _ k => revertExpired k
  | .finishDone _ k i => onConfigured k (finishSlot · i)
  | .stall _ k => stalled k
  | .motionJobStart _ k => onConfigured k startJob
  | .motionJobDone _ k => onChan k endJob
  | .renderSelection _ k => onConfigured k makeSelection
  | .renderBegin _ k => onChan k beginRender
  | .concealPoint _ k => onConfigured k takeConcealPoint
  | .renderComplete _ k => onConfigured k fun env => completeRender env.cfg.target
  | .scanStart _ k entry => scan k entry
  | .outputLineRecords _ k => emitLine k
  | .referencePulse _ => pulse
  | .refQualifyTimeout _ => refTimeout
  | .refMissed _ => refMiss
  | .acquisitionTimerExpiry _ k => acquisitionTimer k
  | .holdoverTimerExpiry _ k => holdoverTimer k
  | .decayTimerExpiry _ k => decayTimer k
  | .ingestMarker _ tail f check => ingestMark tail f check
  | .ingestSampleGroup _ cb y0 cr y1 => ingestGroup ⟨cb, y0, cr, y1⟩
  | .ingestDeadline _ => ingestLate

/-- Every command but power-on lets its ticks pass, does its own part and ends as every command does. -/
theorem exec_eq_body {c : Instr} (h : isPowerOn c = false) (s : State) :
    exec c s = .next (conclude (body c (advance c.elapsed s))) := by
  cases c with
  | powerOn => cases h
  | _ => rfl

/-- A step idles, is power-on, or runs a command with the rest of the queue. -/
theorem step_cases {s t : State} (h : step s = .next t) (P : State → Prop) (idle : P (advance 1 s))
    (reset : ∀ rest, P { State.reset with pending := rest })
    (runs : ∀ c rest, isPowerOn c = false → P (conclude (body c (advance c.elapsed { s with pending := rest })))) : P t := by
  unfold step at h
  split at h
  · obtain rfl := Host.Outcome.next.inj h
    exact idle
  · next c rest _ =>
    cases power : isPowerOn c with
    | true =>
      cases c with
      | powerOn =>
        obtain rfl := Host.Outcome.next.inj h
        exact reset rest
      | _ => cases power
    | false =>
      rw [exec_eq_body power] at h
      obtain rfl := Host.Outcome.next.inj h
      exact runs c rest power

/-- The commands that stop, start or clear the transmitter. -/
def steersLink : Instr → Bool
  | .configReadDone _ _ | .restart _ | .recordSent _ | .beaconTimerExpiry _ => true
  | _ => false

theorem body_effects {c : Instr} (h : steersLink c = false) (s : State) : Effects s (body c s) := by
  cases c with
  | configReadDone dt image => cases h
  | restart dt => cases h
  | recordSent dt => cases h
  | beaconTimerExpiry dt => cases h
  | powerOn => exact .refl
  | recordReceived dt l flight words => exact receive_effects ..
  | qualifyingDeadline dt l => exact qualifyingExpired_effects ..
  | liveDeadline dt l => exact liveExpired_effects ..
  | lapsedDeadline dt l => exact lapsedExpired_effects ..
  | millisecondTick dt => exact millisecond_effects s
  | selectAsserted dt => exact (selectStart_moves s).effects
  | selectReleasedEarly dt => exact (selectEnd_moves s).effects
  | readSummary dt => exact (acceptRead_moves ..).effects
  | readChannel dt b => exact (readChannelCmd_moves ..).effects
  | readPeers dt => exact (acceptRead_moves ..).effects
  | readCounters dt b => exact (readCountersCmd_moves ..).effects
  | clearEvents dt g f i => exact (clearEventsCmd_moves ..).effects
  | releaseLatch dt b => exact (releaseLatchCmd_moves ..).effects
  | forceCopy dt b o n p => exact (forceCopyCmd_moves ..).effects
  | unknownCode dt b => exact (refuseWith_moves ..).effects
  | refreshTimerExpiry dt k => exact (refreshExpired_moves ..).effects
  | passOverExpiry dt k => exact (passOverExpired_moves ..).effects
  | revertHoldExpiry dt k => exact (revertExpired_moves ..).effects
  | finishDone dt k i => exact (onConfigured_moves k (finishSlot · i) s).effects
  | stall dt k => exact (stalled_moves ..).effects
  | motionJobStart dt k => exact (onConfigured_moves k startJob s).effects
  | motionJobDone dt k => exact (onChan_moves k endJob s).effects
  | renderSelection dt k => exact (onConfigured_moves k makeSelection s).effects
  | renderBegin dt k => exact (onChan_moves k beginRender s).effects
  | concealPoint dt k => exact (onConfigured_moves k takeConcealPoint s).effects
  | renderComplete dt k => exact (onConfigured_moves k (fun env => completeRender env.cfg.target) s).effects
  | scanStart dt k entry => exact (scan_moves ..).effects
  | outputLineRecords dt k => exact (emitLine_moves ..).effects
  | referencePulse dt => exact (pulse_moves s).effects
  | refQualifyTimeout dt => exact (refTimeout_moves s).effects
  | refMissed dt => exact (refMiss_moves s).effects
  | acquisitionTimerExpiry dt k => exact (acquisitionTimer_moves ..).effects
  | holdoverTimerExpiry dt k => exact (holdoverTimer_moves ..).effects
  | decayTimerExpiry dt k => exact (decayTimer_moves ..).effects
  | ingestMarker dt tail f check => exact (moves_carriesIngest.readWords ..).effects
  | ingestSampleGroup dt cb y0 cr y1 => exact (moves_carriesIngest.readWords ..).effects
  | ingestDeadline dt => exact (moves_carriesIngest.ingestLate s).effects

end Sys2Proof.Machine
end

section
/-! The commands that start, stop and clear the transmitter, and the laws of lanes, transmit lane and publications kept by
every step. -/

namespace Sys2Proof.Machine

/-! ## RESTART and the entry into RUNNING -/

theorem restartCmd_tx (s : State) : (restartCmd s).tx = restartTransmit s.tx := rfl
theorem restartCmd_pub (s : State) : (restartCmd s).pub = restartPublication s.pub := rfl
theorem restartCmd_station (s : State) : (restartCmd s).station = .loading := rfl

theorem restartCmd_entry (s : State) (l : LaneNo) : (lane (restartCmd s) l).entry = .cleared :=
  congrArg Lane.entry (Bank.get_map ..)

theorem restartCmd_chan (s : State) (k : Chan) : chan (restartCmd s) k = restartChannel s.now (chan s k) :=
  Bank.get_map ..

theorem takeConfig_tx (g : StationConfig) (s : State) : (takeConfig g s).tx = s.tx := by
  unfold takeConfig portsLoseReference
  dsimp only
  split <;> rfl

theorem takeConfig_pub (g : StationConfig) (s : State) : (takeConfig g s).pub = s.pub := by
  unfold takeConfig portsLoseReference
  dsimp only
  split <;> rfl

theorem takeConfig_lanes (g : StationConfig) (s : State) : (takeConfig g s).lanes = s.lanes := by
  unfold takeConfig portsLoseReference
  dsimp only
  split <;> rfl

theorem startChannel_moves (g : StationConfig) (s : State) (k : Chan) : Moves s (startChannel g s k) := by
  unfold startChannel
  dsimp only
  split
  · exact .refl
  · exact onChan_moves ..
  · exact (onChan_moves ..).trans (enterAcquiring_moves ..)

/-- The beacon timer's first expiry, the tick, and a RESTART that still waits: step 3 of the entry into RUNNING but for
the adverts (12/R194). -/
def startTimers (s : State) : State :=
  { s with tx := beaconExpired s.now { payRestart s.tx with startCount := 16 }
           pub := { s.pub with tick := some (shift s.now ticksPerMs) } }

theorem enterRunning_moves (g : StationConfig) (s : State) :
    Moves (startTimers (takeConfig g s)) (enterRunning g s) :=
  ((storeAdverts_moves _).trans (Move.hear _).moves).trans ((startChannel_moves g _ 0).trans (startChannel_moves g _ 1))

/-- The end of a read of the configuration: nothing, the entry into RUNNING, or CONFIG_FAULT (12/R191 to R195). -/
theorem readDone_cases (image : List (BitVec 32)) (s : State) (P : State → Prop) (none : s.station ≠ .loading → P s)
    (fault : s.station = .loading →
      P (flagStation { countStation s .configFaults with station := .configFault } .configFault))
    (accepted : ∀ u, s.station = .loading → Moves s u → u.lanes = s.lanes → P (enterRunning (configOf image) u)) :
    P (readDone image s) := by
  unfold readDone
  split
  · next idle => exact none idle
  next loading =>
  have loading : s.station = .loading := not_not.mp loading
  split
  · dsimp only
    split
    · exact accepted _ loading (.aside rfl rfl rfl fun _ => rfl) rfl
    · exact accepted _ loading (.aside rfl rfl rfl fun _ => rfl) rfl
  · exact fault loading

/-! ## The transmit lane -/

theorem clearTransmit_sendLaw {s t : State} (tx : t.tx = clearTransmit s.tx) (starts : s.tx.startCount ≤ 16) :
    SendLaw t := by
  refine ⟨?_, ?_, ?_, ?_, ?_⟩
  · rw [tx]; exact ⟨Nat.zero_le 8, .nil⟩
  · rw [tx]; exact starts
  · rw [tx]; exact nofun
  · rw [tx]; exact nofun
  · rw [tx]; exact fun k => by simp [clearTransmit]

theorem restartCmd_sendLaw {s : State} (h : SendLaw s) : SendLaw (restartCmd s) := by
  have tx := restartCmd_tx s
  unfold restartTransmit at tx
  split at tx
  · next sending =>
    refine ⟨by rw [tx]; exact h.queue, by rw [tx]; exact h.starts, ?_, ?_, by rw [tx]; exact h.bursts⟩
    · rw [tx]; exact nofun
    · rw [tx, restartCmd_station]; exact fun _ => ⟨sending, nofun⟩
  · exact clearTransmit_sendLaw tx h.starts

theorem endSending_sendLaw {s : State} (h : SendLaw s) : SendLaw (endSending s) := by
  cases owed : s.tx.restartOwed with
  | true => exact clearTransmit_sendLaw (s := onTx (fun x => { x with
      sending := none, instant := x.instant.filter (!·.begun) }) s) (if_pos owed) h.starts
  | false =>
    have tx : (endSending s).tx = { s.tx with sending := none, instant := s.tx.instant.filter (!·.begun) } :=
      payRestart_of_not_owed owed
    refine ⟨by rw [tx]; exact h.queue, by rw [tx]; exact h.starts, ?_, ?_, by rw [tx]; exact h.bursts⟩
    · unfold instantLaw
      rw [tx]
      intro i hi
      obtain ⟨kept, begun⟩ := Option.filter_eq_some_iff.mp hi
      refine ⟨(h.instant i kept).1, fun b => ?_⟩
      rw [b] at begun
      cases begun
    · rw [tx, owed]; exact nofun

theorem beaconExpired_frame (t : Time) (x : Transmit) :
    beaconExpired t x = { x with
      beaconDue := some (shift t 27000), beaconPending := true, tally := (beaconExpired t x).tally } := by
  unfold beaconExpired
  dsimp only
  split <;> rfl

theorem beaconTimer_sendLaw {s : State} (h : SendLaw s) : SendLaw (beaconTimer s) := by
  unfold beaconTimer
  split
  · next t _ =>
    split
    · have tx : (onTx (beaconExpired t) s).tx = _ := beaconExpired_frame t s.tx
      refine ⟨by rw [tx]; exact h.queue, by rw [tx]; exact h.starts, ?_, by rw [tx]; exact h.owed, by rw [tx]; exact h.bursts⟩
      unfold instantLaw
      rw [tx]
      exact h.instant
    · exact h
  · exact h

theorem payRestart_sendLaw {s t : State} (h : SendLaw s) (tx : t.tx = payRestart s.tx) : SendLaw t := by
  cases owed : s.tx.restartOwed with
  | true => exact clearTransmit_sendLaw (tx.trans (if_pos owed)) h.starts
  | false =>
    rw [payRestart_of_not_owed owed] at tx
    refine ⟨by rw [tx]; exact h.queue, by rw [tx]; exact h.starts, ?_, ?_, by rw [tx]; exact h.bursts⟩
    · unfold instantLaw
      rw [tx]
      exact h.instant
    · rw [tx, owed]; exact nofun

theorem startTimers_sendLaw {s : State} (h : SendLaw { s with tx := payRestart s.tx }) : SendLaw (startTimers s) := by
  have tx : (startTimers s).tx = _ := beaconExpired_frame s.now { payRestart s.tx with startCount := 16 }
  refine ⟨by rw [tx]; exact h.queue, by rw [tx], ?_, ?_, by rw [tx]; exact h.bursts⟩
  · unfold instantLaw
    rw [tx]
    exact h.instant
  · rw [tx]; exact h.owed

theorem readDone_sendLaw {s : State} (image : List (BitVec 32)) (h : SendLaw s) : SendLaw (readDone image s) := by
  refine readDone_cases image s SendLaw (fun _ => h) (fun loading => ?_) (fun u _ moved _ => ?_)
  · exact ⟨h.queue, h.starts, h.instant, fun owed => ⟨(h.owed owed).1, nofun⟩, h.bursts⟩
  · refine (enterRunning_moves _ u).sendLaw (startTimers_sendLaw (payRestart_sendLaw (moved.sendLaw h) ?_))
    rw [takeConfig_tx]

theorem body_sendLaw (c : Instr) {s : State} (h : SendLaw s) : SendLaw (body c s) := by
  cases steers : steersLink c with
  | false => exact (body_effects steers s).sendLaw h
  | true =>
    cases c with
    | configReadDone dt image => exact readDone_sendLaw image h
    | restart dt => exact restartCmd_sendLaw h
    | recordSent dt => exact endSending_sendLaw h
    | beaconTimerExpiry dt => exact beaconTimer_sendLaw h
    | _ => cases steers

/-- Every step keeps the transmit law (01/R11, R13, R15). -/
theorem step_transmitLaw {s t : State} (h : transmitLaw s) (stepped : step s = .next t) : transmitLaw t := by
  refine step_cases stepped transmitLaw h (fun rest => ?_) (fun c rest _ => ?_)
  · exact (transmitLaw_iff _).mpr ⟨clearTransmit_sendLaw (s := State.reset) rfl (Nat.zero_le 16), rfl⟩
  · have sends : SendLaw s := ((transmitLaw_iff s).mp h).1
    exact conclude_transmitLaw (body_sendLaw c (sends.congr rfl rfl))

/-! ## The publications -/

theorem unpublished_slotsLaw {s : State} (h : unpublished s.pub) : SlotsLaw s := by
  have freed (i : PubSlotNo) : s.pub.slots.get i = .freed := by rw [h.2.2.1, Bank.get_fill]
  refine ⟨fun i => ?_, fun i j p hi _ => ?_, fun _ => h⟩
  · rw [freed]
    simp [pubSlotLaw, PubSlot.freed]
  · rw [freed] at hi
    cases hi

theorem unpublished_restart (u : Publication) : unpublished (restartPublication u) := by
  refine ⟨fun p => ?_, fun p n => ?_, rfl, rfl⟩
  · simp [restartPublication]
  · simp [restartPublication]

theorem startTimers_slotsLaw {s : State} (h : SlotsLaw s) (running : s.station = .running) : SlotsLaw (startTimers s) :=
  ⟨h.slot, h.once, fun stopped => absurd running stopped⟩

theorem takeConfig_slotsLaw {s : State} (g : StationConfig) (h : SlotsLaw s) : SlotsLaw (takeConfig g s) := by
  refine ⟨?_, ?_, fun stopped => absurd (takeConfig_station g s) stopped⟩
  · rw [takeConfig_pub]; exact h.slot
  · rw [takeConfig_pub]; exact h.once

theorem readDone_slotsLaw {s : State} (image : List (BitVec 32)) (h : SlotsLaw s) : SlotsLaw (readDone image s) := by
  refine readDone_cases image s SlotsLaw (fun _ => h) (fun loading => ?_) (fun u _ moved _ => ?_)
  · exact ⟨h.slot, h.once, fun _ => h.quiet (by rw [loading]; nofun)⟩
  · exact (enterRunning_moves _ u).slotsLaw
      (startTimers_slotsLaw (takeConfig_slotsLaw _ (moved.slotsLaw h)) (takeConfig_station ..))

theorem beaconTimer_pub (s : State) : (beaconTimer s).pub = s.pub ∧ (beaconTimer s).station = s.station
    ∧ (beaconTimer s).chans = s.chans ∧ (beaconTimer s).lanes = s.lanes := by
  unfold beaconTimer
  split
  · split <;> exact ⟨rfl, rfl, rfl, rfl⟩
  · exact ⟨rfl, rfl, rfl, rfl⟩

theorem body_slotsLaw (c : Instr) {s : State} (h : SlotsLaw s) : SlotsLaw (body c s) := by
  cases steers : steersLink c with
  | false => exact (body_effects steers s).slotsLaw h
  | true =>
    cases c with
    | configReadDone dt image => exact readDone_slotsLaw image h
    | restart dt => exact unpublished_slotsLaw (unpublished_restart s.pub)
    | recordSent dt => exact h.congr rfl rfl rfl rfl rfl
    | beaconTimerExpiry dt =>
      obtain ⟨pub, station, -, -⟩ := beaconTimer_pub s
      exact h.congr (congrArg Publication.slots pub) (congrArg Publication.adverts pub) (congrArg Publication.demand pub)
        (congrArg Publication.tick pub) station
    | _ => cases steers

/-- Every step keeps the publication law (03/R51, R52). -/
theorem step_publicationLaw {s t : State} (h : publicationLaw s) (stepped : step s = .next t) : publicationLaw t := by
  refine step_cases stepped publicationLaw h (fun rest => ?_) (fun c rest _ => ?_)
  · refine (publicationLaw_iff _).mpr ⟨unpublished_slotsLaw ⟨fun p => ?_, fun p n => ?_, rfl, rfl⟩, rfl⟩
    · simp [State.reset, Publication.powerOn]
    · simp [State.reset, Publication.powerOn]
  · have slots : SlotsLaw s := ((publicationLaw_iff s).mp h).1
    exact conclude_publicationLaw (body_slotsLaw c (slots.congr rfl rfl rfl rfl rfl))

/-! ## The receive lanes -/

theorem enterRunning_entry (g : StationConfig) (s : State) (l : LaneNo) :
    (lane (enterRunning g s) l).entry = (lane s l).entry :=
  ((enterRunning_moves g s).entry l).trans (congrArg (fun b => (Bank.get b l).entry) (takeConfig_lanes g s))

theorem body_laneLaw (c : Instr) {s : State} (h : laneLaw s) : laneLaw (body c s) := by
  cases steers : steersLink c with
  | false => exact (body_effects steers s).laneLaw h
  | true =>
    cases c with
    | configReadDone dt image =>
      refine readDone_cases image s laneLaw (fun _ => h) (fun _ => h) (fun u _ moved _ l => ?_)
      rw [enterRunning_entry, moved.entry]
      exact h l
    | restart dt =>
      intro l
      show peerLaw (lane (restartCmd s) l).entry
      rw [restartCmd_entry]
      exact peerLaw_cleared
    | recordSent dt => exact h
    | beaconTimerExpiry dt =>
      obtain ⟨-, -, -, lanes⟩ := beaconTimer_pub s
      exact fun l => (congrArg (fun b => (Bank.get b l).entry) lanes) ▸ h l
    | _ => cases steers

/-- Every step keeps the lane law (02/2.1). -/
theorem step_laneLaw {s t : State} (h : laneLaw s) (stepped : step s = .next t) : laneLaw t := by
  refine step_cases stepped laneLaw h (fun rest l => ?_) (fun c rest _ l => ?_)
  · have entry : (lane { State.reset with pending := rest } l).entry = .cleared := congrArg Lane.entry (Bank.get_fill ..)
    rw [entry]
    exact peerLaw_cleared
  · have ran := body_laneLaw c (s := advance c.elapsed { s with pending := rest }) h l
    rwa [lane, (conclude_within _).lanes]

end Sys2Proof.Machine
end

section
/-! Outside RUNNING the channels sleep: nothing is selected, offered or published, so no command but RECORD_SENT and RESTART
touches the transmit lane (01/R10, 03/R52, 10/R178). -/

namespace Sys2Proof.Machine

/-! ## Sleeping channels -/

/-- A channel that selects nothing, aims at nothing and calls nobody. -/
structure Asleep (c : Channel) : Prop where
  inactive : activeState c.sup.state = false
  selection : c.csl.selection = none
  refresh : c.csl.refresh = none
  aim : c.int.aim = none

/-- A station that is not RUNNING, with its channels asleep. -/
structure Dormant (s : State) : Prop where
  stopped : s.station ≠ .running
  slots : SlotsLaw s
  chans : ∀ k, Asleep (chan s k)

theorem Dormant.freed {s : State} (h : Dormant s) (i : PubSlotNo) : s.pub.slots.get i = .freed := by
  rw [(h.slots.quiet h.stopped).2.2.1, Bank.get_fill]

/-- What leaves a channel's state, selector and aim as they are leaves it asleep. -/
def SameSelector (c d : Channel) : Prop := d.sup = c.sup ∧ d.csl = c.csl ∧ d.int.aim = c.int.aim

theorem SameSelector.refl (c : Channel) : SameSelector c c := ⟨rfl, rfl, rfl⟩

theorem SameSelector.trans {c d e : Channel} (h : SameSelector c d) (g : SameSelector d e) : SameSelector c e :=
  ⟨g.1.trans h.1, g.2.1.trans h.2.1, g.2.2.trans h.2.2⟩

theorem SameSelector.asleep {c d : Channel} (h : SameSelector c d) (a : Asleep c) : Asleep d := by
  obtain ⟨sup, csl, aim⟩ := h
  exact ⟨sup ▸ a.inactive, csl ▸ a.selection, csl ▸ a.refresh, aim ▸ a.aim⟩

theorem SameSelector.ite {c d e : Channel} {p : Prop} [Decidable p] (h : SameSelector c d) (g : SameSelector c e) :
    SameSelector c (if p then d else e) := by
  split
  · exact h
  · exact g

theorem foldl_sameSelector {α : Type} {f : Channel → α → Channel} (h : ∀ c a, SameSelector c (f c a)) (xs : List α)
    (c : Channel) : SameSelector c (xs.foldl f c) := by
  induction xs generalizing c with
  | nil => exact .refl c
  | cons a xs ih => exact (h c a).trans (ih _)

/-! ## What the ring, the renderer and the port leave alone -/

theorem countMany_sameSelector (c : Channel) (x : ChanCtr) (n : Nat) : SameSelector c (countMany c x n) := ⟨rfl, rfl, rfl⟩
theorem count_sameSelector (c : Channel) (x : ChanCtr) : SameSelector c (count c x) := ⟨rfl, rfl, rfl⟩
theorem onSlot_sameSelector (i : SlotNo) (f : Slot → Slot) (c : Channel) : SameSelector c (onSlot i f c) := ⟨rfl, rfl, rfl⟩
theorem onPort_sameSelector (f : Port → Port) (c : Channel) : SameSelector c (onPort f c) := ⟨rfl, rfl, rfl⟩
theorem withRecord_sameSelector (r : Option RenderRecord) (c : Channel) : SameSelector c (withRecord r c) := ⟨rfl, rfl, rfl⟩
theorem emptyBuffer_sameSelector (b : BufNo) (c : Channel) : SameSelector c (emptyBuffer b c) := ⟨rfl, rfl, rfl⟩
theorem freeSlot_sameSelector (i : SlotNo) (c : Channel) : SameSelector c (freeSlot i c) := ⟨rfl, rfl, rfl⟩

theorem retireOne_sameSelector (c : Channel) (i : SlotNo) : SameSelector c (retireOne c i) :=
  .ite (freeSlot_sameSelector i c) (.refl c)

theorem freeHistoryOne_sameSelector (c : Channel) (i : SlotNo) : SameSelector c (freeHistoryOne c i) :=
  .ite (freeSlot_sameSelector i c) (.refl c)

theorem sweep_sameSelector (c : Channel) : SameSelector c (sweep c) :=
  (foldl_sameSelector retireOne_sameSelector c.int.committed c).trans
    (foldl_sameSelector freeHistoryOne_sameSelector slotNumbers (retireAll c))

theorem finishSlot_sameSelector (env : Env) (i : SlotNo) (c : Channel) : SameSelector c (finishSlot env i c) := by
  unfold finishSlot
  exact .ite ((onSlot_sameSelector ..).trans (sweep_sameSelector _)) (.refl c)

theorem startJob_sameSelector (env : Env) (c : Channel) : SameSelector c (startJob env c) := by
  unfold startJob
  split
  · split
    · exact ⟨rfl, rfl, rfl⟩
    · exact .refl c
  · exact .refl c

theorem endJob_sameSelector (c : Channel) : SameSelector c (endJob c) := by
  have ended (d : Channel) (i : SlotNo) (t : VectorTable) : SameSelector d
      (count (sweep (onSlot i (fun s => { s with table := some t }) { d with meu := { d.meu with job := none } })) .motionJobs) := by
    have freed : SameSelector d { d with meu := { d.meu with job := none } } := ⟨rfl, rfl, rfl⟩
    exact ((freed.trans (onSlot_sameSelector ..)).trans (sweep_sameSelector _)).trans (count_sameSelector ..)
  unfold endJob
  split
  · next j _ =>
    dsimp only
    split
    · exact (count_sameSelector c .motionCuts).trans (ended ..)
    · exact ended ..
  · exact .refl c

theorem startRender_sameSelector (r : RenderRecord) (m : RenderMode) (c : Channel) :
    SameSelector c (startRender r m c) := by
  unfold startRender
  exact .ite ((withRecord_sameSelector ..).trans (count_sameSelector ..)) (withRecord_sameSelector ..)

theorem beginRender_sameSelector (c : Channel) : SameSelector c (beginRender c) := by
  unfold beginRender
  split
  · split
    · split
      · exact (SameSelector.ite (count_sameSelector c .unvectored) (.refl c)).trans (startRender_sameSelector ..)
      · split
        · split
          · exact (count_sameSelector c .unvectored).trans (startRender_sameSelector ..)
          · exact (count_sameSelector c .late).trans (startRender_sameSelector ..)
        · exact .refl c
    · exact .refl c
  · exact .refl c

theorem takeConcealPoint_sameSelector (env : Env) (c : Channel) : SameSelector c (takeConcealPoint env c) := by
  unfold takeConcealPoint
  split
  · exact .ite ((withRecord_sameSelector ..).trans (beginRender_sameSelector _)) (.refl c)
  · exact .refl c

theorem completeRender_sameSelector (target : StdCode) (c : Channel) : SameSelector c (completeRender target c) := by
  unfold completeRender
  split
  · next r _ =>
    have written := onPort_sameSelector (fun p => { p with
      buffers := p.buffers.modify r.buffer fun x => { x with planes := (renderedPicture target c r).getD .empty } }) c
    exact .ite (((written.trans (withRecord_sameSelector ..)).trans (sweep_sameSelector _)).trans (count_sameSelector ..))
      (.refl c)
  · exact .refl c

theorem disposeRecord_sameSelector (c : Channel) : SameSelector c (disposeRecord c).2 := by
  unfold disposeRecord
  split
  · next r _ =>
    have overrun := ((withRecord_sameSelector none c).trans (emptyBuffer_sameSelector r.buffer _)).trans
      (count_sameSelector _ .overrun)
    split
    · exact withRecord_sameSelector ..
    · dsimp only
      exact overrun.trans (sweep_sameSelector _)
  · exact .refl c

theorem timeScan_sameSelector (std : StdCode) (t : Time) (c : Channel) : SameSelector c (timeScan std t c) := by
  unfold timeScan
  refine .ite (.ite ?_ ?_) ?_ <;> exact ⟨rfl, rfl, rfl⟩

theorem ownReference_sameSelector (c : Channel) : SameSelector c (ownReference c) := by
  unfold ownReference
  split
  · exact .refl c
  split
  · split
    · next a _ _ _ =>
      have referred : SameSelector c { c with int := { c.int with retireRef := some a } } := ⟨rfl, rfl, rfl⟩
      exact referred.trans (sweep_sameSelector _)
    · exact .refl c
  · exact .refl c

theorem chooseSource_sameSelector (running : Bool) (m : SafeMode) (handed : Option BufNo) (c : Channel) :
    SameSelector c (chooseSource running m handed c) := by
  have scanned (d : Channel) : SameSelector d
      (count { d with port := { d.port with emittedLines := 0, emitted := [] } } .picturesScanned) := ⟨rfl, rfl, rfl⟩
  unfold chooseSource
  dsimp only
  split
  · split <;> exact .trans ⟨rfl, rfl, rfl⟩ (scanned _)
  · split <;> exact .trans ⟨rfl, rfl, rfl⟩ (scanned _)

theorem makeSelection_asleep (env : Env) {c : Channel} (h : Asleep c) : makeSelection env c = c := by
  have idle : c.sup.state ≠ .converting := fun e => by simpa [e, activeState] using h.inactive
  unfold makeSelection
  split
  · exact if_neg fun due => idle due.1
  · rfl

/-! ## Rest -/

/-- A sleeping part stays asleep, and its transmit lane as it was. -/
structure Rests (s t : State) : Prop where
  dormant : Dormant s → Dormant t
  tx : Dormant s → t.tx = s.tx

theorem Rests.refl (s : State) : Rests s s := ⟨id, fun _ => rfl⟩

theorem Rests.trans {s t u : State} (h : Rests s t) (g : Rests t u) : Rests s u :=
  ⟨fun d => g.dormant (h.dormant d), fun d => (g.tx (h.dormant d)).trans (h.tx d)⟩

/-- It is enough to see what happens where the part sleeps. -/
theorem Rests.under {s t : State} (h : Dormant s → Rests s t) : Rests s t :=
  ⟨fun d => (h d).dormant d, fun d => (h d).tx d⟩

theorem Rests.of_eq {s t : State} (h : Dormant s → t = s) : Rests s t :=
  .under fun d => by rw [h d]; exact .refl s

theorem Rests.ite {s t u : State} {c : Prop} [Decidable c] (ht : Rests s t) (hu : Rests s u) :
    Rests s (if c then t else u) := by
  split
  · exact ht
  · exact hu

/-- Moves that leave the transmit lane as it was let a part rest whose channels stay asleep. -/
theorem Moves.rests {s t : State} (m : Moves s t) (tx : Dormant s → t.tx = s.tx)
    (chans : Dormant s → ∀ k, Asleep (chan t k)) : Rests s t :=
  ⟨fun d => ⟨m.station ▸ d.stopped, m.slotsLaw d.slots, chans d⟩, tx⟩

theorem rests_aside {s t : State} (pub : t.pub = s.pub) (tx : t.tx = s.tx) (station : t.station = s.station)
    (entry : ∀ l, (lane t l).entry = (lane s l).entry) (chans : t.chans = s.chans) : Rests s t :=
  (Moves.aside pub tx station entry).rests (fun _ => tx) fun d k => by
    rw [chan, chans]; exact d.chans k

theorem onChan_rests (k : Chan) {f : Channel → Channel} {s : State} (h : Asleep (chan s k) → Asleep (f (chan s k))) :
    Rests s (onChan k f s) :=
  (onChan_moves k f s).rests (fun _ => rfl) fun d j => by
    by_cases e : j = k
    · rw [e, chan_onChan]
      exact h (d.chans k)
    · rw [chan_onChan_ne e]
      exact d.chans j

theorem onChan_sameSelector_rests (k : Chan) (f : Channel → Channel) (s : State) (h : ∀ c, SameSelector c (f c)) :
    Rests s (onChan k f s) := onChan_rests k (h _).asleep

theorem onConfigured_rests (k : Chan) {f : Env → Channel → Channel} {s : State}
    (h : ∀ env, Asleep (chan s k) → Asleep (f env (chan s k))) : Rests s (onConfigured k f s) := by
  unfold onConfigured
  split
  · exact onChan_rests k (h _)
  · exact .refl s

theorem onIngest_rests (f : Ingest → Ingest) (s : State) : Rests s (onIngest f s) :=
  rests_aside rfl rfl rfl (fun _ => rfl) rfl

/-! ## Re-judgement and the timers of a sleeping channel -/

theorem Asleep.notSelecting {s : State} {k : Chan} (h : Asleep (chan s k)) : isSelecting s k = false := h.inactive

theorem rejudge_notSelecting (n : Nat) {s : State} {k : Chan} (h : isSelecting s k = false) : rejudge n k s = s := by
  cases n with
  | zero => rfl
  | succ n => simp [rejudge, h]

theorem rejudgeOne_rests (k : Chan) (s : State) : Rests s (rejudgeOne k s) :=
  .of_eq fun d => rejudge_notSelecting _ (d.chans k).notSelecting

theorem rejudgeBoth_rests (s : State) : Rests s (rejudgeBoth s) := (rejudgeOne_rests 0 s).trans (rejudgeOne_rests 1 _)

theorem holdoverTimer_rests (k : Chan) (s : State) : Rests s (holdoverTimer k s) :=
  .of_eq fun d => if_neg fun due => by simpa [due.1, activeState] using (d.chans k).inactive

theorem acquisitionTimer_rests (k : Chan) (s : State) : Rests s (acquisitionTimer k s) :=
  .of_eq fun d => if_neg fun due => by simpa [due.1, activeState] using (d.chans k).inactive

theorem decayTimer_rests (k : Chan) (s : State) : Rests s (decayTimer k s) :=
  .of_eq fun d => if_neg fun due => by simpa [due.1, activeState] using (d.chans k).inactive

theorem stalled_rests (k : Chan) (s : State) : Rests s (stalled k s) := by
  unfold stalled
  refine onConfigured_rests k fun env a => ?_
  have idle : stallDue env (chan s k) = false := by simp [stallDue, a.inactive]
  rw [idle]
  exact a

theorem passOverExpired_rests (k : Chan) (s : State) : Rests s (passOverExpired k s) := by
  unfold passOverExpired
  exact .ite ((onChan_rests k fun a => ⟨a.inactive, a.selection, a.refresh, a.aim⟩).trans (rejudgeOne_rests k _)) (.refl s)

theorem revertExpired_rests (k : Chan) (s : State) : Rests s (revertExpired k s) :=
  .of_eq fun d => by
    have none : revertDue k s = none := by
      unfold revertDue
      split
      · exact if_neg fun due => by simpa [(d.chans k).notSelecting] using due.2.1
      · rfl
    unfold revertExpired
    rw [none]

theorem refreshExpired_rests (k : Chan) (s : State) : Rests s (refreshExpired k s) :=
  .of_eq fun d => by
    unfold refreshExpired
    rw [(d.chans k).refresh]

/-! ## The publications at rest -/

theorem reviewSlot_dormant {s : State} (h : Dormant s) (i : PubSlotNo) : reviewSlot s i = s := by
  simp [reviewSlot, h.freed, PubSlot.freed]

theorem topClaimant_dormant {s : State} (h : Dormant s) : topClaimant s = none := by
  refine List.find?_eq_none.mpr fun p _ claim => ?_
  exact h.stopped (claims_running claim)

theorem arbitrate_dormant {s : State} (h : Dormant s) : arbitrate s = s := by
  have grant : grantOne s = s := by simp [grantOne, topClaimant_dormant h]
  have yields : yieldOne s = s := by simp [yieldOne, topClaimant_dormant h]
  simp [arbitrate, reviewSlot_dormant h, grant, yields]

theorem noteStarts_dormant {s : State} (h : Dormant s) : noteStarts s = s := by
  have idle (p : PubIx) : starts s p = false := by simp [starts, carries, isRunning, h.stopped]
  simp [noteStarts, pubNos, idle]

theorem storeAdverts_rests (s : State) : Rests s (storeAdverts s) :=
  (storeAdverts_moves s).rests (fun _ => rfl) fun d => d.chans

theorem hearAdverts_rests (s : State) : Rests s (hearAdverts s) :=
  (Move.hear s).moves.rests (fun _ => rfl) fun d => d.chans

theorem settleFor_rests (n : Nat) (s : State) : Rests s (settleFor n s) := by
  induction n generalizing s with
  | zero => exact .refl s
  | succ n ih =>
    refine .under fun d => ?_
    have first : storeAdverts (arbitrate (noteStarts s)) = storeAdverts s := by
      rw [noteStarts_dormant d, arbitrate_dormant d]
    unfold settleFor
    rw [first]
    exact .ite ((storeAdverts_rests s).trans (((hearAdverts_rests _).trans (rejudgeBoth_rests _)).trans (ih _)))
      (storeAdverts_rests s)

theorem settle_rests (s : State) : Rests s (settle s) := settleFor_rests 8 s

theorem heldSlot_dormant {s : State} (h : Dormant s) (p : PubIx) : heldSlot s.pub p = none := by
  refine List.find?_eq_none.mpr fun i _ => ?_
  simp [h.freed, PubSlot.freed]

theorem ofWindow_noAim {c : Channel} (h : c.int.aim = none) (env : Env) (via : Origin) (n : StationNo) (p : PubIx)
    (f : FeedNo) : ofWindow env c via n p f = false := by
  simp [ofWindow, h]

theorem pictureToChannel_rests (via : Origin) (r : PictureRecord) (k : Chan) (s : State) :
    Rests s (pictureToChannel via r k s) :=
  .of_eq fun d => by
    unfold pictureToChannel
    split
    · rfl
    · simp [ofWindow_noAim (d.chans k).aim]

theorem linesToChannel_rests (via : Origin) (r : LinesRecord) (k : Chan) (s : State) :
    Rests s (linesToChannel via r k s) :=
  .of_eq fun d => by
    unfold linesToChannel
    split
    · rfl
    · simp [ofWindow_noAim (d.chans k).aim]

theorem foldl_rests {α : Type} {f : State → α → State} (h : ∀ s a, Rests s (f s a)) (xs : List α) (s : State) :
    Rests s (xs.foldl f s) := by
  induction xs generalizing s with
  | nil => exact .refl s
  | cons a xs ih => exact (h s a).trans (ih _)

theorem publishLines_rests (p : PubIx) (r : LinesRecord) (s : State) : Rests s (publishLines p r s) := by
  refine .under fun d => ?_
  unfold publishLines
  rw [heldSlot_dormant d]
  exact foldl_rests (fun s k => linesToChannel_rests _ r k s) _ s

theorem rests_carriesIngest : CarriesIngest Rests where
  refl := .refl
  trans := .trans
  update := onIngest_rests
  settles := settle_rests
  picture _ _ running := .under fun d => absurd running d.stopped
  lines := publishLines_rests 0

/-! ## Output ports at rest -/

theorem publishScan_rests (k : Chan) (std : StdCode) (t : Time) (s : State) : Rests s (publishScan k std t s) := by
  have silent : Rests s (onChan k (onPort fun p => { p with publishing := false }) s) :=
    onChan_sameSelector_rests k _ s fun c => onPort_sameSelector _ c
  unfold publishScan
  split
  · split
    · split
      · next forms => exact .under fun d => absurd (by simpa [isRunning] using forms.2) d.stopped
      · exact silent
    · exact silent
  · exact .refl s

theorem enterAt_false (k : Chan) (s : State) : enterAt k false s = s := rfl

theorem scanAt_rests (k : Chan) (entry : EntryOrder) (std : StdCode) (t : Time) (s : State) :
    Rests s (scanAt k entry std t s) := by
  refine .under fun d => ?_
  have unselected (c : Channel) : SameSelector c { c with ren := { c.ren with selected := false } } := ⟨rfl, rfl, rfl⟩
  have timed := (((disposeRecord_sameSelector (chan s k)).trans (unselected _)).trans (timeScan_sameSelector std t _)).trans
    (ownReference_sameSelector _)
  have stopped : isRunning s = false := by simp [isRunning, d.stopped]
  unfold scanAt
  simp only [stopped, Bool.and_false, Bool.false_and, enterAt_false]
  exact ((onChan_rests k (f := fun _ => _) timed.asleep).trans
    (onChan_sameSelector_rests k _ _ (chooseSource_sameSelector _ _ _))).trans (publishScan_rests k std t _)

theorem scan_rests (k : Chan) (entry : EntryOrder) (s : State) : Rests s (scan k entry s) := by
  unfold scan
  split
  · exact .ite (.ite (onChan_sameSelector_rests k _ s fun c => onPort_sameSelector _ c) (scanAt_rests ..)) (.refl s)
  · exact .refl s

theorem publishLine_rests (k : Chan) (std : StdCode) (i : Nat) (s : State) : Rests s (publishLine k std i s) :=
  .of_eq fun d => by
    unfold publishLine
    split
    · exact if_neg fun forms => d.stopped (by simpa [isRunning] using forms.2.2)
    · rfl

theorem emitLine_rests (k : Chan) (s : State) : Rests s (emitLine k s) := by
  unfold emitLine
  dsimp only
  split
  · exact .ite ((onChan_sameSelector_rests k _ s fun c => onPort_sameSelector _ c).trans (publishLine_rests ..))
      (onChan_sameSelector_rests k _ s fun c => onPort_sameSelector _ c)
  · exact .refl s

/-! ## Receive lanes at rest -/

theorem onLane_rests (l : LaneNo) (f : Lane → Lane) (s : State) : Rests s (onLane l f s) :=
  ⟨fun d => ⟨d.stopped, d.slots.congr rfl rfl rfl rfl rfl, d.chans⟩, fun _ => rfl⟩

theorem leftLive_frame (e : PeerEntry) (l : LaneNo) (s : State) :
    leftLive e l s = { s with pub := (leftLive e l s).pub } := by
  unfold leftLive
  split
  · split <;> rfl
  · rfl

theorem leftLive_rests (e : PeerEntry) (l : LaneNo) (s : State) : Rests s (leftLive e l s) := by
  have frame := leftLive_frame e l s
  refine ⟨fun d => ⟨?_, (leftLive_effects e l s).slotsLaw d.slots, ?_⟩, fun _ => ?_⟩
  · rw [frame]; exact d.stopped
  · rw [frame]; exact d.chans
  · rw [frame]

theorem selectedOn_dormant {s : State} (h : Dormant s) (k : Chan) (l : LaneNo) : selectedOn s k l = false := by
  simp [selectedOn, selectionOf, (h.chans k).selection]

theorem stepNotice_rests (l : LaneNo) (k : Chan) (s : State) : Rests s (stepNotice l k s) :=
  .of_eq fun d => by simp [stepNotice, selectedOn_dormant d]

theorem deferReport_rests (l : LaneNo) (k : Chan) (s : State) : Rests s (deferReport l k s) :=
  .of_eq fun d => by simp [deferReport, selectionOf, (d.chans k).selection]

theorem followGeneration_rests (l : LaneNo) (q : Option Copy) (k : Chan) (s : State) :
    Rests s (followGeneration l q k s) :=
  .of_eq fun d => by simp [followGeneration, selectionOf, (d.chans k).selection]

theorem takeBeacon_rests (l : LaneNo) (arrival : Time) (b : Beacon) (s : State) : Rests s (takeBeacon l arrival b s) := by
  have noticed (t : State) : Rests t (if stepsOn (lane s l).entry arrival b then stepNotice l 1 (stepNotice l 0 t) else t) :=
    .ite ((stepNotice_rests ..).trans (stepNotice_rests ..)) (.refl t)
  have reported (t : State) : Rests t (rejudgeBoth (deferReport l 1 (deferReport l 0 t))) :=
    ((deferReport_rests ..).trans (deferReport_rests ..)).trans (rejudgeBoth_rests _)
  have followed (t : State) : Rests t (followGeneration l (selectionOf s 1) 1 (followGeneration l (selectionOf s 0) 0 t)) :=
    (followGeneration_rests ..).trans (followGeneration_rests ..)
  exact ((onLane_rests ..).trans (((noticed _).trans (reported _)).trans (followed _))).trans (leftLive_rests ..)

theorem takeCall_rests (l : LaneNo) (r : CallRecord) (s : State) : Rests s (takeCall l r s) := by
  have counted (c : PubCtr) : Rests s (onPub (countPub · c) s) :=
    (Move.tally (onlyTallies_countPub c) s).moves.rests (fun _ => rfl) fun d => d.chans
  refine .under fun d => ?_
  have stopped : isRunning s = false := by simp [isRunning, d.stopped]
  unfold takeCall
  rw [stopped]
  exact .ite (.refl s) (counted .callIgnored)

theorem receive_rests (l : LaneNo) (flight : Nat) (ws : List Word) (s : State) : Rests s (receive l flight ws s) := by
  unfold receive receiveRecord
  refine .ite (.refl s) ?_
  split
  · exact onLane_rests ..
  · refine (onLane_rests l (countLane · .rxRecords) s).trans ?_
    unfold deliver
    split
    · unfold hearBeacon
      exact .ite (onLane_rests ..) (takeBeacon_rests ..)
    · exact takeCall_rests ..
    · exact (pictureToChannel_rests ..).trans (pictureToChannel_rests ..)
    · exact (linesToChannel_rests ..).trans (linesToChannel_rests ..)

theorem lapseLane_rests (l : LaneNo) (s : State) : Rests s (lapseLane l s) :=
  ((onLane_rests ..).trans (rejudgeBoth_rests _)).trans (leftLive_rests ..)

theorem millisecond_rests (s : State) : Rests s (millisecond s) :=
  .of_eq fun d => by
    unfold millisecond
    split
    · simp [isRunning, d.stopped]
    · rfl

/-! ## Management commands at rest -/

theorem mgmt_rests {s t : State} (m : Moves s t) (tx : t.tx = s.tx) (chans : t.chans = s.chans) : Rests s t :=
  m.rests (fun _ => tx) fun d k => by rw [chan, chans]; exact d.chans k

theorem releaseLatchCmd_rests (b : Byte) (s : State) : Rests s (releaseLatchCmd b s) := by
  refine .under fun d => ?_
  have stopped : isRunning s = false := by simp [isRunning, d.stopped]
  unfold releaseLatchCmd
  rw [stopped]
  exact mgmt_rests (refuseWith_moves .notRunning s) rfl rfl

theorem forceCopyCmd_rests (b o n p : Byte) (s : State) : Rests s (forceCopyCmd b o n p s) := by
  refine .under fun d => ?_
  have stopped : isRunning s = false := by simp [isRunning, d.stopped]
  unfold forceCopyCmd
  rw [stopped]
  exact mgmt_rests (refuseWith_moves .notRunning s) rfl rfl

theorem rests_carriesClears : CarriesClears Rests where
  refl := .refl
  trans := .trans
  lanes s := mgmt_rests (moves_carriesClears.lanes s) rfl rfl
  laneFlag _ s l := onLane_rests l _ s
  deferred f s := mgmt_rests (moves_carriesClears.deferred f s) rfl rfl
  inputs f g s := mgmt_rests (moves_carriesClears.inputs f g s) rfl rfl
  ports k _ _ s := onChan_sameSelector_rests k _ s fun _ => ⟨rfl, rfl, rfl⟩
  channel k _ s := onChan_sameSelector_rests k _ s fun _ => ⟨rfl, rfl, rfl⟩
  station f s := mgmt_rests (moves_carriesClears.station f s) rfl rfl

theorem clearEventsCmd_rests (g f inst : Byte) (s : State) : Rests s (clearEventsCmd g f inst s) := by
  unfold clearEventsCmd
  split
  · exact mgmt_rests (refuseWith_moves .notRunning s) rfl rfl
  split
  · next cleared => exact (rests_carriesClears.clearFlags cleared).trans (mgmt_rests (accept_moves _) rfl rfl)
  · exact mgmt_rests (refuseWith_moves .badArgument s) rfl rfl

theorem readChannelCmd_rests (b : Byte) (s : State) : Rests s (readChannelCmd b s) := by
  unfold readChannelCmd
  split
  · exact mgmt_rests (acceptRead_moves ..) rfl rfl
  · exact mgmt_rests (refuseWith_moves ..) rfl rfl

theorem readCountersCmd_rests (b : Byte) (s : State) : Rests s (readCountersCmd b s) := by
  unfold readCountersCmd
  exact .ite (mgmt_rests (acceptRead_moves ..) rfl rfl) (mgmt_rests (refuseWith_moves ..) rfl rfl)

theorem selectStart_rests (s : State) : Rests s (selectStart s) := by
  unfold selectStart
  split
  · exact .refl s
  · exact rests_aside rfl rfl rfl (fun _ => rfl) rfl

theorem selectEnd_rests (s : State) : Rests s (selectEnd s) := by
  unfold selectEnd
  split
  · exact .refl s
  · exact rests_aside rfl rfl rfl (fun _ => rfl) rfl
  · exact rests_aside rfl rfl rfl (fun _ => rfl) rfl

/-! ## The Reference Input at rest -/

theorem onRef_rests (f : Reference → Reference) (s : State) : Rests s (onRef f s) :=
  rests_aside rfl rfl rfl (fun _ => rfl) rfl

theorem onPorts_rests (f : Port → Port) (s : State) : Rests s (onPorts f s) :=
  (onChan_sameSelector_rests 0 _ s (onPort_sameSelector f)).trans
    (onChan_sameSelector_rests 1 _ _ (onPort_sameSelector f))

theorem pulse_rests (s : State) : Rests s (pulse s) := by
  unfold pulse
  refine .ite (.refl s) ((onRef_rests (countRef · .pulses) s).trans ?_)
  dsimp only
  split
  · exact onRef_rests ..
  · exact .ite ((onRef_rests ..).trans (onPorts_rests ..)) (onRef_rests ..)
  · exact .ite ((onRef_rests ..).trans (onPorts_rests ..)) (onRef_rests ..)

theorem refTimeout_rests (s : State) : Rests s (refTimeout s) := by
  unfold refTimeout
  exact .ite (onRef_rests ..) (.refl s)

theorem refMiss_rests (s : State) : Rests s (refMiss s) := by
  unfold refMiss
  split
  · refine .ite ((onRef_rests (countRef · .missed) s).trans ?_) (.refl s)
    exact Rests.ite (onRef_rests ..) ((onRef_rests ..).trans (onPorts_rests ..))
  · exact .refl s

/-! ## Commands of a part at rest -/

theorem body_rests {c : Instr} (h : steersLink c = false) (s : State) : Rests s (body c s) := by
  cases c with
  | configReadDone dt image => cases h
  | restart dt => cases h
  | recordSent dt => cases h
  | beaconTimerExpiry dt => cases h
  | powerOn => exact .refl s
  | recordReceived dt l flight words => exact receive_rests ..
  | qualifyingDeadline dt l => exact .ite (onLane_rests ..) (.refl s)
  | liveDeadline dt l => exact .ite (lapseLane_rests ..) (.refl s)
  | lapsedDeadline dt l => exact .ite (onLane_rests ..) (.refl s)
  | millisecondTick dt => exact millisecond_rests s
  | selectAsserted dt => exact selectStart_rests s
  | selectReleasedEarly dt => exact selectEnd_rests s
  | readSummary dt => exact mgmt_rests (acceptRead_moves ..) rfl rfl
  | readChannel dt b => exact readChannelCmd_rests ..
  | readPeers dt => exact mgmt_rests (acceptRead_moves ..) rfl rfl
  | readCounters dt b => exact readCountersCmd_rests ..
  | clearEvents dt g f i => exact clearEventsCmd_rests ..
  | releaseLatch dt b => exact releaseLatchCmd_rests ..
  | forceCopy dt b o n p => exact forceCopyCmd_rests ..
  | unknownCode dt b => exact mgmt_rests (refuseWith_moves ..) rfl rfl
  | refreshTimerExpiry dt k => exact refreshExpired_rests ..
  | passOverExpiry dt k => exact passOverExpired_rests ..
  | revertHoldExpiry dt k => exact revertExpired_rests ..
  | finishDone dt k i => exact onConfigured_rests k (f := (finishSlot · i)) fun env => (finishSlot_sameSelector env i _).asleep
  | stall dt k => exact stalled_rests ..
  | motionJobStart dt k => exact onConfigured_rests k (f := startJob) fun env => (startJob_sameSelector env _).asleep
  | motionJobDone dt k => exact onChan_rests k (f := endJob) (endJob_sameSelector _).asleep
  | renderSelection dt k => exact onConfigured_rests k (f := makeSelection) fun env a => (makeSelection_asleep env a).symm ▸ a
  | renderBegin dt k => exact onChan_rests k (f := beginRender) (beginRender_sameSelector _).asleep
  | concealPoint dt k =>
    exact onConfigured_rests k (f := takeConcealPoint)
      fun env => (takeConcealPoint_sameSelector env _).asleep
  | renderComplete dt k =>
    exact onConfigured_rests k (f := fun env => completeRender env.cfg.target)
      fun env => (completeRender_sameSelector env.cfg.target _).asleep
  | scanStart dt k entry => exact scan_rests ..
  | outputLineRecords dt k => exact emitLine_rests ..
  | referencePulse dt => exact pulse_rests s
  | refQualifyTimeout dt => exact refTimeout_rests s
  | refMissed dt => exact refMiss_rests s
  | acquisitionTimerExpiry dt k => exact acquisitionTimer_rests ..
  | holdoverTimerExpiry dt k => exact holdoverTimer_rests ..
  | decayTimerExpiry dt k => exact decayTimer_rests ..
  | ingestMarker dt tail f check => exact rests_carriesIngest.readWords ..
  | ingestSampleGroup dt cb y0 cr y1 => exact rests_carriesIngest.readWords ..
  | ingestDeadline dt => exact rests_carriesIngest.ingestLate s

end Sys2Proof.Machine
end

section
/-! The transmitter's rest outside RUNNING, and the laws of the link kept by every step. -/

namespace Sys2Proof.Machine

/-! ## Rest of the transmit lane (01/R10) -/

/-- A transmit lane with its timer stopped and nothing waiting, unless a RESTART still waits. -/
def QuietTx (x : Transmit) : Prop :=
  x.restartOwed = false →
    x.beaconDue = none ∧ x.beaconPending = false ∧ x.callQueue = [] ∧ x.instant = none
      ∧ x.bursts = Bank.fill 2 [] ∧ x.mark = 1

theorem quietTx_clear (x : Transmit) : QuietTx (clearTransmit x) := fun _ => ⟨rfl, rfl, rfl, rfl, rfl, rfl⟩

theorem dormant_of_laws {s : State} (stopped : s.station ≠ .running) (sup : supervisorLaw s) (sel : selectionLaw s)
    (pub : publicationLaw s) : Dormant s := by
  refine ⟨stopped, ((publicationLaw_iff s).mp pub).1, fun k => ?_⟩
  obtain ⟨-, -, idle, -⟩ := sup k
  obtain ⟨aim, inactive, target, refresh, -⟩ := sel k
  have asleep : activeState (chan s k).sup.state = false := by rw [(idle stopped).1]; rfl
  have selection := inactive asleep
  refine ⟨asleep, selection, ?_, aim.trans selection⟩
  rw [selection] at target
  rw [target] at refresh
  simpa [callStation] using refresh

theorem Dormant.congr {s t : State} (h : Dormant s) (station : t.station ≠ .running) (pub : t.pub = s.pub)
    (chans : t.chans = s.chans) : Dormant t := by
  refine ⟨station, unpublished_slotsLaw ?_, fun k => ?_⟩
  · rw [pub]; exact h.slots.quiet h.stopped
  · rw [chan, chans]; exact h.chans k

theorem arbitrateLane_stopped {s : State} (h : s.station ≠ .running) : arbitrateLane s = s :=
  arbitrateLane_cases s (· = s) rfl fun _ _ _ running => absurd running h

theorem takeCalls_restartOwed (s : State) : (takeCalls s).tx.restartOwed = s.tx.restartOwed := by
  generalize e : heldNow s.now s.tx = i
  by_cases nothing : i.offered = Bank.fill 2 []
  · rw [takeCalls_none (e ▸ nothing)]
    rfl
  · rw [takeCalls_some e nothing]
    show (resendIf s.config i.begun (queuedFor s i)).restartOwed = _
    rw [resendIf_queuedFor_frame s i _ rfl]

/-- The end of a command finds nothing to do at a transmitter that rests. -/
theorem conclude_quietTx {s : State} (h : Dormant s) (offers : s.tx.offers = Bank.fill 2 []) (quiet : QuietTx s.tx) :
    QuietTx (conclude s).tx := by
  have settled := (settle_rests s).tx h
  have stopped : (takeCalls (settle s)).station ≠ .running := by
    rw [(takeCalls_within _).link.station, (settle_within s).station]
    exact h.stopped
  unfold conclude
  rw [arbitrateLane_stopped stopped]
  cases owed : s.tx.restartOwed with
  | true =>
    intro paid
    rw [takeCalls_restartOwed, settled, owed] at paid
    cases paid
  | false =>
    obtain ⟨-, -, -, instant, -, -⟩ := quiet owed
    rw [takeCalls_quiet (by rw [settled, instant]) (by rw [settled, offers]), settled]
    exact quiet

/-! ## Commands at the transmitter outside RUNNING -/

theorem restartChannel_asleep (now : Time) (c : Channel) : Asleep (restartChannel now c) := ⟨rfl, rfl, rfl, rfl⟩

theorem restartCmd_dormant (s : State) : Dormant (restartCmd s) := by
  refine ⟨nofun, unpublished_slotsLaw (unpublished_restart s.pub), fun k => ?_⟩
  rw [restartCmd_chan]
  exact restartChannel_asleep ..

theorem restartTransmit_quiet (x : Transmit) : QuietTx (restartTransmit x) := by
  unfold restartTransmit
  split
  · exact nofun
  · exact quietTx_clear x

theorem restartTransmit_offers (x : Transmit) : (restartTransmit x).offers = x.offers := by
  unfold restartTransmit
  split <;> rfl

theorem payRestart_offers (x : Transmit) : (payRestart x).offers = x.offers := by
  unfold payRestart
  split <;> rfl

theorem endSending_quiet {s : State} (h : QuietTx s.tx) : QuietTx (endSending s).tx := by
  cases owed : s.tx.restartOwed with
  | true =>
    have cleared : (endSending s).tx = clearTransmit { s.tx with
        sending := none, instant := s.tx.instant.filter (!·.begun) } := if_pos owed
    rw [cleared]
    exact quietTx_clear _
  | false =>
    obtain ⟨due, pending, queue, instant, bursts, mark⟩ := h owed
    have ended : (endSending s).tx = { s.tx with sending := none, instant := s.tx.instant.filter (!·.begun) } :=
      payRestart_of_not_owed owed
    rw [ended]
    exact fun _ => ⟨due, pending, queue, by rw [instant]; rfl, bursts, mark⟩

theorem beaconTimer_quiet {s : State} (h : QuietTx s.tx) : QuietTx (beaconTimer s).tx := by
  unfold beaconTimer
  split
  · next t running =>
    split
    · intro owed
      have frame : (onTx (beaconExpired t) s).tx = _ := beaconExpired_frame t s.tx
      rw [frame] at owed
      obtain ⟨due, -⟩ := h owed
      rw [running] at due
      cases due
    · exact h
  · exact h

theorem beaconTimer_offers (s : State) : (beaconTimer s).tx.offers = s.tx.offers := by
  unfold beaconTimer
  split
  · split
    · next t _ _ =>
      show (beaconExpired t s.tx).offers = _
      rw [beaconExpired_frame]
    · rfl
  · rfl

/-- The transmit lane after a command's own part, in a station that was not RUNNING and still is not. -/
theorem body_quiet (c : Instr) {s : State} (h : Dormant s) (offers : s.tx.offers = Bank.fill 2 []) (quiet : QuietTx s.tx)
    (stopped : (body c s).station ≠ .running) :
    Dormant (body c s) ∧ (body c s).tx.offers = Bank.fill 2 [] ∧ QuietTx (body c s).tx := by
  cases steers : steersLink c with
  | false =>
    have rests := body_rests steers s
    rw [rests.tx h]
    exact ⟨rests.dormant h, offers, quiet⟩
  | true =>
    cases c with
    | configReadDone dt image =>
      refine readDone_cases image s
        (fun t => t.station ≠ .running → Dormant t ∧ t.tx.offers = Bank.fill 2 [] ∧ QuietTx t.tx)
        (fun _ _ => ⟨h, offers, quiet⟩) (fun _ still => ⟨h.congr still rfl rfl, offers, quiet⟩)
        (fun u _ _ _ still => absurd (enterRunning_station _ u) still) stopped
    | restart dt =>
      exact ⟨restartCmd_dormant s, (restartTransmit_offers s.tx).trans offers, restartTransmit_quiet s.tx⟩
    | recordSent dt =>
      exact ⟨h.congr h.stopped rfl rfl, (payRestart_offers _).trans offers, endSending_quiet quiet⟩
    | beaconTimerExpiry dt =>
      obtain ⟨pub, station, chans, -⟩ := beaconTimer_pub s
      exact ⟨h.congr stopped pub chans, (beaconTimer_offers s).trans offers, beaconTimer_quiet quiet⟩
    | _ => cases steers

/-- A station that RUNS stops only by a RESTART. -/
theorem body_running {c : Instr} {s : State} (running : s.station = .running) (h : isRestart c = false) :
    (body c s).station = .running := by
  cases steers : steersLink c with
  | false => exact (body_effects steers s).station.trans running
  | true =>
    cases c with
    | configReadDone dt image =>
      refine readDone_cases image s (·.station = .running) (fun _ => running)
        (fun loading => absurd (running.symm.trans loading) nofun) (fun u _ _ _ => enterRunning_station _ u)
    | restart dt => cases h
    | recordSent dt => exact running
    | beaconTimerExpiry dt => exact (beaconTimer_pub s).2.1.trans running
    | _ => cases steers

/-- Every step keeps the rest of the transmit lane outside RUNNING (01/R10). -/
theorem step_quietLaw {s t : State} (sup : supervisorLaw s) (sel : selectionLaw s) (pub : publicationLaw s)
    (tx : transmitLaw s) (quiet : quietLaw s) (stepped : step s = .next t) : quietLaw t := by
  have offers : s.tx.offers = Bank.fill 2 [] := ((transmitLaw_iff s).mp tx).2
  refine step_cases stepped quietLaw quiet (fun rest _ _ => ⟨rfl, rfl, rfl, rfl, rfl, rfl⟩) (fun c rest _ => ?_)
  generalize e : advance c.elapsed { s with pending := rest } = u
  have station : u.station = s.station := e ▸ rfl
  have txs : u.tx = s.tx := e ▸ rfl
  intro stopped
  rw [(conclude_within _).station] at stopped
  have ends : Dormant (body c u) ∧ (body c u).tx.offers = Bank.fill 2 [] ∧ QuietTx (body c u).tx := by
    by_cases running : s.station = .running
    · cases c with
      | restart dt =>
        exact ⟨restartCmd_dormant u, (restartTransmit_offers u.tx).trans (txs ▸ offers), restartTransmit_quiet u.tx⟩
      | _ => exact absurd (body_running (station.trans running) rfl) stopped
    · have dormant : Dormant u :=
        (dormant_of_laws running sup sel pub).congr (station ▸ running) (e ▸ rfl) (e ▸ rfl)
      exact body_quiet c dormant (txs ▸ offers) (txs ▸ quiet running) stopped
  obtain ⟨dormant, offered, rests⟩ := ends
  exact conclude_quietTx dormant offered rests

/-! ## The statement -/

/-- Settles O9: the lane law moves with the peer entries, the publication and transmit laws with each move of the two
blocks, and the rest outside RUNNING holds because sleeping channels offer nothing. -/
theorem linkLawsKept : Obligations.LinkLawsKept :=
  ⟨fun _ _ h => step_laneLaw h, fun _ _ h => step_transmitLaw h,
    fun _ _ sup sel pub tx quiet => step_quietLaw sup sel pub tx quiet, fun _ _ h => step_publicationLaw h⟩

end Sys2Proof.Machine
end

section
/-! What the transmitter takes at a record boundary (01/R9, R10, R12, R14). -/

namespace Sys2Proof.Machine

/-! ## The last word of a record -/

theorem endSending_owed {s : State} (owed : s.tx.restartOwed = true) :
    endSending s = { s with tx := clearTransmit { s.tx with sending := none, instant := s.tx.instant.filter (!·.begun) } } :=
  congrArg (fun x => { s with tx := x }) (if_pos owed)

theorem endSending_free {s : State} (free : s.tx.restartOwed = false) :
    endSending s = { s with tx := { s.tx with sending := none, instant := s.tx.instant.filter (!·.begun) } } :=
  congrArg (fun x => { s with tx := x })
    (payRestart_of_not_owed (x := { s.tx with sending := none, instant := s.tx.instant.filter (!·.begun) }) free)

/-- The state in which a command at a record boundary finds an idle transmitter. -/
def recordEnded (dt : Nat) (s : State) : State :=
  { advance dt s with tx := { s.tx with sending := none, instant := s.tx.instant.filter (!·.begun) } }

theorem recordSent_owed (dt : Nat) {s : State} (owed : s.tx.restartOwed = true) :
    exec (.recordSent dt) s = .next (conclude { advance dt s with tx := clearTransmit { s.tx with sending := none } }) :=
  congrArg (fun t => Host.Outcome.next (conclude t)) (endSending_owed (s := advance dt s) owed)

theorem recordSent_free (dt : Nat) {s : State} (free : s.tx.restartOwed = false) :
    exec (.recordSent dt) s = .next (conclude (recordEnded dt s)) :=
  congrArg (fun t => Host.Outcome.next (conclude t)) (endSending_free (s := advance dt s) free)

/-! ## The transmitter stays idle until the arbiter begins -/

theorem heldNow_begun {now : Time} {x : Transmit} (h : ∀ i ∈ x.instant, i.begun = false) : (heldNow now x).begun = false := by
  show (instantNow now x).begun = false
  by_cases kept : ∃ i, x.instant = some i ∧ i.time = now
  · obtain ⟨i, e, time⟩ := kept
    rw [instantNow_kept e time]
    exact h i e
  · rw [instantNow_fresh fun i e time => kept ⟨i, e, time⟩]

/-- Calls taken while none of the instant has begun put nothing on the lane. -/
theorem resendIf_unbegun (config : Option StationConfig) (x : Transmit) : resendIf config false x = x := by
  unfold resendIf
  split <;> rfl

theorem takeCalls_sending {s : State} (h : ∀ i ∈ s.tx.instant, i.begun = false) :
    (takeCalls s).tx.sending = s.tx.sending := by
  by_cases nothing : (heldNow s.now s.tx).offered = Bank.fill 2 []
  · rw [takeCalls_none nothing]
    rfl
  · rw [takeCalls_some rfl nothing, heldNow_begun h, resendIf_unbegun]
    show (queuedFor s _).sending = _
    rw [queuedFor_frame]

theorem arbitrateLane_begins {s : State} {g : StationConfig} (sending : s.tx.sending = none) (config : s.config = some g)
    (running : s.station = .running) : arbitrateLane s = beginSending s g := by
  simp [arbitrateLane, sending, config, isRunning, running]

/-! ## The slot served (01/R9) -/

theorem servedSlot_some {x : Transmit} {i : PubSlotNo} (holds : x.bursts.get i ≠ [])
    (turn : x.mark ≠ i ∨ x.bursts.get (1 - i) = []) : servedSlot x = some i := by
  match i with
  | 0 =>
    change x.mark ≠ 0 ∨ x.bursts.get 1 = [] at turn
    simp only [servedSlot, if_neg holds]
    split
    · rfl
    · next other => rw [if_neg (turn.resolve_right other)]
  | 1 =>
    change x.mark ≠ 1 ∨ x.bursts.get 0 = [] at turn
    simp only [servedSlot, if_neg holds]
    split
    · rfl
    · next other =>
      have zero : ∀ m : PubSlotNo, m ≠ 1 → m = 0 := by decide
      rw [if_pos (zero _ (turn.resolve_right other))]

theorem servedSlot_none {x : Transmit} (zero : x.bursts.get 0 = []) (one : x.bursts.get 1 = []) : servedSlot x = none := by
  simp [servedSlot, zero, one]

/-! ## The statement -/

/-- The arbiter of a RUNNING station begins at once where a command leaves the transmitter idle. -/
theorem conclude_begins {s : State} {g : StationConfig} (running : s.station = .running) (config : s.config = some g)
    (sending : s.tx.sending = none) (unbegun : ∀ i ∈ s.tx.instant, i.begun = false) :
    conclude s = beginSending (takeCalls (settle s)) g := by
  have within := (settle_within s).trans (takeCalls_within (settle s)).link
  have tx := (settle_moves s).tx
  refine arbitrateLane_begins ?_ (within.config.trans config) (within.station.trans running)
  rw [takeCalls_sending (by rw [tx]; exact unbegun), tx]
  exact sending

theorem recordEnded_unbegun (dt : Nat) (s : State) : ∀ i ∈ (recordEnded dt s).tx.instant, i.begun = false := by
  intro i kept
  simpa using (Option.filter_eq_some_iff.mp kept).2

/-- Settles O32: a RESTART that waits acts at the end of the record; otherwise the arbiter finds the transmitter idle. -/
theorem recordBoundary : Obligations.RecordBoundary := by
  refine ⟨fun dt s owed => recordSent_owed dt owed, fun dt s v u g running config free hv hu => ?_⟩
  have begins : exec (.recordSent dt) s = .next (beginSending u g) := by
    rw [recordSent_free dt free, conclude_begins (s := recordEnded dt s) running config rfl (recordEnded_unbegun dt s), hu, hv]
    rfl
  have within : WithinLink (recordEnded dt s) u := by
    rw [hu, hv]
    exact (settle_within _).trans (takeCalls_within _).link
  have now : u.now = s.now + BitVec.ofNat 48 dt := within.now
  have epoch : u.epoch = s.epoch := within.epoch
  rw [begins]
  refine ⟨fun pending => ?_, fun c rest idle queue => ?_, fun i r rest idle queue burst turn => ?_,
    fun idle queue zero one => ?_⟩
  · rw [beginSending_beacon g pending, ← now, ← epoch]
    rfl
  · rw [beginSending_call g idle queue]
    rfl
  · rw [beginSending_burst g idle queue (servedSlot_some (by simp [burst]) turn) burst]
    rfl
  · rw [beginSending_idle g idle queue (servedSlot_none zero one)]

end Sys2Proof.Machine
end

section
/-! The call queue of an instant, the burst queues and the two periodic timers of the link (01/R11, R13, R15, 03/R40). -/

namespace Sys2Proof.Machine

/-! ## One call and one record offered -/

theorem any_samePair {c : Call} {qs : List Call} :
    qs.any (samePair c) = true ↔ ∃ q ∈ qs, q.target = c.target ∧ q.feed = c.feed := by
  simp only [List.any_eq_true, samePair_iff]

theorem any_samePair_false {c : Call} {qs : List Call} (h : ∀ q ∈ qs, q.target ≠ c.target ∨ q.feed ≠ c.feed) :
    qs.any (samePair c) = false := by
  rw [Bool.eq_false_iff, Ne, any_samePair]
  rintro ⟨q, hq, target, feed⟩
  exact (h q hq).elim (· target) (· feed)

theorem offerCall_rule (c : Call) (x : Transmit) :
    ((∃ q ∈ x.callQueue, q.target = c.target ∧ q.feed = c.feed) →
        offerCall c x = { x with callQueue := x.callQueue.map fun q =>
          if q.target = c.target ∧ q.feed = c.feed then { q with duration := c.duration } else q })
      ∧ ((∀ q ∈ x.callQueue, q.target ≠ c.target ∨ q.feed ≠ c.feed) →
        (x.callQueue.length < 8 → offerCall c x = { x with callQueue := x.callQueue ++ [c] })
        ∧ (x.callQueue.length = 8 → offerCall c x = { x with
            callQueue := x.callQueue.tail ++ [c], tally := addCount x.tally (txCtrIx .callDropped) 1 })) := by
  refine ⟨fun held => ?_, fun new => ⟨fun room => offerCall_append (any_samePair_false new) room, fun full => ?_⟩⟩
  · rw [offerCall_replace (any_samePair.mpr held)]
    simp only [samePair_iff]
  · rw [offerCall_drop (any_samePair_false new) (by omega), List.drop_one]
    rfl

theorem offerBurst_rule (k : PubSlotNo) (r : LinkRecord) (x : Transmit) :
    ((x.bursts.get k).length < 32 →
        offerBurst k r x = { x with bursts := x.bursts.set k (x.bursts.get k ++ [r]) })
      ∧ (32 ≤ (x.bursts.get k).length →
        offerBurst k r x = { x with slotTally := x.slotTally.modify k (addCount · (slotCtrIx .burstOverflow) 1) }) :=
  ⟨fun room => if_pos room, fun full => if_neg (by omega)⟩

/-! ## The calls that a queue takes -/

/-- What a call does to the queue depends on the queue alone. -/
theorem offerCall_callQueue (c : Call) {x y : Transmit} (h : x.callQueue = y.callQueue) :
    (offerCall c x).callQueue = (offerCall c y).callQueue := by
  unfold offerCall
  rw [h]
  split
  · rfl
  · split <;> rfl

theorem offerCalls_callQueue (cs : List Call) {x y : Transmit} (h : x.callQueue = y.callQueue) :
    (offerCalls cs x).callQueue = (offerCalls cs y).callQueue := by
  induction cs generalizing x y with
  | nil => exact h
  | cons c cs ih => exact ih (offerCall_callQueue c h)

theorem bank_set_set {n : Nat} {α : Type} (b : Bank n α) (i : Fin n) (a c : α) : (b.set i a).set i c = b.set i c := by
  refine Bank.ext_get fun j => ?_
  rw [Bank.get_set, Bank.get_set, Bank.get_set]
  split <;> rfl

/-- Calls offered count nothing but calls dropped. -/
theorem offerCalls_tally (cs : List Call) (x : Transmit) (v : Count) :
    (offerCalls cs x).tally.set (txCtrIx .callDropped) v = x.tally.set (txCtrIx .callDropped) v := by
  induction cs generalizing x with
  | nil => rfl
  | cons c cs ih =>
    refine (ih (offerCall c x)).trans ?_
    unfold offerCall
    split
    · rfl
    · split
      · rfl
      · exact bank_set_set ..

theorem queuedFor_tally (s : State) (i : CallInstant) (v : Count) :
    (queuedFor s i).tally.set (txCtrIx .callDropped) v = s.tx.tally.set (txCtrIx .callDropped) v :=
  (offerCalls_tally _ _ v).trans (bank_set_set ..)

theorem standingCalls_congr {s t : State} (chans : t.chans = s.chans) (config : t.config = s.config) :
    standingCalls t = standingCalls s := by
  unfold standingCalls keepsDemand chanConfig chan
  rw [chans, config]

/-- The queue made for an instant does not depend on what an earlier command of the instant made of it. -/
theorem queuedFor_congr {s t : State} (i : CallInstant) (chans : t.chans = s.chans) (config : t.config = s.config)
    (tx : t.tx = { s.tx with
      callQueue := t.tx.callQueue, tally := t.tx.tally, offers := t.tx.offers, instant := t.tx.instant })
    (tally : t.tx.tally.set (txCtrIx .callDropped) i.dropped = s.tx.tally.set (txCtrIx .callDropped) i.dropped) :
    queuedFor t i = queuedFor s i := by
  unfold queuedFor requeue
  rw [standingCalls_congr chans config, tally, tx]

/-! ## The calls of one instant -/

theorem heldNow_kept {now : Time} {x : Transmit} {j : CallInstant} (h : x.instant = some j) (time : j.time = now) :
    heldNow now x = { j with offered := (heldNow now x).offered } := by
  show { instantNow now x with offered := (heldNow now x).offered } = _
  rw [instantNow_kept h time]

theorem heldNow_fresh {now : Time} {x : Transmit} (h : ∀ j ∈ x.instant, j.time ≠ now) :
    heldNow now x = ⟨now, x.callQueue, x.tally.get (txCtrIx .callDropped), x.offers, false⟩ := by
  have offered : (heldNow now x).offered = x.offers := by
    refine Bank.ext_get fun k => ?_
    rw [heldNow_offered, instantNow_fresh h, Bank.get_fill, List.nil_append]
  show { instantNow now x with offered := (heldNow now x).offered } = _
  rw [instantNow_fresh h, offered]

/-- Nothing was offered, or something was. -/
theorem offered_fill_iff {b : Bank 2 (List Call)} : b = Bank.fill 2 [] ↔ ∀ k, b.get k = [] := by
  refine ⟨fun e k => by rw [e, Bank.get_fill], fun h => Bank.ext_get fun k => ?_⟩
  rw [h, Bank.get_fill]

/-- Where no CALL of the instant has begun, none gives way. -/
theorem takeCalls_unbegun {s : State} {i : CallInstant} (held : heldNow s.now s.tx = i) (unbegun : i.begun = false)
    (some : i.offered ≠ Bank.fill 2 []) : takeCalls s = { s with tx := queuedFor s i } := by
  rw [takeCalls_some held some, unbegun, resendIf_unbegun]

theorem takeCalls_fresh {s : State} (fresh : ∀ j ∈ s.tx.instant, j.time ≠ s.now) (some : s.tx.offers ≠ Bank.fill 2 []) :
    takeCalls s = { s with tx := queuedFor s (heldNow s.now s.tx) } := by
  have held := heldNow_fresh fresh
  exact takeCalls_unbegun rfl (by rw [held]) (by rw [held]; exact some)

theorem fresh_none {now : Time} {x : Transmit} (h : x.instant = none) : ∀ j ∈ x.instant, j.time ≠ now := by
  rw [h]
  exact nofun

theorem get_holdCalls (k j : Chan) (cs : List Call) (x : Transmit) :
    (holdCalls k cs x).offers.get j = if j = k then x.offers.get k ++ cs else x.offers.get j := Bank.get_modify ..

/-- Whatever a channel offers, offers that stood stand. -/
theorem holdCalls_offered {k : Chan} {cs : List Call} {x : Transmit} (h : x.offers ≠ Bank.fill 2 []) :
    (holdCalls k cs x).offers ≠ Bank.fill 2 [] := by
  intro empty
  refine h (offered_fill_iff.mpr fun j => ?_)
  have all := offered_fill_iff.mp empty j
  rw [get_holdCalls] at all
  split at all
  · next e => exact e ▸ (List.append_eq_nil_iff.mp all).1
  · exact all

/-- A second command of the instant finds the calls of the first, and holds what one command would. -/
theorem heldNow_again {now : Time} {x y : Transmit} (k : Chan) (cs : List Call) (fresh : ∀ j ∈ x.instant, j.time ≠ now)
    (instant : y.instant = some (heldNow now x)) (offers : y.offers = Bank.fill 2 []) :
    heldNow now (holdCalls k cs y) = heldNow now (holdCalls k cs x) := by
  have found := heldNow_fresh fresh
  have kept : (holdCalls k cs y).instant = some (heldNow now x) := instant
  have time : (heldNow now x).time = now := by rw [found]
  have offered : (heldNow now (holdCalls k cs y)).offered = (holdCalls k cs x).offers := by
    refine Bank.ext_get fun j => ?_
    rw [heldNow_offered, instantNow_kept kept time, found, get_holdCalls, get_holdCalls, offers, Bank.get_fill,
      Bank.get_fill]
    split
    · next e => rw [e, List.nil_append]
    · exact List.append_nil _
  rw [heldNow_kept kept time, offered, found, heldNow_fresh (x := holdCalls k cs x) fresh]
  rfl

/-- An instant gone by is as good as none. -/
theorem takeCalls_gone {s : State} (fresh : ∀ j ∈ s.tx.instant, j.time ≠ s.now) :
    takeCalls (onTx (fun x => { x with instant := none }) s) = takeCalls s := by
  have same : heldNow s.now (onTx (fun x => { x with instant := none }) s).tx = heldNow s.now s.tx := by
    rw [heldNow_fresh (fresh_none rfl), heldNow_fresh fresh]
    rfl
  by_cases nothing : (heldNow s.now s.tx).offered = Bank.fill 2 []
  · rw [takeCalls_none nothing, takeCalls_none (s := onTx _ s) ((congrArg (·.offered) same).trans nothing)]
    rfl
  · have unbegun : (heldNow s.now s.tx).begun = false := by rw [heldNow_fresh fresh]
    rw [takeCalls_unbegun rfl unbegun nothing, takeCalls_unbegun (s := onTx _ s) same unbegun nothing]
    rfl

/-- Calls offered by two commands of one instant are taken as those of one command. -/
theorem takeCalls_again {s : State} (k : Chan) (cs : List Call) (fresh : ∀ j ∈ s.tx.instant, j.time ≠ s.now) :
    takeCalls (onTx (holdCalls k cs) (takeCalls s)) = takeCalls (onTx (holdCalls k cs) s) := by
  by_cases first : s.tx.offers = Bank.fill 2 []
  · rw [takeCalls_none (s := s) (by rw [heldNow_fresh fresh]; exact first)]
    exact takeCalls_gone (s := onTx (holdCalls k cs) s) fresh
  · have joint : ∀ j ∈ (holdCalls k cs s.tx).instant, j.time ≠ s.now := fresh
    have held := heldNow_fresh joint
    rw [takeCalls_fresh fresh first, takeCalls_fresh (s := onTx (holdCalls k cs) s) joint (holdCalls_offered first)]
    generalize now : heldNow s.now s.tx = i
    have frame := queuedFor_frame s i
    have dropped := queuedFor_tally s i (s.tx.tally.get (txCtrIx .callDropped))
    generalize queuedFor s i = y at frame dropped
    have same : heldNow s.now (holdCalls k cs y) = heldNow s.now (holdCalls k cs s.tx) :=
      heldNow_again k cs fresh (by rw [frame, now]) (by rw [frame])
    show takeCalls (onTx (holdCalls k cs) { s with tx := y })
      = { s with tx := queuedFor (onTx (holdCalls k cs) s) (heldNow s.now (holdCalls k cs s.tx)) }
    rw [takeCalls_unbegun (s := onTx (holdCalls k cs) { s with tx := y }) same (by rw [held]) (by rw [held]; exact holdCalls_offered first), held]
    have queued := queuedFor_congr (s := onTx (holdCalls k cs) s) (t := onTx (holdCalls k cs) { s with tx := y })
      ⟨s.now, s.tx.callQueue, s.tx.tally.get (txCtrIx .callDropped), (holdCalls k cs s.tx).offers, false⟩ rfl rfl
      (by show holdCalls k cs y = _; rw [frame]; rfl) dropped
    exact congrArg (fun x => { s with tx := x }) queued

/-- The calls of a running instant, with those of the present command. -/
theorem heldNow_eq {now : Time} {x : Transmit} {i j : CallInstant} (kept : x.instant = some j) (time : j.time = now)
    (whole : i = { j with offered := i.offered }) (offered : ∀ k, i.offered.get k = j.offered.get k ++ x.offers.get k) :
    heldNow now x = i := by
  have same : (heldNow now x).offered = i.offered :=
    Bank.ext_get fun k => by rw [heldNow_offered, instantNow_kept kept time, offered]
  rw [heldNow_kept kept time, same, ← whole]

theorem keepsDemand_iff {s : State} {k : Chan} {sel : Option Copy} {target : StationNo} {feed : FeedNo} :
    keepsDemand s k sel target feed = true ↔ ∃ q, sel = some q ∧ q.origin ≠ .internal ∧ q.station = target
      ∧ (chanConfig s k).bind (·.feed) = some feed := by
  cases sel <;> simp [keepsDemand, and_assoc]

theorem standingCalls_eq {s : State} {k : Chan} {keeps : Call → Bool} (calls : List Call)
    (keep : ∀ c, keeps c = true ↔ ∃ q, selectionOf s (otherChan k) = some q ∧ q.origin ≠ .internal
      ∧ q.station = c.target ∧ (chanConfig s (otherChan k)).bind (·.feed) = some c.feed) :
    standingCalls s k calls = calls.filter fun c => c.duration ≠ 0 || !keeps c := by
  unfold standingCalls
  congr 1
  funext c
  have same : keepsDemand s (otherChan k) (chan s (otherChan k)).csl.selection c.target c.feed = keeps c := by
    rw [Bool.eq_iff_iff, keep, keepsDemand_iff]
    rfl
  rw [same]
  by_cases zero : c.duration = 0 <;> simp [zero]

theorem takeCalls_outcome {s : State} {i : CallInstant} {x : Transmit} (held : heldNow s.now s.tx = i)
    (queued : queuedFor s i = x) :
    ((∀ k, i.offered.get k = []) → takeCalls s = { s with tx := { s.tx with instant := none } })
      ∧ ((∃ k, i.offered.get k ≠ []) →
        (i.begun = false ∨ s.config = none ∨ x.callQueue = [] → takeCalls s = { s with tx := x })
        ∧ ∀ g c rest, i.begun = true → s.config = some g → x.callQueue = c :: rest →
          takeCalls s = { s with tx := { x with
            callQueue := rest, sending := some (encodeRecord (.call ⟨g.station, c.target, c.feed, c.duration⟩)) } }) := by
  refine ⟨fun nothing => takeCalls_none (by rw [held]; exact offered_fill_iff.mpr nothing), fun ⟨k, offered⟩ => ?_⟩
  rw [takeCalls_some held fun e => offered (offered_fill_iff.mp e k), queued]
  refine ⟨fun keeps => ?_, fun g c rest begun config queue => ?_⟩
  · suffices resendIf s.config i.begun x = x by rw [this]
    obtain unbegun | config | empty := keeps
    · rw [unbegun, resendIf_unbegun]
    · rw [config]
      rfl
    · simp [resendIf, resend, empty]
      split <;> rfl
  · have again : resendIf s.config i.begun x
        = { x with callQueue := rest, sending := some (encodeRecord (callRecord g c)) } := by
      simp [resendIf, resend, config, begun, queue]
    rw [again]
    rfl

/-- Calls offered in two commands of an instant are queued alike in either order of the commands. -/
theorem takeCalls_order {s : State} (as bs : List Call) (fresh : ∀ j ∈ s.tx.instant, j.time ≠ s.now) :
    takeCalls (onTx (holdCalls 0 as) (takeCalls (onTx (holdCalls 1 bs) s)))
      = takeCalls (onTx (holdCalls 1 bs) (takeCalls (onTx (holdCalls 0 as) s))) := by
  rw [takeCalls_again (s := onTx (holdCalls 1 bs) s) 0 as fresh, takeCalls_again (s := onTx (holdCalls 0 as) s) 1 bs fresh]
  have swap : (onTx (holdCalls 0 as) (onTx (holdCalls 1 bs) s)).tx.offers
      = (onTx (holdCalls 1 bs) (onTx (holdCalls 0 as) s)).tx.offers := Bank.ext_get fun
    | 0 => by simp [get_holdCalls]
    | 1 => by simp [get_holdCalls]
  exact congrArg (fun o => takeCalls { s with tx := { s.tx with offers := o } }) swap

/-- The queue of an instant takes channel 0's calls first. -/
theorem takeCalls_queue {s : State} (as bs : List Call) (fresh : ∀ j ∈ s.tx.instant, j.time ≠ s.now)
    (empty : s.tx.offers = Bank.fill 2 []) :
    (takeCalls (onTx (holdCalls 0 as) (onTx (holdCalls 1 bs) s))).tx.callQueue
      = (offerCalls (standingCalls s 0 as ++ standingCalls s 1 bs) s.tx).callQueue := by
  generalize e : onTx (holdCalls 0 as) (onTx (holdCalls 1 bs) s) = w
  have joint : ∀ j ∈ w.tx.instant, j.time ≠ w.now := e ▸ fresh
  have zero : w.tx.offers.get 0 = as := by
    simp [← e, get_holdCalls, empty]
  have one : w.tx.offers.get 1 = bs := by
    simp [← e, get_holdCalls, empty]
  have queue : w.tx.callQueue = s.tx.callQueue := e ▸ rfl
  by_cases nothing : w.tx.offers = Bank.fill 2 []
  · rw [takeCalls_none (by rw [heldNow_fresh joint]; exact nothing)]
    rw [← zero, ← one, nothing, Bank.get_fill]
    exact queue
  · rw [takeCalls_fresh joint nothing, heldNow_fresh joint]
    show (queuedFor w _).callQueue = _
    unfold queuedFor
    rw [zero, one, standingCalls_congr (s := s) (e ▸ rfl) (e ▸ rfl)]
    exact offerCalls_callQueue _ queue

/-! ## The beacon timer and the millisecond tick -/

theorem beaconTimer_due {s : State} {d : Time} (running : s.tx.beaconDue = some d) (h : 0 ≤ Machine.sdiff s.now d) :
    beaconTimer s = onTx (beaconExpired d) s := by
  simp [beaconTimer, running, reached_iff.mpr h]

theorem beaconExpired_eq (d : Time) (x : Transmit) : beaconExpired d x = { x with
    beaconDue := some (d + 27000), beaconPending := true
    tally := if x.beaconPending then addCount x.tally (txCtrIx .beaconSkipped) 1 else x.tally } := by
  unfold beaconExpired shift
  dsimp only
  split <;> rfl

theorem millisecond_due {s : State} {d : Time} (ticking : s.pub.tick = some d) (running : s.station = .running)
    (h : 0 ≤ Machine.sdiff s.now d) : millisecond s = onPub (demandTick d) s := by
  simp [millisecond, ticking, reached_iff.mpr h, isRunning, running]

theorem countDown_toNat (d : BitVec 8) : (countDown d).toNat = d.toNat - 1 := by
  unfold countDown
  split
  · next zero => rw [zero]; rfl
  · next nonzero => bv_omega

/-- No move counts a demand down or up. -/
theorem Move.demand {s t : State} (m : Move s t) : t.pub.demand = s.pub.demand ∧ t.pub.tick = s.pub.tick := by
  cases m with
  | aside pub _ _ _ => rw [pub]; exact ⟨rfl, rfl⟩
  | tally only =>
    show (_ : Publication).demand = _ ∧ (_ : Publication).tick = _
    rw [onPub_pub, only]
    exact ⟨rfl, rfl⟩
  | _ => exact ⟨rfl, rfl⟩

theorem Moves.demand {s t : State} (m : Moves s t) : t.pub.demand = s.pub.demand ∧ t.pub.tick = s.pub.tick := by
  induction m with
  | refl => exact ⟨rfl, rfl⟩
  | tail _ m ih => exact ⟨m.demand.1.trans ih.1, m.demand.2.trans ih.2⟩

theorem conclude_demand (s : State) :
    (conclude s).pub.demand = s.pub.demand ∧ (conclude s).pub.tick = s.pub.tick := by
  rw [conclude_pub]
  exact (settle_moves s).demand

theorem millisecondTick_rule {dt : Nat} {s : State} {d : Time} (running : s.station = .running)
    (ticking : s.pub.tick = some d) (h : 0 ≤ Machine.sdiff (s.now + BitVec.ofNat 48 dt) d) :
    ∃ t u, exec (.millisecondTick dt) s = .next t ∧ t = conclude u ∧ u = { advance dt s with pub := u.pub }
      ∧ u.pub = { s.pub with tick := some (d + 27000), demand := u.pub.demand } ∧ t.pub.demand = u.pub.demand
      ∧ t.pub.tick = some (d + 27000)
      ∧ ∀ p n, ((t.pub.demand.get p).get n).toNat = ((s.pub.demand.get p).get n).toNat - 1 := by
  have ends : exec (.millisecondTick dt) s = .next (conclude (onPub (demandTick d) (advance dt s))) := by
    rw [exec_eq_body rfl]
    exact congrArg (fun t => Host.Outcome.next (conclude t)) (millisecond_due (s := advance dt s) ticking running h)
  obtain ⟨demand, tick⟩ := conclude_demand (onPub (demandTick d) (advance dt s))
  refine ⟨_, _, ends, rfl, rfl, rfl, demand, tick, fun p n => ?_⟩
  rw [demand]
  unfold onPub demandTick
  dsimp only
  rw [Bank.get_map, Bank.get_map, countDown_toNat]
  rfl

/-! ## The statement -/

/-- Settles O31: the queue of an instant is one function of the calls held, and no part of a command's end counts down. -/
theorem queuesAndTimers : Obligations.QueuesAndTimers := by
  refine ⟨⟨offerCall_rule, fun s i stands keeps x held keep stand made => ?_, fun s t u as bs fresh empty ht hu => ?_,
    offerBurst_rule⟩, fun dt s => ⟨fun d running h => ?_,
      fun d running ticking h => millisecondTick_rule running ticking h⟩⟩
  · have holds : heldNow s.now s.tx = i := by
      obtain ⟨j, kept, time, whole, offered⟩ | ⟨fresh, e⟩ := held
      · exact heldNow_eq kept time whole offered
      · rw [heldNow_fresh fresh, e]
    refine takeCalls_outcome holds ?_
    rw [made, stand, stand, ← standingCalls_eq _ (keep 0), ← standingCalls_eq _ (keep 1)]
    rfl
  · rw [ht, hu, takeCalls_order as bs fresh]
    refine ⟨rfl, ?_⟩
    rw [← takeCalls_order as bs fresh, takeCalls_again (s := onTx (holdCalls 1 bs) s) 0 as fresh]
    exact takeCalls_queue as bs fresh empty
  · rw [exec_eq_body rfl]
    have expired : beaconTimer (advance dt s) = _ := beaconTimer_due (s := advance dt s) running h
    refine congrArg (fun t => Host.Outcome.next (conclude t)) (expired.trans ?_)
    exact congrArg (fun x => { advance dt s with tx := x }) (beaconExpired_eq d s.tx)

end Sys2Proof.Machine
end

section
/-! The record checker (01/R4 to R6): what each check asks, in order. -/

namespace Sys2Proof.Machine

/-! ## Codes and fields -/

theorem statusOf_none {n : Nat} (h : 5 ≤ n) : statusOf n = none := by
  match n, h with
  | _ + 5, _ => rfl

theorem kindOfCode_none {n : Nat} (h : 3 ≤ n) : kindOfCode n = none := by
  match n, h with
  | _ + 3, _ => rfl

theorem standardCode_none {n : Nat} (h : 14 ≤ n) : standardCode n = none := dif_neg (by omega)

theorem pubIndex_none {n : Nat} (h : 3 ≤ n) : pubIndex n = none := dif_neg (by omega)

theorem headerLength_none {n : Nat} (h : n = 0 ∨ 5 ≤ n) : headerLength n = none := by
  obtain rfl | big := h
  · rfl
  · match n, big with
    | _ + 5, _ => rfl

theorem headerLength_some {n h : Nat} (e : headerLength n = some h) : n = 1 ∨ n = 2 ∨ n = 3 ∨ n = 4 := by
  by_contra other
  rw [headerLength_none (by omega)] at e
  cases e

/-- The low bits of a word. -/
theorem field_low (w : Word) (len : Nat) : field w 0 len = w.toNat % 2 ^ len := by
  rw [field, Nat.pow_zero, Nat.div_one]

/-- The high bits of a word need no mask. -/
theorem field_high (w : Word) {lo len : Nat} (h : lo + len = 16) : field w lo len = w.toNat / 2 ^ lo := by
  refine Nat.mod_eq_of_lt (Nat.div_lt_of_lt_mul ?_)
  rw [← Nat.pow_add, h]
  exact w.isLt

/-- The record type (01/R4). -/
theorem field_type (w : Word) : field w 12 4 = w.toNat / 4096 := field_high w rfl

/-! ## The checks in order -/

/-- A record read by its kind's layout, and the length that it must have. -/
def readKind (ws : List Word) : Option (LinkRecord × Nat) :=
  match field (wordAt ws 0) 12 4 with
  | 1 => (readBeacon ws).map fun b => (.beacon b, 11)
  | 2 => (readCall ws).map fun c => (.call c, 3)
  | 3 => (readPicture ws).map fun p => (.picture p, 8)
  | _ => (readLines ws).map fun (l, n) => (.lines l, 6 + 2 * n)

theorem checkRecord_unknown {ws : List Word} (h : headerLength (field (wordAt ws 0) 12 4) = none) :
    checkRecord ws = .error .unknownType := by
  simp [checkRecord, h]

theorem checkRecord_short {ws : List Word} {n : Nat} (h : headerLength (field (wordAt ws 0) 12 4) = some n)
    (short : ws.length < n) : checkRecord ws = .error .malformed := by
  simp [checkRecord, h, short]

theorem checkRecord_crcWrong {ws : List Word} {n : Nat} (h : headerLength (field (wordAt ws 0) 12 4) = some n)
    (long : n ≤ ws.length) (wrong : wordAt ws (n - 1) ≠ crc (ws.take (n - 1))) : checkRecord ws = .error .crcError := by
  simp [checkRecord, h, Nat.not_lt.mpr long, wrong]

/-- With its CRC right, a record is accepted where its fields hold values of its layout and its length is the kind's. -/
theorem checkRecord_crcRight {ws : List Word} {n : Nat} (h : headerLength (field (wordAt ws 0) 12 4) = some n)
    (long : n ≤ ws.length) (right : wordAt ws (n - 1) = crc (ws.take (n - 1))) :
    checkRecord ws = (readKind ws).elim (.error .malformed) fun (r, m) =>
      if ws.length = m then .ok r else .error .malformed := by
  have short : ¬ ws.length < n := Nat.not_lt.mpr long
  obtain code | code | code | code := headerLength_some h <;> rw [code] at h <;> obtain rfl := Option.some.inj h
  · cases read : readBeacon ws <;> simp [checkRecord, readKind, code, headerLength, short, right, read]
  · cases read : readCall ws <;> simp [checkRecord, readKind, code, headerLength, short, right, read]
  · cases read : readPicture ws <;> simp [checkRecord, readKind, code, headerLength, short, right, read]
  · cases read : readLines ws <;> simp [checkRecord, readKind, code, headerLength, short, right, read]

theorem checkRecord_unread {ws : List Word} {n : Nat} (h : headerLength (field (wordAt ws 0) 12 4) = some n)
    (long : n ≤ ws.length) (right : wordAt ws (n - 1) = crc (ws.take (n - 1)))
    (bad : ∀ r m, readKind ws = some (r, m) → ws.length ≠ m) : checkRecord ws = .error .malformed := by
  rw [checkRecord_crcRight h long right]
  cases read : readKind ws with
  | none => rfl
  | some p => exact if_neg (bad p.1 p.2 read)

theorem checkRecord_read {ws : List Word} {n m : Nat} {r : LinkRecord}
    (h : headerLength (field (wordAt ws 0) 12 4) = some n) (long : n ≤ ws.length)
    (right : wordAt ws (n - 1) = crc (ws.take (n - 1))) (read : readKind ws = some (r, m)) (length : ws.length = m) :
    checkRecord ws = .ok r := by
  rw [checkRecord_crcRight h long right, read]
  exact if_pos length

theorem length_of_map {α : Type} {o : Option α} {f : α → LinkRecord} {r : LinkRecord} {k m : Nat}
    (h : o.map (fun x => (f x, k)) = some (r, m)) : m = k := by
  obtain ⟨_, _, e⟩ := Option.map_eq_some_iff.mp h
  exact (Prod.ext_iff.mp e).2.symm

/-- Only a LINES record is longer than its header. -/
theorem readKind_length {ws : List Word} {n m : Nat} {r : LinkRecord} (h : headerLength (field (wordAt ws 0) 12 4) = some n)
    (code : field (wordAt ws 0) 12 4 ≠ 4) (read : readKind ws = some (r, m)) : m = n := by
  unfold readKind at read
  obtain e | e | e | e := headerLength_some h
  · rw [e] at h read
    exact (length_of_map read).trans (Option.some.inj h)
  · rw [e] at h read
    exact (length_of_map read).trans (Option.some.inj h)
  · rw [e] at h read
    exact (length_of_map read).trans (Option.some.inj h)
  · exact absurd e code

/-! ## Fields outside their values (01/R6) -/

theorem readEntry_none {a b : Word} (present : a.toNat / 32768 = 1)
    (bad : a.toNat / 64 % 8 = 0 ∨ 5 ≤ a.toNat / 2 % 8 ∨ 14 ≤ b.toNat / 4096) : readEntry a b = none := by
  have held : field a 15 1 ≠ 0 := by rw [field_high a rfl]; simp [present]
  unfold readEntry
  rw [if_neg held]
  split
  · rfl
  · next rank =>
    obtain zero | status | standard := bad
    · exact absurd zero rank
    · rw [show statusOf (field a 1 3) = none from statusOf_none status]
      rfl
    · rw [field_high b rfl, show standardCode (b.toNat / 2 ^ 12) = none from standardCode_none standard]
      cases statusOf (field a 1 3) <;> rfl

theorem readBeacon_none {ws : List Word} {j : Nat} (h : j = 4 ∨ j = 6 ∨ j = 8)
    (bad : readEntry (wordAt ws j) (wordAt ws (j + 1)) = none) : readBeacon ws = none := by
  unfold readBeacon
  obtain rfl | rfl | rfl := h
  · simp [bad]
  · simp [bad]
  · simp [bad]

theorem readCall_none {ws : List Word} (h : (wordAt ws 0).toNat / 512 % 8 = (wordAt ws 0).toNat / 64 % 8) :
    readCall ws = none := if_pos h

theorem pubIndex_lt {n : Nat} {p : PubIx} (h : pubIndex n = some p) : n < 3 := by
  by_contra big
  rw [pubIndex_none (by omega)] at h
  cases h

/-- A PICTURE record that is read holds values of its layout. -/
theorem readPicture_values {ws : List Word} {p : PictureRecord} (h : readPicture ws = some p) :
    field (wordAt ws 0) 7 2 < 3 ∧ field (wordAt ws 1) 4 2 < 3 ∧ field (wordAt ws 1) 0 4 < 14 ∧ field (wordAt ws 1) 0 4 ≠ 0
      ∧ field (wordAt ws 5) 0 11 ≠ 0 ∧ field (wordAt ws 5) 0 11 ≤ 1152
      ∧ field (wordAt ws 6) 0 12 ≠ 0 ∧ field (wordAt ws 6) 0 12 % 2 = 0 ∧ field (wordAt ws 6) 0 12 ≤ 2048 := by
  unfold readPicture at h
  obtain ⟨pub, hpub, h⟩ := Option.bind_eq_some_iff.mp h
  obtain ⟨kind, hkind, h⟩ := Option.bind_eq_some_iff.mp h
  obtain ⟨standard, hstandard, h⟩ := Option.bind_eq_some_iff.mp h
  have kinds : field (wordAt ws 1) 4 2 < 3 := by
    by_contra big
    rw [kindOfCode_none (by omega)] at hkind
    cases hkind
  have standards : field (wordAt ws 1) 0 4 < 14 ∧ standard.val = field (wordAt ws 1) 0 4 := by
    unfold standardCode at hstandard
    split at hstandard
    · next small => cases hstandard; exact ⟨small, rfl⟩
    · cases hstandard
  split at h
  · cases h
  · next values =>
    simp only [not_or, Fin.ext_iff] at values
    obtain ⟨nonzero, lines, few, samples, even, short⟩ := values
    refine ⟨pubIndex_lt hpub, kinds, standards.1, ?_, lines, by omega, samples, by omega, by omega⟩
    rw [← standards.2]
    exact nonzero

/-- A LINES header that is read holds values of its layout. -/
theorem readLines_values {ws : List Word} {l : LinesRecord} {n : Nat} (h : readLines ws = some (l, n)) :
    n = field (wordAt ws 4) 0 9 ∧ field (wordAt ws 0) 7 2 < 3 ∧ field (wordAt ws 2) 0 11 ≤ 1151
      ∧ field (wordAt ws 3) 0 11 % 2 = 0 ∧ n ≠ 0 ∧ n % 2 = 0 ∧ n ≤ 256 ∧ field (wordAt ws 3) 0 11 + n ≤ 2048 := by
  unfold readLines at h
  obtain ⟨pub, hpub, h⟩ := Option.bind_eq_some_iff.mp h
  split at h
  · cases h
  · next values =>
    obtain ⟨-, rfl⟩ := Prod.ext_iff.mp (Option.some.inj h)
    exact ⟨rfl, pubIndex_lt hpub, by omega, by omega, by omega, by omega, by omega, by omega⟩

end Sys2Proof.Machine
end

section
/-! Records that reach no block: those that fail a check, and those of no channel's window (01/R4 to R7, 05/R70). -/

namespace Sys2Proof.Machine

/-! ## Records that fail a check -/

theorem recordReceived_eq (dt flight : Nat) (l : LaneNo) {words : List Word} (s : State) (some : words ≠ []) :
    exec (.recordReceived dt l flight words) s
      = .next (conclude (receiveRecord l ((advance dt s).now - BitVec.ofNat 48 flight) words (advance dt s))) :=
  congrArg (fun t => Host.Outcome.next (conclude t)) (if_neg some)

theorem receiveRecord_error {l : LaneNo} {arrival : Time} {words : List Word} {e : LaneCtr} (s : State)
    (h : checkRecord words = .error e) :
    receiveRecord l arrival words s = onLane l (fun x => flagLane (countLane x e) .linkError) s := by
  unfold receiveRecord
  rw [h]

theorem receiveRecord_ok {l : LaneNo} {arrival : Time} {words : List Word} {r : LinkRecord} (s : State)
    (h : checkRecord words = .ok r) :
    receiveRecord l arrival words s = deliver l arrival r (onLane l (fun x => countLane x .rxRecords) s) := by
  unfold receiveRecord
  rw [h]

/-- No record is empty. -/
theorem words_of_ok {words : List Word} {r : LinkRecord} (h : checkRecord words = .ok r) : words ≠ [] := by
  rintro rfl
  cases h

theorem wordAt_eq {words : List Word} {w : Nat → Nat} (h : ∀ i, w i = (words.getD i 0).toNat) (i : Nat) :
    (wordAt words i).toNat = w i := (h i).symm

/-- Header fields outside their values, or a LINES record of another length, are not read as a record of that length. -/
theorem readKind_bad {words : List Word} {w : Nat → Nat} {code : Nat} (hw : ∀ i, w i = (words.getD i 0).toNat)
    (hcode : field (wordAt words 0) 12 4 = code)
    (bad : code = 1 ∧ (∃ j, (j = 4 ∨ j = 6 ∨ j = 8) ∧ w j / 32768 = 1
          ∧ (w j / 64 % 8 = 0 ∨ 5 ≤ w j / 2 % 8 ∨ 14 ≤ w (j + 1) / 4096))
      ∨ code = 2 ∧ w 0 / 512 % 8 = w 0 / 64 % 8
      ∨ code = 3 ∧ (w 0 / 128 % 4 = 3 ∨ w 1 / 16 % 4 = 3 ∨ w 1 % 16 = 0 ∨ 14 ≤ w 1 % 16 ∨ w 5 % 2048 = 0
          ∨ 1152 < w 5 % 2048 ∨ w 6 % 4096 = 0 ∨ w 6 % 2 = 1 ∨ 2048 < w 6 % 4096)
      ∨ code = 4 ∧ (w 0 / 128 % 4 = 3 ∨ 1151 < w 2 % 2048 ∨ w 3 % 2 = 1 ∨ w 4 % 512 = 0 ∨ w 4 % 2 = 1
          ∨ 256 < w 4 % 512 ∨ 2048 < w 3 % 2048 + w 4 % 512 ∨ words.length ≠ 6 + 2 * (w 4 % 512)))
    (r : LinkRecord) (m : Nat) (read : readKind words = some (r, m)) : words.length ≠ m := by
  have at_ := wordAt_eq hw
  unfold readKind at read
  rw [hcode] at read
  obtain ⟨rfl, j, place, present, outside⟩ | ⟨rfl, same⟩ | ⟨rfl, outside⟩ | ⟨rfl, outside⟩ := bad
  · obtain ⟨b, beacon, -⟩ := Option.map_eq_some_iff.mp read
    rw [readBeacon_none place (readEntry_none (by rw [at_, present]) (by rw [at_, at_]; exact outside))] at beacon
    cases beacon
  · obtain ⟨c, call, -⟩ := Option.map_eq_some_iff.mp read
    rw [readCall_none (by rw [at_]; exact same)] at call
    cases call
  · obtain ⟨p, picture, -⟩ := Option.map_eq_some_iff.mp read
    have values := readPicture_values picture
    simp only [field, at_] at values
    omega
  · obtain ⟨⟨l, n⟩, lines, e⟩ := Option.map_eq_some_iff.mp read
    have values := readLines_values lines
    have length : m = 6 + 2 * n := (Prod.ext_iff.mp e).2.symm
    simp only [field, at_] at values
    omega

/-! ## Records of no channel's window (05/R70) -/

theorem ofWindow_false {env : Env} {c : Channel} {l : LaneNo} {station : StationNo} {pub : PubIx} {feed : FeedNo}
    (h : ∀ q, c.int.aim = some q →
      q.origin ≠ .lane l ∨ q.station ≠ station ∨ q.pub ≠ pub ∨ env.cfg.feed ≠ some feed) :
    ofWindow env c (.lane l) station pub feed = false := by
  unfold ofWindow
  split
  · rfl
  · next q aim =>
    obtain origin | station | pub | feed := h q aim
    · simp [origin]
    · simp [station]
    · simp [pub]
    · simp [feed]

theorem pictureToChannel_elsewhere {via : Origin} {r : PictureRecord} {k : Chan} {s : State}
    (h : ∀ g, chanConfig s k = some g → ofWindow ⟨s.now, g⟩ (chan s k) via r.origin r.pub r.feed = false) :
    pictureToChannel via r k s = s := by
  unfold pictureToChannel
  split
  · rfl
  · next g config => simp [h g config]

theorem linesToChannel_elsewhere {via : Origin} {r : LinesRecord} {k : Chan} {s : State}
    (h : ∀ g, chanConfig s k = some g → ofWindow ⟨s.now, g⟩ (chan s k) via r.origin r.pub r.feed = false) :
    linesToChannel via r k s = s := by
  unfold linesToChannel
  split
  · rfl
  · next g config => simp [h g config]

theorem deliver_picture_elsewhere {l : LaneNo} {arrival : Time} {r : PictureRecord} {s : State}
    (h : ∀ k g, chanConfig s k = some g → ofWindow ⟨s.now, g⟩ (chan s k) (.lane l) r.origin r.pub r.feed = false) :
    deliver l arrival (.picture r) s = s := by
  rw [deliver, pictureToChannel_elsewhere (h 0), pictureToChannel_elsewhere (h 1)]

theorem deliver_lines_elsewhere {l : LaneNo} {arrival : Time} {r : LinesRecord} {s : State}
    (h : ∀ k g, chanConfig s k = some g → ofWindow ⟨s.now, g⟩ (chan s k) (.lane l) r.origin r.pub r.feed = false) :
    deliver l arrival (.lines r) s = s := by
  rw [deliver, linesToChannel_elsewhere (h 0), linesToChannel_elsewhere (h 1)]

/-! ## The statement -/

/-- Settles O25: each way to fail is one check of the record checker, and a record of no window leaves both channels. -/
theorem recordsThatReachNoBlock : Obligations.RecordsThatReachNoBlock := by
  refine ⟨fun dt flight l words s some code e w hw hcode fails => ?_,
    fun dt flight l words s origin pub feed record elsewhere => ?_⟩
  · suffices check : checkRecord words = .error e by
      rw [recordReceived_eq dt flight l s some, receiveRecord_error _ check]
      rfl
    have kind : field (wordAt words 0) 12 4 = code := by rw [field_type, wordAt_eq hw, hcode]
    obtain ⟨unknown, rfl⟩ | ⟨⟨h, length, short⟩, rfl⟩ | ⟨⟨h, length, long, wrong⟩, rfl⟩ |
      ⟨⟨h, length, long, other, right⟩, rfl⟩ | ⟨⟨h, length, long, right, bad⟩, rfl⟩ := fails
    · exact checkRecord_unknown (by rw [kind]; exact headerLength_none unknown)
    · exact checkRecord_short (by rw [kind]; exact length) short
    · exact checkRecord_crcWrong (by rw [kind]; exact length) long wrong
    · have header : headerLength (field (wordAt words 0) 12 4) = .some h := by rw [kind]; exact length
      refine checkRecord_unread header long.le right fun r m read => ?_
      rw [readKind_length header (by rw [kind]; exact other) read]
      exact long.ne'
    · exact checkRecord_unread (by rw [kind]; exact length) long right fun r m => readKind_bad hw kind bad r m
  · have apart (k : Chan) (now : Time) (g : ChanConfig) (config : chanConfig s k = some g) :
        ofWindow ⟨now, g⟩ (chan s k) (.lane l) origin pub feed = false :=
      ofWindow_false fun q aim => elsewhere k q g aim config
    obtain ⟨p, check, rfl, rfl, rfl⟩ | ⟨x, check, rfl, rfl, rfl⟩ := record
    · rw [recordReceived_eq dt flight l s (words_of_ok check), receiveRecord_ok _ check]
      exact congrArg (fun t => Host.Outcome.next (conclude t)) (deliver_picture_elsewhere
        (s := onLane l (countLane · .rxRecords) (advance dt s)) fun k g => apart k _ g)
    · rw [recordReceived_eq dt flight l s (words_of_ok check), receiveRecord_ok _ check]
      exact congrArg (fun t => Host.Outcome.next (conclude t)) (deliver_lines_elsewhere
        (s := onLane l (countLane · .rxRecords) (advance dt s)) fun k g => apart k _ g)

end Sys2Proof.Machine
end

section
/-! The header CRC tells one wrong bit (01/R2, R4): each bit and each word goes through the register injectively. -/

namespace Sys2Proof.Machine

/-! ## Folds that tell one changed entry -/

theorem foldl_injective {α β : Type} {f : α → β → α} (inj : ∀ b, Function.Injective (f · b)) (l : List β) :
    Function.Injective (l.foldl f) := by
  induction l with
  | nil => exact Function.injective_id
  | cons b l ih => exact ih.comp (inj b)

/-- Where a fold's step is injective in the register and tells `g b` from `b`, the fold tells one entry so changed. -/
theorem foldl_modify_ne {α β : Type} {f : α → β → α} {g : β → β} (inj : ∀ b, Function.Injective (f · b))
    (tells : ∀ a b, f a (g b) ≠ f a b) {l : List β} {i : Nat} (h : i < l.length) (a : α) :
    (l.modify i g).foldl f a ≠ l.foldl f a := by
  obtain ⟨before, b, after, rfl, -, changed⟩ := List.exists_of_modify g h
  rw [changed, List.foldl_append, List.foldl_append, List.foldl_cons, List.foldl_cons]
  exact (foldl_injective inj after).ne (tells _ b)

/-! ## The CRC register (01/R2) -/

/-- The feedback bit is the register's new low bit, since 4129 is odd. -/
theorem crcBit_low (reg : Word) (b : Bool) : (crcBit reg b).getLsbD 0 = (reg.msb ^^ b) := by
  unfold crcBit
  split
  · next h => simp [h]
  · next h => simp [h]

theorem crcBit_injective (b : Bool) : Function.Injective (crcBit · b) := by
  intro x y h
  have low : (x.msb ^^ b) = (y.msb ^^ b) := by rw [← crcBit_low, ← crcBit_low]; exact congrArg (·.getLsbD 0) h
  have high : x.msb = y.msb := by simpa using low
  have shifted : x <<< 1 = y <<< 1 := by
    simp only [crcBit, high] at h
    split at h
    · exact (BitVec.xor_left_inj _).mp h
    · exact h
  refine BitVec.eq_of_getLsbD_eq fun i hi => ?_
  by_cases last : i = 15
  · rw [last]
    simpa [BitVec.msb_eq_getLsbD_last] using high
  · have := congrArg (·.getLsbD (i + 1)) shifted
    simpa [← BitVec.getLsbD_eq_getElem, show i + 1 < 16 by omega] using this

theorem crcBit_not (reg : Word) (b : Bool) : crcBit reg (!b) ≠ crcBit reg b := by
  intro h
  have low := congrArg (·.getLsbD 0) h
  simp only [crcBit_low] at low
  simp at low

theorem crcWord_injective (w : Word) : Function.Injective (crcWord · w) := foldl_injective crcBit_injective _

/-- A word with one bit wrong. -/
def flipBit (bit : Nat) (w : Word) : Word := w ^^^ BitVec.ofNat 16 (2 ^ bit)

theorem flipBit_getLsbD {bit : Nat} (w : Word) (j : Nat) (h : j < 16) :
    (flipBit bit w).getLsbD j = (w.getLsbD j ^^ decide (bit = j)) := by
  rw [flipBit, BitVec.getLsbD_xor, BitVec.getLsbD_ofNat, Nat.testBit_two_pow, decide_eq_true h, Bool.true_and]

theorem wordBits_flipBit {bit : Nat} (h : bit < 16) (w : Word) :
    wordBits (flipBit bit w) = (wordBits w).modify (15 - bit) (!·) := by
  refine List.ext_getElem (by simp [wordBits]) fun i hi _ => ?_
  have small : i < 16 := by simpa [wordBits] using hi
  rw [List.getElem_modify]
  simp only [wordBits, List.getElem_map, List.getElem_range, flipBit_getLsbD w (15 - i) (by omega)]
  by_cases here : bit = 15 - i
  · simp [here, show 15 - (15 - i) = i by omega]
  · simp [here, show 15 - bit ≠ i by omega]

theorem crcWord_flipBit {bit : Nat} (h : bit < 16) (reg w : Word) : crcWord reg (flipBit bit w) ≠ crcWord reg w := by
  unfold crcWord
  rw [wordBits_flipBit h]
  exact foldl_modify_ne crcBit_injective crcBit_not (by simp [wordBits]; omega) reg

/-- One wrong bit in the header changes its CRC. -/
theorem crc_flipBit {bit i : Nat} {ws : List Word} (h : bit < 16) (hi : i < ws.length) :
    crc (ws.modify i (flipBit bit)) ≠ crc ws :=
  foldl_modify_ne crcWord_injective (crcWord_flipBit h) hi 65535

theorem flipBit_ne {bit : Nat} (h : bit < 16) (w : Word) : flipBit bit w ≠ w := by
  intro same
  have := congrArg (·.getLsbD bit) same
  rw [flipBit_getLsbD w bit h] at this
  simp at this

/-- A wrong bit outside the type field leaves the type. -/
theorem flipBit_type {bit : Nat} (h : bit < 12) (w : Word) : field (flipBit bit w) 12 4 = field w 12 4 := by
  rw [field_type, field_type]
  have small : 2 ^ bit < 4096 := Nat.pow_lt_pow_right (by decide) h (a := 2)
  have shift : ∀ n, n / 4096 = n >>> 12 := fun n => (Nat.shiftRight_eq_div_pow n 12).symm
  have gone : (2 ^ bit % 2 ^ 16) >>> 12 = 0 := by
    rw [Nat.mod_eq_of_lt (by omega), ← shift, Nat.div_eq_of_lt small]
  rw [shift, shift, flipBit, BitVec.toNat_xor, Nat.shiftRight_xor_distrib, BitVec.toNat_ofNat, gone, Nat.xor_zero]

/-! ## The header of an encoded record (01/1.3) -/

/-- The type number of a record's kind (01/R4). -/
def kindCode : LinkRecord → Nat
  | .beacon _ => 1
  | .call _ => 2
  | .picture _ => 3
  | .lines _ => 4

theorem headerLength_kindCode (r : LinkRecord) : headerLength (kindCode r) = some ((headerWords r).length + 1) := by
  cases r with
  | beacon b =>
    have (e : PubEntry) : (entryWords e).length = 2 := by unfold entryWords; split <;> rfl
    simp [headerWords, kindCode, headerLength, timeWords, this]
  | _ => rfl

theorem encodeRecord_type (r : LinkRecord) : field (wordAt (encodeRecord r) 0) 12 4 = kindCode r := by
  rw [field_type]
  cases r with
  | beacon b =>
    show (BitVec.ofNat 16 _).toNat / 4096 = 1
    have := b.epoch.isLt
    rw [BitVec.toNat_ofNat]
    split <;> omega
  | call c =>
    show (BitVec.ofNat 16 _).toNat / 4096 = 2
    rw [BitVec.toNat_ofNat]
    omega
  | picture p =>
    show (BitVec.ofNat 16 _).toNat / 4096 = 3
    rw [BitVec.toNat_ofNat]
    omega
  | lines l =>
    show (BitVec.ofNat 16 _).toNat / 4096 = 4
    rw [BitVec.toNat_ofNat]
    split <;> omega

theorem encodeRecord_header (r : LinkRecord) : (encodeRecord r).take (headerWords r).length = headerWords r := by
  rw [encodeRecord, List.append_assoc, List.take_left]

theorem encodeRecord_crc (r : LinkRecord) : (encodeRecord r)[(headerWords r).length]? = some (crc (headerWords r)) := by
  simp [encodeRecord]

theorem encodeRecord_long (r : LinkRecord) : (headerWords r).length + 1 ≤ (encodeRecord r).length := by
  simp [encodeRecord]

theorem modify_type {f : Word → Word} {i : Nat} (ws : List Word) (h : i = 0 → ∀ w, field (f w) 12 4 = field w 12 4) :
    field (wordAt (ws.modify i f) 0) 12 4 = field (wordAt ws 0) 12 4 := by
  match ws, i with
  | [], _ => rw [List.modify_nil]
  | w :: _, 0 => exact h rfl w
  | _ :: _, _ + 1 => rfl

/-! ## The statement -/

/-- Settles O16: a wrong header bit changes the CRC of the header but not its CRC word, and a wrong bit of the CRC word
the other way round; neither changes the type. -/
theorem oneWrongBitFailsTheCrc : Obligations.OneWrongBitFailsTheCrc := by
  intro r i bit _ place hbit outside
  change checkRecord ((encodeRecord r).modify i (flipBit bit)) = _
  have type : field (wordAt ((encodeRecord r).modify i (flipBit bit)) 0) 12 4 = kindCode r := by
    rw [← encodeRecord_type r]
    exact modify_type _ fun first => flipBit_type (by omega)
  refine checkRecord_crcWrong (by rw [type]; exact headerLength_kindCode r)
    (by rw [List.length_modify]; exact encodeRecord_long r) ?_
  rw [Nat.add_sub_cancel, List.take_modify, encodeRecord_header, wordAt, List.getD_eq_getElem?_getD, List.getElem?_modify,
    encodeRecord_crc]
  obtain header | word := Nat.lt_or_eq_of_le place
  · simpa [header.ne] using (crc_flipBit hbit header).symm
  · rw [word, List.modify_eq_self le_rfl]
    simpa using flipBit_ne hbit _

end Sys2Proof.Machine
end

section
/-! Records and management commands are read back as they were written (01/R1 to R4, 1.3, 12/R197, R199). -/

namespace Sys2Proof.Machine

/-! ## Fields and words read back -/

theorem field_ofNat (n : Nat) {lo len : Nat} (h : lo + len ≤ 16) :
    field (BitVec.ofNat 16 n) lo len = n / 2 ^ lo % 2 ^ len := by
  obtain ⟨rest, e⟩ := Nat.exists_eq_add_of_le h
  have split : 2 ^ 16 = 2 ^ lo * (2 ^ len * 2 ^ rest) := by rw [← Nat.pow_add, ← Nat.pow_add, e, Nat.add_assoc]
  rw [field, BitVec.toNat_ofNat, split, Nat.mod_mul_right_div_self, Nat.mod_mul_right_mod]

theorem timeOfWords_timeWords (t : Time) :
    timeOfWords (BitVec.ofNat 16 (t.toNat / 2 ^ 32)) (BitVec.ofNat 16 (t.toNat / 2 ^ 16)) (BitVec.ofNat 16 t.toNat) = t := by
  refine BitVec.eq_of_toNat_eq ?_
  have := t.isLt
  simp only [timeOfWords, BitVec.toNat_ofNat]
  omega

theorem statusOf_ctorIdx (x : PubStatus) : statusOf x.ctorIdx = some x := by
  cases x <;> rfl

theorem kindOfCode_ctorIdx (x : Kind) : kindOfCode x.ctorIdx = some x := by
  cases x <;> rfl

theorem ctorIdx_status (x : PubStatus) : x.ctorIdx < 5 := by
  cases x <;> decide

theorem ctorIdx_kind (x : Kind) : x.ctorIdx < 3 := by
  cases x <;> decide

theorem standardCode_val (x : StdCode) : standardCode x.val = some x := dif_pos x.isLt

theorem pubIndex_val (x : PubIx) : pubIndex x.val = some x := dif_pos x.isLt

theorem fin_ofNat_val {n : Nat} [NeZero n] (x : Fin n) : Fin.ofNat n x.val = x := Fin.ext (Nat.mod_eq_of_lt x.isLt)

/-! ## A publication entry (01/1.3.1) -/

theorem readEntry_sent {e : PubEntry} {f : FeedNo} (feed : e.feed = some f) (rank : e.rank ≠ 0) :
    readEntry
      (BitVec.ofNat 16 (2 ^ 15 + f.val * 2 ^ 9 + e.rank.val * 2 ^ 6 + e.generation.val * 2 ^ 4 + e.status.ctorIdx * 2))
      (BitVec.ofNat 16 (e.standard.val * 2 ^ 12 + e.sequence.toNat)) = some e := by
  have nonzero : e.rank.val ≠ 0 := fun zero => rank (Fin.ext zero)
  have status := ctorIdx_status e.status
  have sequence := e.sequence.isLt
  have fields (n : Nat) (h : n = 2 ^ 15 + f.val * 2 ^ 9 + e.rank.val * 2 ^ 6 + e.generation.val * 2 ^ 4 + e.status.ctorIdx * 2) :
      n / 2 ^ 15 % 2 ^ 1 = 1 ∧ n / 2 ^ 6 % 2 ^ 3 = e.rank.val ∧ n / 2 ^ 1 % 2 ^ 3 = e.status.ctorIdx
        ∧ n / 2 ^ 9 % 2 ^ 6 = f.val ∧ n / 2 ^ 4 % 2 ^ 2 = e.generation.val := by omega
  have second (n : Nat) (h : n = e.standard.val * 2 ^ 12 + e.sequence.toNat) :
      n / 2 ^ 12 % 2 ^ 4 = e.standard.val ∧ n / 2 ^ 0 % 2 ^ 8 = e.sequence.toNat := by omega
  obtain ⟨hp, hr, hs, hf, hg⟩ := fields _ rfl
  obtain ⟨hd, hq⟩ := second _ rfl
  unfold readEntry
  simp (disch := decide) only [field_ofNat, hp, hr, hs, hf, hg, hd, hq, statusOf_ctorIdx, standardCode_val]
  simp [nonzero, ← feed]

/-- An entry is sent as two words that are read back as the entry. -/
theorem entryWords_read {e : PubEntry} (ok : entryOk e = true) : ∃ x y, entryWords e = [x, y] ∧ readEntry x y = some e := by
  cases feed : e.feed with
  | none =>
    have empty : e = .empty := by simpa [entryOk, feed] using ok
    exact ⟨0, 0, by simp [entryWords, feed], by rw [empty]; rfl⟩
  | some f =>
    exact ⟨_, _, by simp only [entryWords, feed], readEntry_sent feed (by simpa [entryOk, feed] using ok)⟩

/-! ## The records (01/1.3) -/

theorem readBeacon_eq {ws : List Word} {e0 e1 e2 : PubEntry} (h0 : readEntry (wordAt ws 4) (wordAt ws 5) = some e0)
    (h1 : readEntry (wordAt ws 6) (wordAt ws 7) = some e1) (h2 : readEntry (wordAt ws 8) (wordAt ws 9) = some e2) :
    readBeacon ws = some {
      station := Fin.ofNat 8 (field (wordAt ws 0) 9 3), start := field (wordAt ws 0) 8 1 = 1
      epoch := BitVec.ofNat 8 (field (wordAt ws 0) 0 8)
      emission := timeOfWords (wordAt ws 1) (wordAt ws 2) (wordAt ws 3), entries := ⟨[e0, e1, e2], rfl⟩ } := by
  simp [readBeacon, h0, h1, h2]

theorem readBeacon_encode {b : Beacon} (ok : recordOk (.beacon b) = true) :
    readBeacon (encodeRecord (.beacon b)) = some b := by
  simp only [recordOk, Bool.and_eq_true] at ok
  obtain ⟨⟨ok0, ok1⟩, ok2⟩ := ok
  obtain ⟨x0, y0, sent0, read0⟩ := entryWords_read ok0
  obtain ⟨x1, y1, sent1, read1⟩ := entryWords_read ok1
  obtain ⟨x2, y2, sent2, read2⟩ := entryWords_read ok2
  have small := b.epoch.isLt
  have first (n d : Nat) (hd : d < 2) (h : n = 2 ^ 12 + b.station.val * 2 ^ 9 + d * 2 ^ 8 + b.epoch.toNat) :
      n / 2 ^ 9 % 2 ^ 3 = b.station.val ∧ n / 2 ^ 8 % 2 ^ 1 = d ∧ n / 2 ^ 0 % 2 ^ 8 = b.epoch.toNat := by omega
  have startBit : (if b.start then 2 ^ 8 else 0) = b.start.toNat * 2 ^ 8 := by cases b.start <;> rfl
  obtain ⟨station, start, epoch⟩ := first _ b.start.toNat (Bool.toNat_lt _) rfl
  have entries : (⟨[b.entries.get 0, b.entries.get 1, b.entries.get 2], rfl⟩ : Bank 3 PubEntry) = b.entries :=
    Bank.ext_get fun
    | 0 => rfl
    | 1 => rfl
    | 2 => rfl
  have word0 : wordAt (encodeRecord (.beacon b)) 0
      = BitVec.ofNat 16 (2 ^ 12 + b.station.val * 2 ^ 9 + b.start.toNat * 2 ^ 8 + b.epoch.toNat) := by
    rw [← startBit]
    rfl
  have sent : wordAt (encodeRecord (.beacon b)) 4 = x0 ∧ wordAt (encodeRecord (.beacon b)) 5 = y0
      ∧ wordAt (encodeRecord (.beacon b)) 6 = x1 ∧ wordAt (encodeRecord (.beacon b)) 7 = y1
      ∧ wordAt (encodeRecord (.beacon b)) 8 = x2 ∧ wordAt (encodeRecord (.beacon b)) 9 = y2 := by
    simp [encodeRecord, headerWords, timeWords, wordAt, sent0, sent1, sent2]
  obtain ⟨w4, w5, w6, w7, w8, w9⟩ := sent
  have stamp : timeOfWords (wordAt (encodeRecord (.beacon b)) 1) (wordAt (encodeRecord (.beacon b)) 2)
      (wordAt (encodeRecord (.beacon b)) 3) = b.emission := timeOfWords_timeWords b.emission
  rw [readBeacon_eq (by rw [w4, w5]; exact read0) (by rw [w6, w7]; exact read1) (by rw [w8, w9]; exact read2), entries,
    stamp, word0]
  simp (disch := decide) only [field_ofNat, station, start, epoch, fin_ofNat_val, BitVec.ofNat_toNat, BitVec.setWidth_eq]
  simp

theorem readCall_encode {c : CallRecord} (ok : recordOk (.call c) = true) :
    readCall (encodeRecord (.call c)) = some c := by
  have apart : c.caller ≠ c.target := by simpa [recordOk] using ok
  have small := c.duration.isLt
  have first (n : Nat) (h : n = 2 * 2 ^ 12 + c.caller.val * 2 ^ 9 + c.target.val * 2 ^ 6 + c.feed.val) :
      n / 2 ^ 9 % 2 ^ 3 = c.caller.val ∧ n / 2 ^ 6 % 2 ^ 3 = c.target.val ∧ n / 2 ^ 0 % 2 ^ 6 = c.feed.val := by omega
  obtain ⟨caller, target, feed⟩ := first _ rfl
  have duration : c.duration.toNat / 2 ^ 0 % 2 ^ 8 = c.duration.toNat := by omega
  have word0 : wordAt (encodeRecord (.call c)) 0
      = BitVec.ofNat 16 (2 * 2 ^ 12 + c.caller.val * 2 ^ 9 + c.target.val * 2 ^ 6 + c.feed.val) := rfl
  have word1 : wordAt (encodeRecord (.call c)) 1 = BitVec.ofNat 16 c.duration.toNat := rfl
  unfold readCall
  rw [word0, word1]
  simp (disch := decide) only [field_ofNat, caller, target, feed, duration, fin_ofNat_val]
  rw [if_neg fun same => apart (Fin.ext same), BitVec.ofNat_toNat, BitVec.setWidth_eq]

theorem readPicture_encode {p : PictureRecord} (ok : recordOk (.picture p) = true) :
    readPicture (encodeRecord (.picture p)) = some p := by
  simp only [recordOk, Bool.and_eq_true, decide_eq_true_eq] at ok
  obtain ⟨⟨⟨⟨⟨standard, some⟩, few⟩, two⟩, short⟩, even⟩ := ok
  have kinds := ctorIdx_kind p.kind
  have small := p.sequence.isLt
  have first (n : Nat) (h : n = 3 * 2 ^ 12 + p.origin.val * 2 ^ 9 + p.pub.val * 2 ^ 7 + p.feed.val * 2) :
      n / 2 ^ 9 % 2 ^ 3 = p.origin.val ∧ n / 2 ^ 7 % 2 ^ 2 = p.pub.val ∧ n / 2 ^ 1 % 2 ^ 6 = p.feed.val := by omega
  have second (n : Nat)
      (h : n = p.sequence.toNat * 2 ^ 8 + p.generation.val * 2 ^ 6 + p.kind.ctorIdx * 2 ^ 4 + p.standard.val) :
      n / 2 ^ 8 % 2 ^ 8 = p.sequence.toNat ∧ n / 2 ^ 6 % 2 ^ 2 = p.generation.val ∧ n / 2 ^ 4 % 2 ^ 2 = p.kind.ctorIdx
        ∧ n / 2 ^ 0 % 2 ^ 4 = p.standard.val := by omega
  obtain ⟨origin, pub, feed⟩ := first _ rfl
  obtain ⟨sequence, generation, kind, std⟩ := second _ rfl
  have lines : p.lines / 2 ^ 0 % 2 ^ 11 = p.lines := by omega
  have samples : p.samples / 2 ^ 0 % 2 ^ 12 = p.samples := by omega
  have word0 : wordAt (encodeRecord (.picture p)) 0
      = BitVec.ofNat 16 (3 * 2 ^ 12 + p.origin.val * 2 ^ 9 + p.pub.val * 2 ^ 7 + p.feed.val * 2) := rfl
  have word1 : wordAt (encodeRecord (.picture p)) 1 = BitVec.ofNat 16
      (p.sequence.toNat * 2 ^ 8 + p.generation.val * 2 ^ 6 + p.kind.ctorIdx * 2 ^ 4 + p.standard.val) := rfl
  have stamp : timeOfWords (wordAt (encodeRecord (.picture p)) 2) (wordAt (encodeRecord (.picture p)) 3)
      (wordAt (encodeRecord (.picture p)) 4) = p.stamp := timeOfWords_timeWords p.stamp
  have word5 : wordAt (encodeRecord (.picture p)) 5 = BitVec.ofNat 16 p.lines := rfl
  have word6 : wordAt (encodeRecord (.picture p)) 6 = BitVec.ofNat 16 p.samples := rfl
  unfold readPicture
  simp (disch := decide) only [stamp, word0, word1, word5, word6, field_ofNat, origin, pub, feed, sequence, generation, kind,
    std, lines, samples, pubIndex_val, kindOfCode_ctorIdx, standardCode_val, fin_ofNat_val, BitVec.ofNat_toNat,
    BitVec.setWidth_eq, Option.bind_eq_bind, Option.bind_some]
  exact if_neg (by simp only [not_or]; exact ⟨standard, by omega, by omega, by omega, by omega, by omega⟩)

/-! ## The payload of a LINES record (01/R3) -/

theorem payloadSample_sent {v : Sample} (ok : sampleOk v = true) :
    payloadSample (BitVec.ofNat 16 (clampSent v).toNat) = v := by
  obtain ⟨low, high⟩ : 4 ≤ v.toNat ∧ v.toNat ≤ 1019 := by simpa [sampleOk] using ok
  have kept : clampSent v = v := by
    rw [clampSent, clampNat, if_neg (by omega), if_neg (by omega), BitVec.ofNat_toNat, BitVec.setWidth_eq]
  have small : v.toNat / 2 ^ 0 % 2 ^ 10 = v.toNat := by omega
  rw [kept, payloadSample, field_ofNat _ (by decide), small, BitVec.ofNat_toNat, BitVec.setWidth_eq]

theorem readGroups_sent {gs : List SampleGroup} (ok : gs.all groupOk = true) : readGroups (gs.flatMap groupWords) = gs := by
  induction gs with
  | nil => rfl
  | cons g gs ih =>
    rw [List.all_cons, Bool.and_eq_true] at ok
    obtain ⟨group, rest⟩ := ok
    simp only [groupOk, Bool.and_eq_true] at group
    obtain ⟨⟨⟨cb, y0⟩, cr⟩, y1⟩ := group
    rw [List.flatMap_cons]
    show (⟨_, _, _, _⟩ :: readGroups (gs.flatMap groupWords) : List SampleGroup) = g :: gs
    rw [ih rest, payloadSample_sent cb, payloadSample_sent y0, payloadSample_sent cr, payloadSample_sent y1]

theorem flatMap_groupWords_length (gs : List SampleGroup) : (gs.flatMap groupWords).length = 4 * gs.length := by
  induction gs with
  | nil => rfl
  | cons g gs ih =>
    rw [List.flatMap_cons, List.length_append, ih, List.length_cons]
    show 4 + _ = _
    omega

theorem readLines_encode {l : LinesRecord} (ok : recordOk (.lines l) = true) :
    readLines (encodeRecord (.lines l)) = some (l, 2 * l.groups.length) := by
  simp only [recordOk, Bool.and_eq_true, decide_eq_true_eq] at ok
  obtain ⟨⟨⟨⟨⟨line, even⟩, some⟩, few⟩, inside⟩, groups⟩ := ok
  have small := l.sequence.isLt
  have lastBit : (if l.last then 1 else 0) = l.last.toNat := by cases l.last <;> rfl
  have first (n d : Nat) (hd : d < 2)
      (h : n = 4 * 2 ^ 12 + l.origin.val * 2 ^ 9 + l.pub.val * 2 ^ 7 + l.feed.val * 2 + d) :
      n / 2 ^ 9 % 2 ^ 3 = l.origin.val ∧ n / 2 ^ 7 % 2 ^ 2 = l.pub.val ∧ n / 2 ^ 1 % 2 ^ 6 = l.feed.val
        ∧ n / 2 ^ 0 % 2 ^ 1 = d := by omega
  obtain ⟨origin, pub, feed, last⟩ := first _ l.last.toNat (Bool.toNat_lt _) rfl
  have sequence : l.sequence.toNat * 2 ^ 8 / 2 ^ 8 % 2 ^ 8 = l.sequence.toNat := by
    rw [Nat.mul_div_cancel _ (by decide), Nat.mod_eq_of_lt small]
  have lineKept : l.line / 2 ^ 0 % 2 ^ 11 = l.line := by omega
  have firstKept : l.first / 2 ^ 0 % 2 ^ 11 = l.first := by omega
  have count : 2 * l.groups.length / 2 ^ 0 % 2 ^ 9 = 2 * l.groups.length := by omega
  have word0 : wordAt (encodeRecord (.lines l)) 0 = BitVec.ofNat 16
      (4 * 2 ^ 12 + l.origin.val * 2 ^ 9 + l.pub.val * 2 ^ 7 + l.feed.val * 2 + l.last.toNat) := by
    rw [← lastBit]
    rfl
  have word1 : wordAt (encodeRecord (.lines l)) 1 = BitVec.ofNat 16 (l.sequence.toNat * 2 ^ 8) := rfl
  have word2 : wordAt (encodeRecord (.lines l)) 2 = BitVec.ofNat 16 l.line := rfl
  have word3 : wordAt (encodeRecord (.lines l)) 3 = BitVec.ofNat 16 l.first := rfl
  have word4 : wordAt (encodeRecord (.lines l)) 4 = BitVec.ofNat 16 (2 * l.groups.length) := rfl
  have payload : ((encodeRecord (.lines l)).drop 6).take (2 * (2 * l.groups.length)) = l.groups.flatMap groupWords := by
    show (l.groups.flatMap groupWords).take _ = _
    exact List.take_of_length_le (by rw [flatMap_groupWords_length]; omega)
  unfold readLines
  simp (disch := decide) only [word0, word1, word2, word3, word4, field_ofNat, origin, pub, feed, last, sequence, lineKept,
    firstKept, count, payload, readGroups_sent groups, pubIndex_val, fin_ofNat_val, BitVec.ofNat_toNat, BitVec.setWidth_eq,
    Option.bind_eq_bind, Option.bind_some]
  rw [if_neg (by omega)]
  simp

/-! ## Whole records -/

/-- The number of words of a record of each kind (01/1.3). -/
def sentLength : LinkRecord → Nat
  | .beacon _ => 11
  | .call _ => 3
  | .picture _ => 8
  | .lines l => 6 + 4 * l.groups.length

theorem encodeRecord_length (r : LinkRecord) : (encodeRecord r).length = sentLength r := by
  have parts : (encodeRecord r).length = ((headerWords r).length + 1) + (payloadWords r).length := by
    rw [encodeRecord, List.length_append, List.length_append, List.length_singleton]
  have header := headerLength_kindCode r
  rw [parts]
  cases r with
  | lines l => exact congrArg (6 + ·) (flatMap_groupWords_length l.groups)
  | beacon b => exact (Option.some.inj header).symm
  | call c => rfl
  | picture p => rfl

theorem readKind_encode {r : LinkRecord} (ok : recordOk r = true) : readKind (encodeRecord r) = some (r, sentLength r) := by
  unfold readKind
  rw [encodeRecord_type]
  cases r with
  | beacon b =>
    show (readBeacon _).map _ = _
    rw [readBeacon_encode ok]
    rfl
  | call c =>
    show (readCall _).map _ = _
    rw [readCall_encode ok]
    rfl
  | picture p =>
    show (readPicture _).map _ = _
    rw [readPicture_encode ok]
    rfl
  | lines l =>
    show (readLines _).map _ = _
    rw [readLines_encode ok]
    show some (_, 6 + 2 * (2 * _)) = some (_, 6 + 4 * _)
    rw [← Nat.mul_assoc]

theorem checkRecord_encode {r : LinkRecord} (ok : recordOk r = true) : checkRecord (encodeRecord r) = .ok r := by
  have header : headerLength (field (wordAt (encodeRecord r) 0) 12 4) = some ((headerWords r).length + 1) := by
    rw [encodeRecord_type]
    exact headerLength_kindCode r
  refine checkRecord_read header (encodeRecord_long r) ?_ (readKind_encode ok) (encodeRecord_length r)
  rw [Nat.add_sub_cancel, encodeRecord_header, wordAt, List.getD_eq_getElem?_getD, encodeRecord_crc, Option.getD_some]

/-! ## Management commands (12/R197, R199) -/

theorem decodeSpi_unknown (dt : Nat) {code : Byte} (args : List Byte) (h : code.toNat = 0 ∨ 9 ≤ code.toNat) :
    decodeSpi dt (code :: args) = some (.unknownCode dt code) := by
  unfold decodeSpi
  dsimp only
  generalize code.toNat = n at h ⊢
  match n, h with
  | 0, _ => rfl
  | n + 9, h => exact if_pos h

theorem decodeSpi_encodeSpi {c : Instr} {bytes : List Byte} (extra : List Byte) (fits : WellFormed c = true)
    (sent : encodeSpi c = some bytes) : decodeSpi c.elapsed (bytes ++ extra) = some c := by
  cases c with
  | unknownCode dt code =>
    obtain rfl := Option.some.inj sent
    have unknown : code = 0 ∨ 9 ≤ code.toNat := by
      simp only [WellFormed, Bool.and_eq_true] at fits
      obtain ⟨⟨⟨-, unknown⟩, -⟩, -⟩ := fits
      simpa [codeUnknown] using unknown
    exact decodeSpi_unknown dt extra (unknown.imp (fun zero => by rw [zero]; rfl) id)
  | readSummary | readChannel | readPeers | readCounters | clearEvents | releaseLatch | forceCopy | restart =>
    obtain rfl := Option.some.inj sent
    rfl
  | _ => cases sent

/-! ## The statement -/

/-- Settles O15: every layout is inverted field by field, and the payload group by group. -/
theorem roundTrips : Obligations.RoundTrips := by
  refine ⟨fun r ok => ⟨checkRecord_encode ok, ?_⟩, fun c bytes extra => decodeSpi_encodeSpi extra⟩
  rw [encodeRecord_length]
  cases r <;> rfl

end Sys2Proof.Machine
end

section
/-! What a taken beacon does to its lane: the qualification of the lane, then the estimate of its offset (02/R17 to R25,
R28 to R32). -/

namespace Sys2Proof.Machine

/-! ## Rounding -/

/-- A sixteenth of a deviation of at most 7 rounds to nothing (02/R30). -/
theorem roundHalfAway_sixteenth {d : Int} (h : d.natAbs ≤ 7) : roundHalfAway d 16 = 0 := by
  unfold roundHalfAway roundHalfUp
  split <;> omega

/-! ## Counters and flags of a lane -/

@[simp] theorem countLane_get_same (x : Lane) (c : LaneCtr) :
    (countLane x c).tally.get (laneCtrIx c) = x.tally.get (laneCtrIx c) + 1 := Bank.get_set_same ..

theorem countLane_get_ne {i : Fin 9} {c : LaneCtr} (h : i ≠ laneCtrIx c) (x : Lane) :
    (countLane x c).tally.get i = x.tally.get i := Bank.get_set_ne _ h _

@[simp] theorem flagLane_get_same (x : Lane) (f : LaneFlag) : (flagLane x f).flags.get (laneFlagIx f) = true :=
  Bank.get_set_same ..

theorem flagLane_get_ne {i : Fin 5} {f : LaneFlag} (h : i ≠ laneFlagIx f) (x : Lane) :
    (flagLane x f).flags.get i = x.flags.get i := Bank.get_set_ne _ h _

/-! ## Qualification (02/R19, R20, R22, R24) -/

theorem sameIdentity_iff {e : PeerEntry} {b : Beacon} :
    sameIdentity e b = true ↔ e.station = some b.station ∧ e.epoch = some b.epoch := by
  simp [sameIdentity]

theorem inTime_iff {e : PeerEntry} {arrival : Time} :
    inTime e arrival = true ↔ ∃ t, e.lastArrival = some t ∧ Machine.sdiff arrival t ≤ 40500 := by
  simp [inTime, Option.any_eq_true]

theorem qualify_fresh {e : PeerEntry} (h : e.state = .silent ∨ e.state = .lapsed) (arrival : Time) (b : Beacon) :
    qualify e arrival b = (.qualifying, 1) := by
  rcases h with h | h <;> simp only [qualify, h]

theorem qualify_counting {e : PeerEntry} (h : e.state = .qualifying) {arrival : Time} {b : Beacon}
    (same : sameIdentity e b = true) (soon : inTime e arrival = true) :
    qualify e arrival b = if 2 ≤ e.count then (.live, 3) else (.qualifying, e.count + 1) := by
  simp [qualify, h, same, soon]

theorem qualify_recount {e : PeerEntry} (h : e.state = .qualifying) {arrival : Time} {b : Beacon}
    (broken : ¬ (sameIdentity e b = true ∧ inTime e arrival = true)) : qualify e arrival b = (.qualifying, 1) := by
  simp [qualify, h, broken]

theorem qualify_stays {e : PeerEntry} (h : e.state = .live) {arrival : Time} {b : Beacon}
    (same : sameIdentity e b = true) (soon : inTime e arrival = true) (mark : b.start = false ∨ e.startMark = true) :
    qualify e arrival b = (.live, 3) := by
  simp [qualify, h, same, soon, mark]

theorem qualify_requalifies {e : PeerEntry} (h : e.state = .live) {arrival : Time} {b : Beacon}
    (broken : ¬ (sameIdentity e b = true ∧ inTime e arrival = true ∧ (b.start = false ∨ e.startMark = true))) :
    qualify e arrival b = (.qualifying, 1) := by
  simp only [qualify, h, Bool.and_eq_true, Bool.or_eq_true, Bool.not_eq_true', and_assoc]
  rw [if_neg broken]

/-- A lane goes LIVE only out of QUALIFYING, by a beacon that is at least the third (02/R20). -/
theorem qualify_becomes_live {e : PeerEntry} {arrival : Time} {b : Beacon} (before : e.state ≠ .live)
    (after : (qualify e arrival b).1 = .live) :
    e.state = .qualifying ∧ 2 ≤ e.count ∧ sameIdentity e b = true ∧ inTime e arrival = true := by
  cases state : e.state with
  | silent => rw [qualify_fresh (.inl state)] at after; cases after
  | lapsed => rw [qualify_fresh (.inr state)] at after; cases after
  | live => exact absurd state before
  | qualifying =>
    by_cases counts : sameIdentity e b = true ∧ inTime e arrival = true
    · obtain ⟨same, soon⟩ := counts
      rw [qualify_counting state same soon] at after
      split at after
      · next third => exact ⟨rfl, third, same, soon⟩
      · cases after
    · rw [qualify_recount state counts] at after
      cases after

/-! ## The parts of a taken beacon (02/R17) -/

/-- The entry takes the beacon's identity and times, and the state and count of its qualification (02/R18, R25). -/
def identified (arrival : Time) (b : Beacon) (x : Lane) : Lane :=
  { x with entry := { x.entry with
    state := (qualify x.entry arrival b).1, count := (qualify x.entry arrival b).2, station := some b.station
    epoch := some b.epoch, startMark := b.start, lastArrival := some arrival
    deadline := some (shift arrival 108000) } }

/-- The lane that goes LIVE is flagged, and the one that leaves LIVE counted (02/R20, R22). -/
def qualified (arrival : Time) (b : Beacon) (x : Lane) : Lane :=
  if x.entry.state = .qualifying ∧ (qualify x.entry arrival b).1 = .live then flagLane (identified arrival b x) .laneLive
  else if x.entry.state = .live ∧ (qualify x.entry arrival b).1 = .qualifying then
    countLane (identified arrival b x) .laneRequalified
  else identified arrival b x

/-- The estimate continues or is initialised, by the entry as the beacon found it (02/R29 to R32). -/
def estimated (e : PeerEntry) (arrival : Time) (b : Beacon) (x : Lane) : Lane :=
  if continues e arrival b then continueOffset (measurementOf arrival b) x
  else initialiseOffset (measurementOf arrival b) x

theorem absorbBeacon_eq (arrival : Time) (b : Beacon) (x : Lane) :
    absorbBeacon arrival b x =
      { estimated x.entry arrival b (qualified arrival b x) with
        entry := { (estimated x.entry arrival b (qualified arrival b x)).entry with entries := b.entries } } := rfl

/-! ## What the qualification leaves -/

/-- The three outcomes of a qualification at the lane's flags and counters. -/
theorem qualified_cases (arrival : Time) (b : Beacon) (x : Lane) (P : Lane → Prop)
    (kept : P (identified arrival b x))
    (live : x.entry.state = .qualifying → (qualify x.entry arrival b).1 = .live →
      P (flagLane (identified arrival b x) .laneLive))
    (requalified : x.entry.state = .live → (qualify x.entry arrival b).1 = .qualifying →
      P (countLane (identified arrival b x) .laneRequalified)) : P (qualified arrival b x) := by
  unfold qualified
  split
  · next h => exact live h.1 h.2
  · split
    · next h => exact requalified h.1 h.2
    · exact kept

@[simp] theorem qualified_entry (arrival : Time) (b : Beacon) (x : Lane) :
    (qualified arrival b x).entry = (identified arrival b x).entry :=
  qualified_cases arrival b x (·.entry = _) rfl (fun _ _ => rfl) (fun _ _ => rfl)

@[simp] theorem qualified_progress (arrival : Time) (b : Beacon) (x : Lane) :
    (qualified arrival b x).progress = x.progress :=
  qualified_cases arrival b x (·.progress = _) rfl (fun _ _ => rfl) (fun _ _ => rfl)

theorem qualified_tally {i : Fin 9} (h : i ≠ laneCtrIx .laneRequalified) (arrival : Time) (b : Beacon) (x : Lane) :
    (qualified arrival b x).tally.get i = x.tally.get i :=
  qualified_cases arrival b x (·.tally.get i = _) rfl (fun _ _ => rfl) (fun _ _ => countLane_get_ne h _)

theorem qualified_flags {i : Fin 5} (h : i ≠ laneFlagIx .laneLive) (arrival : Time) (b : Beacon) (x : Lane) :
    (qualified arrival b x).flags.get i = x.flags.get i :=
  qualified_cases arrival b x (·.flags.get i = _) rfl (fun _ _ => flagLane_get_ne h _) (fun _ _ => rfl)

theorem qualified_laneLive {arrival : Time} {b : Beacon} {x : Lane} (before : x.entry.state = .qualifying)
    (after : (qualify x.entry arrival b).1 = .live) :
    (qualified arrival b x).flags.get (laneFlagIx .laneLive) = true := by
  rw [qualified, if_pos ⟨before, after⟩, flagLane_get_same]

theorem qualified_requalified {arrival : Time} {b : Beacon} {x : Lane} (before : x.entry.state = .live) :
    (qualified arrival b x).tally.get (laneCtrIx .laneRequalified) =
      x.tally.get (laneCtrIx .laneRequalified) + if (qualify x.entry arrival b).1 = .qualifying then 1 else 0 := by
  rw [qualified, if_neg (by rw [before]; exact fun h => nomatch h.1)]
  split
  · next h => rw [if_pos h.2, countLane_get_same]; rfl
  · next h => rw [if_neg fun left => h ⟨before, left⟩, add_zero]; rfl

/-! ## What the estimator leaves (02/R28 to R32) -/

theorem continueOffset_inlier {m : Time} {x : Lane} (h : (Machine.sdiff m x.entry.offset).natAbs ≤ 2700) :
    continueOffset m x = { x with entry := { x.entry with
      offset := shift x.entry.offset (roundHalfAway (Machine.sdiff m x.entry.offset) 16), stepCount := 0 } } :=
  if_pos (decide_eq_true h)

theorem continueOffset_outlier {m : Time} {x : Lane} (h : 2700 < (Machine.sdiff m x.entry.offset).natAbs)
    (first : x.entry.stepCount = 0) :
    continueOffset m x = countLane { x with entry := { x.entry with stepCount := 1 } } .offsetOutlier := by
  simp [continueOffset, inlier, Nat.not_le.mpr h, first]

theorem continueOffset_step {m : Time} {x : Lane} (h : 2700 < (Machine.sdiff m x.entry.offset).natAbs)
    (second : x.entry.stepCount ≠ 0) :
    continueOffset m x =
      flagLane (countLane { x with entry := { x.entry with offset := m, stepCount := 0 } } .timeStep) .timeStep := by
  simp [continueOffset, inlier, Nat.not_le.mpr h, second]

theorem estimated_continues {e : PeerEntry} {arrival : Time} {b : Beacon} (h : continues e arrival b = true) (x : Lane) :
    estimated e arrival b x = continueOffset (arrival - b.emission) x := if_pos h

theorem estimated_initialises {e : PeerEntry} {arrival : Time} {b : Beacon} (h : continues e arrival b = false)
    (x : Lane) : estimated e arrival b x = initialiseOffset (arrival - b.emission) x := if_neg (by rw [h]; nofun)

/-- The estimator counts outliers and time steps, flags time steps, and holds no record. -/
theorem estimated_cases (e : PeerEntry) (arrival : Time) (b : Beacon) (x : Lane) (P : Lane → Prop)
    (entry : ∀ f, P { x with entry := f }) (outlier : ∀ f, P (countLane { x with entry := f } .offsetOutlier))
    (step : ∀ f, P (flagLane (countLane { x with entry := f } .timeStep) .timeStep)) :
    P (estimated e arrival b x) := by
  unfold estimated continueOffset
  split
  · split
    · exact entry _
    · split
      · exact outlier _
      · exact step _
  · exact entry _

@[simp] theorem estimated_progress (e : PeerEntry) (arrival : Time) (b : Beacon) (x : Lane) :
    (estimated e arrival b x).progress = x.progress :=
  estimated_cases e arrival b x (·.progress = _) (fun _ => rfl) (fun _ => rfl) (fun _ => rfl)

theorem estimated_tally {i : Fin 9} (outlier : i ≠ laneCtrIx .offsetOutlier) (step : i ≠ laneCtrIx .timeStep)
    (e : PeerEntry) (arrival : Time) (b : Beacon) (x : Lane) :
    (estimated e arrival b x).tally.get i = x.tally.get i :=
  estimated_cases e arrival b x (·.tally.get i = _) (fun _ => rfl) (fun _ => countLane_get_ne outlier _)
    (fun _ => countLane_get_ne step _)

theorem estimated_flags {i : Fin 5} (h : i ≠ laneFlagIx .timeStep) (e : PeerEntry) (arrival : Time) (b : Beacon)
    (x : Lane) : (estimated e arrival b x).flags.get i = x.flags.get i :=
  estimated_cases e arrival b x (·.flags.get i = _) (fun _ => rfl) (fun _ => rfl) (fun _ => flagLane_get_ne h _)

/-! ## The lane after a taken beacon -/

theorem absorbBeacon_state (arrival : Time) (b : Beacon) (x : Lane) :
    (absorbBeacon arrival b x).entry.state = (qualify x.entry arrival b).1 := by
  obtain ⟨offset, steps, -, e⟩ := absorbBeacon_entry arrival b x
  rw [e]

theorem absorbBeacon_count (arrival : Time) (b : Beacon) (x : Lane) :
    (absorbBeacon arrival b x).entry.count = (qualify x.entry arrival b).2 := by
  obtain ⟨offset, steps, -, e⟩ := absorbBeacon_entry arrival b x
  rw [e]

/-- The state and count that a lane is left in, read off its qualification. -/
theorem absorbBeacon_qualified {arrival : Time} {b : Beacon} {x : Lane} {st : LaneState} {n : Nat}
    (h : qualify x.entry arrival b = (st, n)) :
    (absorbBeacon arrival b x).entry.state = st ∧ (absorbBeacon arrival b x).entry.count = n := by
  rw [absorbBeacon_state, absorbBeacon_count, h]
  exact ⟨rfl, rfl⟩

theorem absorbBeacon_progress (arrival : Time) (b : Beacon) (x : Lane) :
    (absorbBeacon arrival b x).progress = x.progress := by
  rw [absorbBeacon_eq, estimated_progress, qualified_progress]

theorem absorbBeacon_rxRecords (arrival : Time) (b : Beacon) (x : Lane) :
    (absorbBeacon arrival b x).tally.get (laneCtrIx .rxRecords) = x.tally.get (laneCtrIx .rxRecords) := by
  rw [absorbBeacon_eq, estimated_tally (by decide) (by decide), qualified_tally (by decide)]

theorem absorbBeacon_laneLive {arrival : Time} {b : Beacon} {x : Lane} (before : x.entry.state = .qualifying)
    (after : (qualify x.entry arrival b).1 = .live) :
    (absorbBeacon arrival b x).flags.get (laneFlagIx .laneLive) = true := by
  rw [absorbBeacon_eq, estimated_flags (by decide), qualified_laneLive before after]

theorem absorbBeacon_requalified {arrival : Time} {b : Beacon} {x : Lane} (before : x.entry.state = .live) :
    (absorbBeacon arrival b x).tally.get (laneCtrIx .laneRequalified) =
      x.tally.get (laneCtrIx .laneRequalified) + if (qualify x.entry arrival b).1 = .qualifying then 1 else 0 := by
  rw [absorbBeacon_eq, estimated_tally (by decide) (by decide), qualified_requalified before]

/-! ## The statements -/

/-- Settles O27: each clause is one line of the qualification table. -/
theorem laneQualification : Obligations.LaneQualification := by
  rintro arrival b x y same soon rfl hsame hsoon
  rw [← sameIdentity_iff] at hsame
  rw [← inTime_iff] at hsoon
  rw [hsame, hsoon]
  refine ⟨fun fresh => ?_, fun state same soon one => ?_, fun state same soon two => ?_, fun state broken => ?_,
    fun state same soon mark => ?_, fun state broken => ?_⟩
  · exact absorbBeacon_qualified (qualify_fresh fresh arrival b)
  · have counts := qualify_counting state same soon
    rw [one] at counts
    exact absorbBeacon_qualified counts
  · have counts := qualify_counting state same soon
    rw [two] at counts
    obtain ⟨live, three⟩ := absorbBeacon_qualified counts
    exact ⟨live, three, absorbBeacon_laneLive state (congrArg Prod.fst counts)⟩
  · exact absorbBeacon_qualified (qualify_recount state broken)
  · have stays := qualify_stays state same soon mark
    obtain ⟨live, three⟩ := absorbBeacon_qualified stays
    refine ⟨live, three, ?_⟩
    rw [absorbBeacon_requalified state, stays, if_neg nofun, add_zero]
  · have leaves := qualify_requalifies state broken
    obtain ⟨qualifying, one⟩ := absorbBeacon_qualified leaves
    refine ⟨qualifying, one, ?_⟩
    rw [absorbBeacon_requalified state, leaves, if_pos rfl]

/-- The estimate goes on by the tables of the lane states (02/R19, R20, R22, R24). -/
theorem continues_iff {e : PeerEntry} {arrival : Time} {b : Beacon} :
    continues e arrival b = true ↔ e.station = some b.station ∧ e.epoch = some b.epoch
      ∧ (e.state = .qualifying ∨ e.state = .live ∧ (b.start = false ∨ e.startMark = true ∧ inTime e arrival = true)
        ∨ e.state = .lapsed ∧ b.start = false) := by
  rw [← and_assoc, ← sameIdentity_iff]
  cases state : e.state with
  | silent => simp [continues, state]
  | qualifying => simp [continues, state]
  | live => cases soon : inTime e arrival <;> simp [continues, state, soon]
  | lapsed => simp [continues, state]

/-- Settles O29: qualification leaves the estimate, and the estimator's three cases each write out one outcome. -/
theorem offsetEstimate : Obligations.OffsetEstimate := by
  refine ⟨?_, ?_⟩
  · rintro arrival b x y d goesOn rfl rfl
    rw [absorbBeacon_eq, estimated_continues goesOn]
    refine ⟨fun inlier => ?_, fun outlier first => ?_⟩
    · rw [continueOffset_inlier (by rw [qualified_entry]; exact inlier), qualified_entry]
      refine ⟨rfl, rfl, fun small => ?_⟩
      exact (congrArg (shift x.entry.offset) (roundHalfAway_sixteenth small)).trans (shift_zero _)
    · rw [continueOffset_outlier (by rw [qualified_entry]; exact outlier) (by rw [qualified_entry]; exact first),
        qualified_entry]
      refine ⟨rfl, rfl, ?_, fun f other => qualified_flags other arrival b x⟩
      exact (countLane_get_same ..).trans (congrArg (· + 1) (qualified_tally (by decide) arrival b x))
  · rintro arrival b x y rfl
    rw [absorbBeacon_eq]
    refine ⟨fun goesOn second outlier => ?_, fun begins => ?_, continues_iff⟩
    · rw [estimated_continues goesOn, continueOffset_step (by rw [qualified_entry]; exact outlier)
        (by rw [qualified_entry]; exact second)]
      refine ⟨rfl, rfl, flagLane_get_same .., ?_⟩
      exact (countLane_get_same ..).trans (congrArg (· + 1) (qualified_tally (by decide) arrival b x))
    · rw [estimated_initialises begins]
      exact ⟨rfl, rfl, qualified_flags (by decide) arrival b x, qualified_tally (by decide) arrival b x,
        qualified_tally (by decide) arrival b x⟩

end Sys2Proof.Machine
end

section
/-! What the commands do to the peer entries: a beacon taken, the three deadlines, and nothing else but RESTART (02/R17 to
R26, R35). -/

namespace Sys2Proof.Machine

/-! ## Lanes through the shared operations -/

theorem WithinLink.lane {s t : State} (h : WithinLink s t) (l : LaneNo) : Machine.lane t l = Machine.lane s l :=
  congrArg (Bank.get · l) h.lanes

theorem onLane_onLane (l : LaneNo) (f g : Lane → Lane) (s : State) :
    onLane l f (onLane l g s) = onLane l (fun x => f (g x)) s := by
  unfold onLane Bank.modify
  dsimp only
  rw [Bank.get_set_same, bank_set_set]

theorem WithinChannels.ite {s t u : State} {c : Prop} [Decidable c] (ht : WithinChannels s t) (hu : WithinChannels s u) :
    WithinChannels s (if c then t else u) := by
  split
  · exact ht
  · exact hu

theorem stepNotice_within (l : LaneNo) (k : Chan) (s : State) : WithinChannels s (stepNotice l k s) :=
  .ite (onChan_within ..) (.refl s)

theorem deferReport_within (l : LaneNo) (k : Chan) (s : State) : WithinChannels s (deferReport l k s) := by
  unfold deferReport
  split
  · exact .ite (.ite ((onChan_within ..).trans (onChan_within ..)) (onChan_within ..)) (.refl s)
  · exact .refl s

theorem followGeneration_within (l : LaneNo) (q : Option Copy) (k : Chan) (s : State) :
    WithinChannels s (followGeneration l q k s) := by
  unfold followGeneration
  split
  · exact .ite (onChan_within ..) (.refl s)
  · exact .refl s

theorem leftLive_within (e : PeerEntry) (l : LaneNo) (s : State) : WithinLink s (leftLive e l s) := by
  unfold leftLive
  split
  · split
    · exact .refl s
    · exact onPub_within ..
  · exact .refl s

theorem takeCall_within (l : LaneNo) (r : CallRecord) (s : State) : WithinLink s (takeCall l r s) := by
  unfold takeCall
  split
  · exact .refl s
  split
  · exact onPub_within ..
  split
  · exact onPub_within ..
  · split <;> exact onPub_within ..

/-! ## A beacon received (02/R17) -/

/-- A taken beacon changes one lane; the reports reach channels, calls and demand only (02/R26). -/
theorem takeBeacon_within (l : LaneNo) (arrival : Time) (b : Beacon) (s : State) :
    WithinLink (onLane l (absorbBeacon arrival b) s) (takeBeacon l arrival b s) := by
  have noticed (t : State) :
      WithinChannels t (if stepsOn (lane s l).entry arrival b then stepNotice l 1 (stepNotice l 0 t) else t) :=
    .ite ((stepNotice_within ..).trans (stepNotice_within ..)) (.refl t)
  have reported (t : State) : WithinChannels t (rejudgeBoth (deferReport l 1 (deferReport l 0 t))) :=
    ((deferReport_within ..).trans (deferReport_within ..)).trans (rejudgeBoth_within _)
  have followed (t : State) :
      WithinChannels t (followGeneration l (selectionOf s 1) 1 (followGeneration l (selectionOf s 0) 0 t)) :=
    (followGeneration_within ..).trans (followGeneration_within ..)
  exact (((noticed _).trans (reported _)).trans (followed _)).link.trans (leftLive_within ..)

/-- A counted beacon of another station leaves its lane as the beacon makes it, and every other lane. -/
theorem takeBeacon_lane (l : LaneNo) (arrival : Time) (b : Beacon) (s : State) :
    let t := takeBeacon l arrival b (onLane l (countLane · .rxRecords) s)
    lane t l = absorbBeacon arrival b (countLane (lane s l) .rxRecords) ∧ ∀ m, m ≠ l → lane t m = lane s m := by
  have within := takeBeacon_within l arrival b (onLane l (countLane · .rxRecords) s)
  refine ⟨?_, fun m other => ?_⟩
  · rw [within.lane, lane_onLane, lane_onLane]
  · rw [within.lane, lane_onLane_ne other, lane_onLane_ne other]

theorem receive_clash {words : List Word} {b : Beacon} (h : checkRecord words = .ok (.beacon b)) {s : State}
    (own : ownNumber s = some b.station) (l : LaneNo) (flight : Nat) :
    receive l flight words s
      = onLane l (fun x => flagLane (countLane (countLane x .rxRecords) .stationClash) .stationClash) s := by
  rw [receive, if_neg (words_of_ok h), receiveRecord_ok s h]
  exact (if_pos own).trans (onLane_onLane ..)

theorem receive_taken {words : List Word} {b : Beacon} (h : checkRecord words = .ok (.beacon b)) {s : State}
    (other : ownNumber s ≠ some b.station) (l : LaneNo) (flight : Nat) :
    receive l flight words s
      = takeBeacon l (s.now - BitVec.ofNat 48 flight) b (onLane l (countLane · .rxRecords) s) := by
  rw [receive, if_neg (words_of_ok h), receiveRecord_ok s h]
  exact if_neg other

/-- Settles O26: a beacon is a clash or is taken by `absorbBeacon`, whose entry is the beacon's. -/
theorem beaconReceived : Obligations.BeaconReceived := by
  intro dt flight l words s b check
  refine ⟨fun own => ?_, fun other => ?_⟩
  · exact congrArg (fun t => Host.Outcome.next (conclude t)) (receive_clash check (s := advance dt s) own l flight)
  · have ends : exec (.recordReceived dt l flight words) s = .next (conclude (takeBeacon l
        (s.now + BitVec.ofNat 48 dt - BitVec.ofNat 48 flight) b (onLane l (countLane · .rxRecords) (advance dt s)))) :=
      congrArg (fun t => Host.Outcome.next (conclude t)) (receive_taken check (s := advance dt s) other l flight)
    generalize s.now + BitVec.ofNat 48 dt - BitVec.ofNat 48 flight = arrival at ends ⊢
    have within := (takeBeacon_within l arrival b (onLane l (countLane · .rxRecords) (advance dt s))).trans
      (conclude_within _)
    obtain ⟨taken, others⟩ := takeBeacon_lane l arrival b (advance dt s)
    rw [← (conclude_within _).lane, lane_advance] at taken
    obtain ⟨offset, steps, -, entry⟩ := absorbBeacon_entry arrival b (countLane (lane s l) .rxRecords)
    refine ⟨_, ends, fun m apart => (((conclude_within _).lane m).trans (others m apart)).trans (lane_advance ..), taken,
      ?_⟩
    rw [taken, absorbBeacon_progress, absorbBeacon_rxRecords, entry, countLane_get_same]
    exact ⟨rfl, rfl, rfl, rfl, rfl, rfl, rfl, rfl, within.ing, within.ref, within.mgp, within.config⟩

/-! ## Other records -/

/-- What a record does to the peer entries: a beacon of another station is taken by its lane, and nothing else changes
any. -/
theorem receive_entry (l : LaneNo) (flight : Nat) (words : List Word) (s : State) :
    (∃ b, checkRecord words = .ok (.beacon b) ∧ ownNumber s ≠ some b.station
        ∧ lane (receive l flight words s) l
          = absorbBeacon (s.now - BitVec.ofNat 48 flight) b (countLane (lane s l) .rxRecords)
        ∧ ∀ m, m ≠ l → lane (receive l flight words s) m = lane s m)
      ∨ ∀ m, (lane (receive l flight words s) m).entry = (lane s m).entry := by
  have plain {f : Lane → Lane} {t : State} (h : WithinLink (onLane l f s) t) (same : ∀ x, (f x).entry = x.entry)
      (m : LaneNo) : (lane t m).entry = (lane s m).entry := by
    rw [h.lane]
    exact (onLane_moves l f s same).entry m
  by_cases empty : words = []
  · exact .inr fun m => by rw [receive, if_pos empty]
  cases check : checkRecord words with
  | error e =>
    rw [receive, if_neg empty, receiveRecord_error s check]
    exact .inr (plain (.refl _) fun _ => rfl)
  | ok r =>
    cases r with
    | beacon b =>
      by_cases own : ownNumber s = some b.station
      · rw [receive_clash check own]
        exact .inr (plain (.refl _) fun _ => rfl)
      · rw [receive_taken check own]
        exact .inl ⟨b, rfl, own, takeBeacon_lane ..⟩
    | call c =>
      rw [receive, if_neg empty, receiveRecord_ok s check]
      exact .inr (plain (takeCall_within ..) fun _ => rfl)
    | picture p =>
      rw [receive, if_neg empty, receiveRecord_ok s check]
      exact .inr (plain ((pictureToChannel_within ..).trans (pictureToChannel_within ..)).link fun _ => rfl)
    | lines x =>
      rw [receive, if_neg empty, receiveRecord_ok s check]
      exact .inr (plain ((linesToChannel_within ..).trans (linesToChannel_within ..)).link fun _ => rfl)

/-! ## Deadlines (02/R21, R23, R24) -/

theorem laneDue_of {s : State} {l : LaneNo} {st : LaneState} {d : Time} (state : (lane s l).entry.state = st)
    (deadline : (lane s l).entry.deadline = some d) (h : 0 ≤ Machine.sdiff s.now d) : laneDue s l st = true := by
  simp [laneDue, state, deadline, reached_iff.mpr h]

/-- A lapse changes one lane; what hears of it changes channels, calls and demand (02/R26). -/
theorem lapseLane_within (l : LaneNo) (s : State) : WithinLink (onLane l (lapse s.now) s) (lapseLane l s) :=
  (rejudgeBoth_within _).link.trans (leftLive_within ..)

theorem leftLive_gone {e : PeerEntry} {l : LaneNo} {s : State} {n : StationNo} (live : e.state = .live)
    (station : e.station = some n) (gone : (lane s l).entry.state ≠ .live) :
    leftLive e l s = onPub (clearColumn n) s := by
  simp [leftLive, live, station, laneLive, gone]

theorem leftLive_noStation {e : PeerEntry} (station : e.station = none) (l : LaneNo) (s : State) :
    leftLive e l s = s := by
  unfold leftLive
  split
  · next held => cases station.symm.trans held
  · rfl

theorem clearColumn_get (n m : StationNo) (p : PubIx) (u : Publication) :
    ((clearColumn n u).demand.get p).get m = if m = n then 0 else (u.demand.get p).get m := by
  rw [clearColumn, Bank.get_map, Bank.get_set]

/-- A lapse withdraws what the lane's station demanded, and nothing else (03/R43). -/
theorem lapseLane_demand {l : LaneNo} {s : State} (live : (lane s l).entry.state = .live) (n : StationNo) (p : PubIx) :
    ((lapseLane l s).pub.demand.get p).get n
      = if (lane s l).entry.station = some n then 0 else (s.pub.demand.get p).get n := by
  have judged : (rejudgeBoth (onLane l (lapse s.now) s)).pub = s.pub := (rejudgeBoth_within _).pub
  have gone : (lane (rejudgeBoth (onLane l (lapse s.now) s)) l).entry.state ≠ .live := by
    rw [(rejudgeBoth_within _).link.lane, lane_onLane]
    exact nofun
  unfold lapseLane
  dsimp only
  cases station : (lane s l).entry.station with
  | none => rw [leftLive_noStation station, judged, if_neg nofun]
  | some m =>
    rw [leftLive_gone live station gone, onPub_pub, judged, clearColumn_get]
    simp only [Option.some.injEq, eq_comm]

/-- Settles O30: a deadline that is due clears its lane or lets it lapse, and the end of the command leaves every lane. -/
theorem laneDeadlines : Obligations.LaneDeadlines := by
  intro dt l s d deadline reached
  have due {st : LaneState} (state : (lane s l).entry.state = st) : laneDue (advance dt s) l st = true :=
    laneDue_of (s := advance dt s) state deadline reached
  refine ⟨?_, fun live => ?_⟩
  · rintro c (⟨state, rfl⟩ | ⟨state, rfl⟩)
    · exact congrArg (fun t => Host.Outcome.next (conclude t)) (if_pos (due state))
    · exact congrArg (fun t => Host.Outcome.next (conclude t)) (if_pos (due state))
  · have ends : exec (.liveDeadline dt l) s = .next (conclude (lapseLane l (advance dt s))) :=
      congrArg (fun t => Host.Outcome.next (conclude t)) (if_pos (due live))
    have demand (n : StationNo) (p : PubIx) := lapseLane_demand (s := advance dt s) live n p
    refine ⟨_, ends, ((lapseLane_within ..).trans (conclude_within _)).lanes, fun n held p => ?_, fun n other p => ?_⟩
    · rw [(conclude_demand _).1, demand, lane_advance, if_pos held]
    · rw [(conclude_demand _).1, demand, lane_advance, if_neg other, advance_pub]

/-! ## Every other command -/

/-- The commands that can act on a peer entry or on the demand table. -/
def actsOnPeers : Instr → Bool
  | .recordReceived _ _ _ _ | .qualifyingDeadline _ _ | .liveDeadline _ _ | .lapsedDeadline _ _ | .millisecondTick _ => true
  | _ => false

/-- But for the transmitter's own commands and those of the peers, a command does nothing but moves. -/
theorem body_moves {c : Instr} (link : steersLink c = false) (peers : actsOnPeers c = false) (s : State) :
    Moves s (body c s) := by
  cases c with
  | configReadDone dt image => cases link
  | restart dt => cases link
  | recordSent dt => cases link
  | beaconTimerExpiry dt => cases link
  | recordReceived dt l flight words => cases peers
  | qualifyingDeadline dt l => cases peers
  | liveDeadline dt l => cases peers
  | lapsedDeadline dt l => cases peers
  | millisecondTick dt => cases peers
  | powerOn => exact .refl
  | selectAsserted dt => exact selectStart_moves s
  | selectReleasedEarly dt => exact selectEnd_moves s
  | readSummary dt => exact acceptRead_moves ..
  | readChannel dt b => exact readChannelCmd_moves ..
  | readPeers dt => exact acceptRead_moves ..
  | readCounters dt b => exact readCountersCmd_moves ..
  | clearEvents dt g f i => exact clearEventsCmd_moves ..
  | releaseLatch dt b => exact releaseLatchCmd_moves ..
  | forceCopy dt b o n p => exact forceCopyCmd_moves ..
  | unknownCode dt b => exact refuseWith_moves ..
  | refreshTimerExpiry dt k => exact refreshExpired_moves ..
  | passOverExpiry dt k => exact passOverExpired_moves ..
  | revertHoldExpiry dt k => exact revertExpired_moves ..
  | finishDone dt k i => exact onConfigured_moves k (finishSlot · i) s
  | stall dt k => exact stalled_moves ..
  | motionJobStart dt k => exact onConfigured_moves k startJob s
  | motionJobDone dt k => exact onChan_moves k endJob s
  | renderSelection dt k => exact onConfigured_moves k makeSelection s
  | renderBegin dt k => exact onChan_moves k beginRender s
  | concealPoint dt k => exact onConfigured_moves k takeConcealPoint s
  | renderComplete dt k => exact onConfigured_moves k (fun env => completeRender env.cfg.target) s
  | scanStart dt k entry => exact scan_moves ..
  | outputLineRecords dt k => exact emitLine_moves ..
  | referencePulse dt => exact pulse_moves s
  | refQualifyTimeout dt => exact refTimeout_moves s
  | refMissed dt => exact refMiss_moves s
  | acquisitionTimerExpiry dt k => exact acquisitionTimer_moves ..
  | holdoverTimerExpiry dt k => exact holdoverTimer_moves ..
  | decayTimerExpiry dt k => exact decayTimer_moves ..
  | ingestMarker dt tail f check => exact moves_carriesIngest.readWords ..
  | ingestSampleGroup dt cb y0 cr y1 => exact moves_carriesIngest.readWords ..
  | ingestDeadline dt => exact moves_carriesIngest.ingestLate s

theorem millisecond_lanes (s : State) : (millisecond s).lanes = s.lanes := by
  unfold millisecond
  split
  · split <;> rfl
  · rfl

/-! ## How a lane goes LIVE (02/R20) -/

/-- An update of one lane that leaves it in another state makes no lane LIVE. -/
theorem onLane_live {l m : LaneNo} {f : Lane → Lane} {s : State} (h : ∀ x, (f x).entry.state ≠ .live)
    (live : (lane (onLane m f s) l).entry.state = .live) : (lane s l).entry.state = .live := by
  by_cases e : l = m
  · subst e
    rw [lane_onLane] at live
    exact absurd live (h _)
  · rwa [lane_onLane_ne e] at live

theorem clearEntry_live {l m : LaneNo} {s : State} (live : (lane (clearEntry m s) l).entry.state = .live) :
    (lane s l).entry.state = .live :=
  onLane_live (fun _ => (nofun : LaneState.silent ≠ .live)) live

theorem lapseLane_live {l m : LaneNo} {s : State} (live : (lane (lapseLane m s) l).entry.state = .live) :
    (lane s l).entry.state = .live := by
  rw [(lapseLane_within m s).lane] at live
  exact onLane_live (fun _ => (nofun : LaneState.lapsed ≠ .live)) live

/-- A command that acts only where a deadline is due makes no lane LIVE where its act makes none. -/
theorem expired_live {due : Bool} {l : LaneNo} {s t : State}
    (acts : (lane t l).entry.state = .live → (lane s l).entry.state = .live)
    (live : (lane (if due then t else s) l).entry.state = .live) : (lane s l).entry.state = .live := by
  split at live
  · exact acts live
  · exact live

/-- A lane that is LIVE after a command was LIVE before it, or has just taken a beacon. -/
theorem body_live {c : Instr} {s : State} {l : LaneNo} (live : (lane (body c s) l).entry.state = .live) :
    (lane s l).entry.state = .live
      ∨ ∃ dt flight words b, c = .recordReceived dt l flight words ∧ checkRecord words = .ok (.beacon b)
        ∧ ownNumber s ≠ some b.station
        ∧ lane (body c s) l = absorbBeacon (s.now - BitVec.ofNat 48 flight) b (countLane (lane s l) .rxRecords) := by
  by_cases plain : steersLink c = false ∧ actsOnPeers c = false
  · obtain ⟨link, peers⟩ := plain
    rw [(body_moves link peers s).entry] at live
    exact .inl live
  cases c with
  | recordReceived dt m flight words =>
    rcases receive_entry m flight words s with ⟨b, check, other, taken, others⟩ | kept
    · by_cases e : l = m
      · subst e
        exact .inr ⟨dt, flight, words, b, rfl, check, other, taken⟩
      · exact .inl (others l e ▸ live)
    · exact .inl (kept l ▸ live)
  | qualifyingDeadline dt m => exact .inl (expired_live clearEntry_live live)
  | lapsedDeadline dt m => exact .inl (expired_live clearEntry_live live)
  | liveDeadline dt m => exact .inl (expired_live lapseLane_live live)
  | millisecondTick dt => exact .inl (by rwa [lane, body, millisecond_lanes] at live)
  | beaconTimerExpiry dt =>
    obtain ⟨-, -, -, lanes⟩ := beaconTimer_pub s
    exact .inl (by rwa [lane, body, lanes] at live)
  | recordSent dt => exact .inl live
  | restart dt =>
    rw [body, restartCmd_entry] at live
    cases live
  | configReadDone dt image =>
    refine .inl (readDone_cases image s (fun t => (lane t l).entry.state = .live → (lane s l).entry.state = .live)
      (fun _ h => h) (fun _ h => h) (fun u _ moved _ h => ?_) live)
    rwa [enterRunning_entry, moved.entry] at h
  | _ => exact absurd ⟨rfl, rfl⟩ plain

theorem reset_entry (l : LaneNo) : (lane State.reset l).entry = .cleared := congrArg Lane.entry (Bank.get_fill ..)

/-- Settles O28: only a beacon taken leaves a lane LIVE that was not, and only the third of one identity in time. -/
theorem onlyAThirdBeaconMakesALaneLive : Obligations.OnlyAThirdBeaconMakesALaneLive := by
  intro c s t l run after before
  cases power : isPowerOn c with
  | true =>
    cases c with
    | powerOn =>
      obtain rfl := Host.Outcome.next.inj run
      have silent : LaneState.silent = .live := (congrArg PeerEntry.state (reset_entry l)).symm.trans after
      cases silent
    | _ => cases power
  | false =>
    rw [exec_eq_body power] at run
    obtain rfl := Host.Outcome.next.inj run
    rw [(conclude_within _).lane] at after ⊢
    rcases body_live after with live | ⟨dt, flight, words, b, rfl, check, other, taken⟩
    · exact absurd live before
    rw [taken] at after ⊢
    rw [absorbBeacon_state] at after
    obtain ⟨qualifying, twice, same, soon⟩ := qualify_becomes_live before after
    obtain ⟨station, epoch⟩ := sameIdentity_iff.mp same
    exact ⟨dt, flight, words, b, rfl, check, other, qualifying, twice, station, epoch, inTime_iff.mp soon,
      absorbBeacon_laneLive qualifying after⟩

end Sys2Proof.Machine
end

section
/-! What the operations of a channel leave alone of it, said as equations: a view of the channel, and the view unchanged
by each operation. -/

namespace Sys2Proof.Machine

/-! ## Counters and flags of a channel -/

theorem chanCtrIx_injective : Function.Injective chanCtrIx := by
  intro x y h
  rw [← ChanCtr.ofNat_ctorIdx x, ← ChanCtr.ofNat_ctorIdx y]
  exact congrArg _ (Fin.mk.inj h)

theorem chanFlagIx_injective : Function.Injective chanFlagIx := by
  intro x y h
  rw [← ChanFlag.ofNat_ctorIdx x, ← ChanFlag.ofNat_ctorIdx y]
  exact congrArg _ (Fin.mk.inj h)

theorem countMany_get (c : Channel) (x y : ChanCtr) (n : Nat) :
    (countMany c x n).tally.get (chanCtrIx y)
      = if y = x then c.tally.get (chanCtrIx y) + BitVec.ofNat 32 n else c.tally.get (chanCtrIx y) := by
  rw [countMany, addCount_get]
  by_cases e : y = x
  · subst e; simp
  · rw [if_neg e, if_neg fun h => e (chanCtrIx_injective h)]

theorem flag_get (c : Channel) (f g : ChanFlag) :
    (flag c f).flags.get (chanFlagIx g) = (decide (g = f) || c.flags.get (chanFlagIx g)) := by
  rw [flag, Bank.get_set]
  by_cases e : g = f
  · subst e; simp
  · rw [if_neg fun h => e (chanFlagIx_injective h)]; simp [e]

/-! ## What the picture path leaves alone -/

/-- The counters of switches, admissions and the Channel Supervisor, which no part of the ring, the detector, the
estimator or the render record counts. -/
def reportCounters : List ChanCtr := [.copySwitch, .standardChange, .relocks, .latches, .picturesAdmitted]

/-- The flags of an adopted standard and of the entry into LATCHED, which none of these parts raises. -/
def reportFlags : List ChanFlag := [.windowClamped, .standardChange, .channelLatched]

/-- What the ring, the detector, the estimator and the selection of a record leave alone of a channel. -/
structure Outside where
  csl : Selector
  siz : Sizer
  sup : Supervisor
  port : Port
  aim : Option Copy
  standard : StdCode
  reports : List Count
  marks : List Bool

def outside (c : Channel) : Outside :=
  ⟨c.csl, c.siz, c.sup, c.port, c.int.aim, c.int.standard, reportCounters.map fun x => c.tally.get (chanCtrIx x),
    reportFlags.map fun f => c.flags.get (chanFlagIx f)⟩

theorem outside_report {c d : Channel} (h : outside d = outside c) {x : ChanCtr} (hx : x ∈ reportCounters) :
    d.tally.get (chanCtrIx x) = c.tally.get (chanCtrIx x) := by
  have reports : (reportCounters.map fun y => d.tally.get (chanCtrIx y))
      = reportCounters.map fun y => c.tally.get (chanCtrIx y) := congrArg Outside.reports h
  exact List.map_inj_left.mp reports x hx

theorem outside_mark {c d : Channel} (h : outside d = outside c) {f : ChanFlag} (hf : f ∈ reportFlags) :
    d.flags.get (chanFlagIx f) = c.flags.get (chanFlagIx f) := by
  have marks : (reportFlags.map fun g => d.flags.get (chanFlagIx g))
      = reportFlags.map fun g => c.flags.get (chanFlagIx g) := congrArg Outside.marks h
  exact List.map_inj_left.mp marks f hf

theorem countMany_outside {x : ChanCtr} (h : x ∉ reportCounters) (c : Channel) (n : Nat) :
    outside (countMany c x n) = outside c := by
  have reports : (reportCounters.map fun y => (countMany c x n).tally.get (chanCtrIx y))
      = reportCounters.map fun y => c.tally.get (chanCtrIx y) :=
    List.map_congr_left fun y hy => by rw [countMany_get, if_neg fun e : y = x => h (e ▸ hy)]
  exact congrArg (Outside.mk c.csl c.siz c.sup c.port c.int.aim c.int.standard · _) reports

theorem count_outside {x : ChanCtr} (h : x ∉ reportCounters) (c : Channel) : outside (count c x) = outside c :=
  countMany_outside h c 1

theorem flag_outside {f : ChanFlag} (h : f ∉ reportFlags) (c : Channel) : outside (flag c f) = outside c := by
  have marks : (reportFlags.map fun g => (flag c f).flags.get (chanFlagIx g))
      = reportFlags.map fun g => c.flags.get (chanFlagIx g) :=
    List.map_congr_left fun g hg => by rw [flag_get, decide_eq_false fun e : g = f => h (e ▸ hg), Bool.false_or]
  exact congrArg (Outside.mk c.csl c.siz c.sup c.port c.int.aim c.int.standard _ ·) marks

theorem countFlag_outside {x : ChanCtr} (h : x ∉ reportCounters) {f : ChanFlag} (hf : f ∉ reportFlags) (c : Channel) :
    outside (countFlag c x f) = outside c :=
  (flag_outside hf _).trans (count_outside h c)

theorem foldl_outside {α : Type} {f : Channel → α → Channel} (h : ∀ c a, outside (f c a) = outside c) (xs : List α)
    (c : Channel) : outside (xs.foldl f c) = outside c := by
  induction xs generalizing c with
  | nil => rfl
  | cons a xs ih => exact (ih _).trans (h c a)

/-! ## The ring (05/R74, R86 to R88) -/

theorem freeSlot_outside (i : SlotNo) (c : Channel) : outside (freeSlot i c) = outside c :=
  countMany_outside (by decide) _ _

theorem retireOne_outside (c : Channel) (i : SlotNo) : outside (retireOne c i) = outside c := by
  unfold retireOne
  split
  · exact freeSlot_outside i c
  · rfl

theorem freeHistoryOne_outside (c : Channel) (i : SlotNo) : outside (freeHistoryOne c i) = outside c := by
  unfold freeHistoryOne
  split
  · exact freeSlot_outside i c
  · rfl

theorem sweep_outside (c : Channel) : outside (sweep c) = outside c :=
  (foldl_outside freeHistoryOne_outside _ _).trans (foldl_outside retireOne_outside _ c)

theorem takeSlot_outside {c d : Channel} {i : SlotNo} (h : takeSlot c = some (i, d)) : outside d = outside c := by
  unfold takeSlot at h
  split at h
  · cases h; rfl
  · split at h
    · cases h
      exact (countFlag_outside (by decide) (by decide) _).trans (freeSlot_outside i c)
    · cases h

/-! ## The detector, the estimator and the render record (06, 07, 08) -/

theorem cadenceToVideo_outside (c : Channel) : outside (cadenceToVideo c) = outside c := by
  unfold cadenceToVideo
  dsimp only
  split
  · rfl
  · exact countFlag_outside (by decide) (by decide) _

theorem pairUp_outside (before : List SlotNo) (b : SlotNo) (c : Channel) : outside (pairUp before b c) = outside c := by
  unfold pairUp
  split
  · rfl
  · exact count_outside (by decide) c

theorem startJob_outside (env : Env) (c : Channel) : outside (startJob env c) = outside c := by
  unfold startJob
  split
  · split <;> rfl
  · rfl

theorem endJob_outside (c : Channel) : outside (endJob c) = outside c := by
  unfold endJob
  split
  · dsimp only
    refine (count_outside (by decide) _).trans ((sweep_outside _).trans ?_)
    split
    · exact count_outside (x := .motionCuts) (by decide) c
    · rfl
  · rfl

theorem abandonJobs_outside (c : Channel) : outside (abandonJobs c) = outside c := by
  unfold abandonJobs
  dsimp only
  split
  · exact count_outside (by decide) _
  · rfl

theorem weigh_outside (c : Channel) (a b : SlotNo) (r : Time) : outside (weigh c a b r).2 = outside c := by
  unfold weigh
  split
  · exact count_outside (by decide) c
  · rfl

theorem noteCommit_outside (i : SlotNo) (c : Channel) : outside (noteCommit i c) = outside c := by
  unfold noteCommit
  split
  · split
    · split
      · exact sweep_outside _
      · exact weigh_outside ..
    · rfl
  · rfl

theorem formRecord_outside (env : Env) (d : Nat) (c : Channel) (t : Time) : outside (formRecord env d c t) = outside c := by
  unfold formRecord
  dsimp only
  split
  · exact count_outside (by decide) c
  · next a b early _ =>
    refine (sweep_outside _).trans ?_
    have marked : outside (if early = true then count c .early else c) = outside c := by
      split
      · exact count_outside (by decide) c
      · rfl
    cases b with
    | none => exact marked
    | some i => exact (weigh_outside ..).trans marked

theorem makeSelection_outside (env : Env) (c : Channel) : outside (makeSelection env c) = outside c := by
  unfold makeSelection
  split
  · split
    · exact formRecord_outside ..
    · rfl
  · rfl

theorem startRender_outside (r : RenderRecord) (m : RenderMode) (c : Channel) :
    outside (startRender r m c) = outside c := by
  unfold startRender
  dsimp only
  split
  · exact count_outside (by decide) _
  · rfl

theorem beginRender_outside (c : Channel) : outside (beginRender c) = outside c := by
  have counted : outside (count c .unvectored) = outside c := count_outside (by decide) c
  unfold beginRender
  split
  · split
    · split
      · refine (startRender_outside ..).trans ?_
        split
        · exact counted
        · rfl
      · split
        · split
          · exact (startRender_outside ..).trans counted
          · exact (startRender_outside ..).trans (count_outside (by decide) c)
        · rfl
    · rfl
  · rfl

theorem takeConcealPoint_outside (env : Env) (c : Channel) : outside (takeConcealPoint env c) = outside c := by
  unfold takeConcealPoint
  split
  · split
    · exact beginRender_outside _
    · rfl
  · rfl

/-! ## Commits and closing (05/R76 to R81) -/

theorem commit_outside (env : Env) (i : SlotNo) (stamp : Time) (plan : Option Finish) (c : Channel) :
    outside (commit env i stamp plan c) = outside c := by
  unfold commit
  split
  · exact count_outside (by decide) _
  · exact (noteCommit_outside ..).trans ((pairUp_outside ..).trans (count_outside (by decide) _))

theorem abandonPairing_outside (env : Env) (i : SlotNo) (c : Channel) :
    outside (abandonPairing env i c) = outside c := by
  unfold abandonPairing
  split
  · exact (sweep_outside _).trans ((commit_outside ..).trans (count_outside (by decide) c))
  · rfl

theorem closeEmpty_outside (env : Env) (i : SlotNo) (k : RawPicture) (c : Channel) :
    outside (closeEmpty env i k c) = outside c := by
  have counted : outside (count c .emptyPicture) = outside c := count_outside (by decide) c
  unfold closeEmpty
  dsimp only
  split
  · exact (abandonPairing_outside ..).trans counted
  · exact counted

theorem actOn_outside (env : Env) (i : SlotNo) (ruling : Ruling) (c : Channel) :
    outside (actOn env i ruling c) = outside c := by
  unfold actOn
  split
  · exact commit_outside ..
  · rfl
  · exact commit_outside ..
  · exact count_outside (by decide) _

theorem judge_outside (env : Env) (crop : Rect) (i : SlotNo) (k : RawPicture) (c : Channel) :
    outside (judge env crop i k c) = outside c := by
  have locked (b : Bool) (d : Channel) :
      outside (if b = true then countFlag d .cadenceLocks .cadenceChange else d) = outside d := by
    split
    · exact countFlag_outside (by decide) (by decide) d
    · rfl
  have broken (b : Bool) (d : Channel) :
      outside (if b = true then countFlag { d with cad := endLock d.cad } .cadenceBreaks .cadenceChange else d)
        = outside d := by
    split
    · exact countFlag_outside (by decide) (by decide) _
    · rfl
  exact (broken _ _).trans ((actOn_outside ..).trans (locked _ _))

theorem updatePeriod_outside (stamp : Time) (c : Channel) : outside (updatePeriod stamp c) = outside c := rfl

theorem closeOpen_outside (env : Env) (c : Channel) : outside (closeOpen env c) = outside c := by
  unfold closeOpen
  split
  · dsimp only
    split
    · rfl
    · split
      · exact closeEmpty_outside ..
      · refine (sweep_outside _).trans ((judge_outside ..).trans ?_)
        exact (updatePeriod_outside ..).trans (countMany_outside (by decide) _ _)
  · rfl

theorem closeOld_outside (env : Env) (c : Channel) : outside (closeOld env c) = outside c := by
  unfold closeOld
  dsimp only
  refine (cadenceToVideo_outside _).trans (Eq.trans ?_ (closeOpen_outside env c))
  split
  · exact abandonPairing_outside ..
  · rfl

/-! ## Opening and lines (05/R73 to R75) -/

theorem openOwn_outside (k : RawPicture) (c : Channel) : outside (openOwn k c) = outside c := by
  unfold openOwn
  split
  · next i d taken =>
    have opened : outside d = outside c := takeSlot_outside taken
    exact opened
  · exact count_outside (by decide) _

theorem openPicture_outside (env : Env) (k : RawPicture) (c : Channel) : outside (openPicture env k c) = outside c := by
  unfold openPicture
  split
  · split
    · rfl
    · exact (openOwn_outside ..).trans (abandonPairing_outside ..)
  · exact openOwn_outside ..

theorem takeLines_outside (env : Env) (r : LinesRecord) (c : Channel) : outside (takeLines env r c) = outside c := by
  have dropped : outside (if c.int.refused = some r.sequence then c else count c .stray) = outside c := by
    split
    · rfl
    · exact count_outside (by decide) c
  unfold takeLines
  dsimp only
  split
  · split
    · split
      · split
        · exact closeOpen_outside ..
        · rfl
      · exact dropped
    · exact dropped
  · exact dropped

theorem finishSlot_outside (env : Env) (i : SlotNo) (c : Channel) : outside (finishSlot env i c) = outside c := by
  unfold finishSlot
  split
  · exact sweep_outside _
  · rfl

end Sys2Proof.Machine
end

section
/-! The settings of a channel: the timebase and source of its port, its sizer but for the steps, and its forced copy
stand through all that the channel does, but for scan starts, the configuration and FORCE_COPY (04/R59, 09/R157,
10/R158). -/

namespace Sys2Proof.Machine

def settingsOf (c : Channel) :
    (Option StdCode × Nat × Option Time × Option Time × Parity × Int × LockState × Option Int) × ScanSource × Sizer
      × Option Copy :=
  (timebaseOf c.port, c.port.source, configuredSizer c.siz, c.csl.forced)

theorem settings_of_outside {c d : Channel} (h : outside d = outside c) : settingsOf d = settingsOf c :=
  congrArg (fun o : Outside => (timebaseOf o.port, o.port.source, configuredSizer o.siz, o.csl.forced)) h

theorem settings_ite {c d e : Channel} {p : Prop} [Decidable p] (hd : settingsOf d = settingsOf c)
    (he : settingsOf e = settingsOf c) : settingsOf (if p then d else e) = settingsOf c := by
  split
  · exact hd
  · exact he

/-! Settings read nothing of these parts, whatever they are. -/

theorem countFlag_settings (c : Channel) (x : ChanCtr) (f : ChanFlag) : settingsOf (countFlag c x f) = settingsOf c := rfl
theorem sup_settings (c : Channel) (x : Supervisor) : settingsOf { c with sup := x } = settingsOf c := rfl
theorem supInt_settings (c : Channel) (x : Supervisor) (i : Intake) :
    settingsOf { c with sup := x, int := i } = settingsOf c := rfl

/-! ## Flush and adoption (05/R71, R89, 08/R126, 09/R146) -/

theorem abandonRender_settings (c : Channel) : settingsOf (abandonRender c) = settingsOf c := by
  unfold abandonRender
  split
  · split <;> rfl
  · rfl

theorem flush_settings (now : Time) (c : Channel) : settingsOf (flush now c) = settingsOf c := by
  unfold flush
  dsimp only
  exact (settings_of_outside (cadenceToVideo_outside _)).trans
    ((settings_of_outside (abandonJobs_outside _)).trans (abandonRender_settings c))

theorem computeDelay_settings (cfg : ChanConfig) (c : Channel) : settingsOf (computeDelay cfg c) = settingsOf c := by
  unfold computeDelay
  exact settings_ite rfl rfl

theorem computeSteps_settings (c : Channel) : settingsOf (computeSteps c) = settingsOf c := by
  unfold computeSteps
  split <;> rfl

theorem adopt_settings (env : Env) (code : StdCode) (c : Channel) : settingsOf (adopt env code c) = settingsOf c := by
  unfold adopt
  dsimp only
  exact (computeSteps_settings _).trans ((computeDelay_settings _ _).trans (settings_ite rfl rfl))

theorem changeStandard_settings (env : Env) (code : StdCode) (c : Channel) :
    settingsOf (changeStandard env code c) = settingsOf c :=
  (countFlag_settings ..).trans ((adopt_settings env code (flush env.now c)).trans (flush_settings env.now c))

/-! ## Pictures of the window (05/R72, 04/R68) -/

theorem giveStamp_settings (mapped : Time) (c : Channel) : settingsOf (giveStamp mapped c).2 = settingsOf c := by
  unfold giveStamp
  dsimp only
  split
  · split
    · exact settings_ite rfl rfl
    · rfl
  · rfl

theorem closeStampOpen_settings (env : Env) (mapped : Time) (p : PictureRecord) (c : Channel) :
    settingsOf (closeStampOpen env mapped p c) = settingsOf c := by
  unfold closeStampOpen
  dsimp only
  have stamped := (giveStamp_settings mapped (closeOpen env c)).trans (settings_of_outside (closeOpen_outside env c))
  split
  · exact stamped
  · exact (settings_of_outside (openPicture_outside ..)).trans stamped

theorem takePicture_settings (env : Env) (mapped : Time) (via : Origin) (p : PictureRecord) (c : Channel) :
    settingsOf (takePicture env mapped via p c) = settingsOf c := by
  unfold takePicture
  split
  · rfl
  · refine (closeStampOpen_settings ..).trans ?_
    have admitted (d : Channel) : settingsOf (if p.standard ≠ d.int.standard then changeStandard env p.standard d else d)
        = settingsOf d := settings_ite (changeStandard_settings ..) rfl
    refine (admitted _).trans ?_
    cases via <;> rfl

/-! ## The switch (04/R64, R65) -/

theorem aimCalls_forced (now : Time) (g : ChanConfig) (q : Option Copy) (x : Selector) :
    (aimCalls now g q x).forced = x.forced := by
  unfold aimCalls
  split
  · split <;> rfl
  · rfl

theorem meetStandard_settings (env : Env) (code : StdCode) (c : Channel) :
    settingsOf (meetStandard env code c) = settingsOf c := by
  unfold meetStandard
  split
  · exact adopt_settings ..
  · split
    · rfl
    · exact changeStandard_settings ..

theorem switchChannel_settings (env : Env) (q : Option Copy) (offer : Option Candidate) (c : Channel) :
    settingsOf (switchChannel env q offer c) = settingsOf c := by
  unfold switchChannel
  dsimp only
  have aimed : settingsOf { c with csl := { aimCalls env.now env.cfg q c.csl with
      selection := q, deferred := 0, revert := none } } = settingsOf c :=
    congrArg (fun f => (timebaseOf c.port, c.port.source, configuredSizer c.siz, f)) (aimCalls_forced env.now env.cfg q c.csl)
  have closed := (settings_of_outside (closeOld_outside env _)).trans aimed
  have met : settingsOf (match offer with
      | some d => meetStandard env d.standard (closeOld env { c with csl := { aimCalls env.now env.cfg q c.csl with
          selection := q, deferred := 0, revert := none } })
      | none => closeOld env { c with csl := { aimCalls env.now env.cfg q c.csl with
          selection := q, deferred := 0, revert := none } }) = settingsOf c := by
    cases offer with
    | none => exact closed
    | some d => exact (meetStandard_settings env d.standard _).trans closed
  exact settings_ite met met

/-! ## The Channel Supervisor (10/R168 to R173) -/

theorem leaveConverting_settings (c : Channel) : settingsOf (leaveConverting c) = settingsOf c := by
  unfold leaveConverting
  split
  · exact (settings_of_outside (sweep_outside _)).trans (abandonRender_settings c)
  · rfl

theorem startAcquiring_settings (env : Env) (c : Channel) : settingsOf (startAcquiring env c) = settingsOf c :=
  (computeDelay_settings env.cfg _).trans ((supInt_settings (leaveConverting c) _ _).trans (leaveConverting_settings c))

theorem startLatched_settings (env : Env) (c : Channel) : settingsOf (startLatched env c) = settingsOf c :=
  (flush_settings env.now _).trans ((sup_settings (leaveConverting c) _).trans (leaveConverting_settings c))

theorem enterHoldover_settings (env : Env) (c : Channel) : settingsOf (enterHoldover env c) = settingsOf c := by
  unfold enterHoldover
  dsimp only
  rw [countFlag_settings, sup_settings, leaveConverting_settings]

theorem stallReport_settings (env : Env) (c : Channel) : settingsOf (stallReport env c) = settingsOf c := by
  unfold stallReport
  split
  · exact enterHoldover_settings env c
  · rfl

theorem completeRender_settings (target : StdCode) (c : Channel) : settingsOf (completeRender target c) = settingsOf c := by
  unfold completeRender
  split
  · split
    · refine (settings_of_outside (count_outside (by decide) _)).trans ((settings_of_outside (sweep_outside _)).trans ?_)
      rfl
    · rfl
  · rfl

end Sys2Proof.Machine
end

section
/-! What one channel does is its own: it reads, of the channels, that channel alone, and writes that channel and the calls
it offers. -/

namespace Sys2Proof.Machine

/-! ## A channel and its calls, written -/

/-- A channel's new contents, and the calls it has offered. -/
def putChan (k : Chan) (c : Channel) (cs : List Call) (s : State) : State := onTx (holdCalls k cs) (onChan k (fun _ => c) s)

theorem holdCalls_holdCalls (k : Chan) (cs ds : List Call) (x : Transmit) :
    holdCalls k ds (holdCalls k cs x) = holdCalls k (cs ++ ds) x := by
  simp [holdCalls, Bank.modify, bank_set_set]

theorem holdCalls_nil (k : Chan) (x : Transmit) : holdCalls k [] x = x := by
  simp [holdCalls, Bank.modify]

theorem onChan_onChan (k : Chan) (f g : Channel → Channel) (s : State) :
    onChan k g (onChan k f s) = onChan k (fun c => g (f c)) s := by
  simp [onChan, Bank.modify, bank_set_set]

theorem onChan_self (k : Chan) (s : State) : onChan k (fun _ => chan s k) s = s := by
  simp [onChan, chan, Bank.modify]

theorem putChan_putChan (k : Chan) (c d : Channel) (cs ds : List Call) (s : State) :
    putChan k d ds (putChan k c cs s) = putChan k d (cs ++ ds) s := by
  have chans : onChan k (fun _ => d) (onChan k (fun _ => c) s) = onChan k (fun _ => d) s := onChan_onChan ..
  calc putChan k d ds (putChan k c cs s)
      = onTx (holdCalls k ds) (onTx (holdCalls k cs) (onChan k (fun _ => d) (onChan k (fun _ => c) s))) := rfl
    _ = onTx (fun x => holdCalls k ds (holdCalls k cs x)) (onChan k (fun _ => d) s) := by rw [chans]; rfl
    _ = putChan k d (cs ++ ds) s := by simp only [holdCalls_holdCalls]; rfl

theorem putChan_within (k : Chan) (c : Channel) (cs : List Call) (s : State) : WithinChannels s (putChan k c cs s) := rfl

@[simp] theorem chan_putChan (k : Chan) (c : Channel) (cs : List Call) (s : State) : chan (putChan k c cs s) k = c :=
  chan_onChan k _ s

theorem chan_putChan_ne {k j : Chan} (h : j ≠ k) (c : Channel) (cs : List Call) (s : State) :
    chan (putChan k c cs s) j = chan s j := chan_onChan_ne h _ s

theorem onChan_put (k : Chan) (f : Channel → Channel) (s : State) : onChan k f s = putChan k (f (chan s k)) [] s := by
  unfold putChan onTx
  simp only [holdCalls_nil]
  rfl

theorem onTx_put (k : Chan) (cs : List Call) (s : State) : onTx (holdCalls k cs) s = putChan k (chan s k) cs s := by
  unfold putChan
  rw [onChan_self]

/-! ## States alike to a channel -/

/-- Two states that differ only in the other channel and the transmit lane. -/
structure Alike (k : Chan) (s t : State) : Prop where
  chan : chan t k = chan s k
  within : WithinChannels s t

/-- What a channel reads is the same in states alike to it. -/
def Reads {α : Type} (k : Chan) (a : State → α) : Prop := ∀ s t, Alike k s t → a t = a s

/-- What one channel does: written in full, it depends on what that channel reads. -/
def Local (k : Chan) (f : State → State) : Prop :=
  ∀ s t, Alike k s t → ∃ c cs, f s = putChan k c cs s ∧ f t = putChan k c cs t

theorem Alike.refl (k : Chan) (s : State) : Alike k s s := ⟨rfl, .refl s⟩

theorem Alike.put {k : Chan} {s t : State} (h : Alike k s t) (c : Channel) (cs : List Call) :
    Alike k (putChan k c cs s) (putChan k c cs t) := by
  refine ⟨by rw [chan_putChan, chan_putChan], ?_⟩
  have within := h.within
  unfold WithinChannels at *
  rw [within]
  rfl

theorem Local.comp {k : Chan} {f g : State → State} (hf : Local k f) (hg : Local k g) : Local k fun s => g (f s) := by
  intro s t h
  obtain ⟨c, cs, fs, ft⟩ := hf s t h
  obtain ⟨d, ds, gs, gt⟩ := hg _ _ (h.put c cs)
  refine ⟨d, cs ++ ds, ?_, ?_⟩ <;> dsimp only
  · rw [fs, gs, putChan_putChan]
  · rw [ft, gt, putChan_putChan]

/-- What a channel does with a value it reads. -/
theorem Local.read {α : Type} {k : Chan} {a : State → α} (ha : Reads k a) {f : α → State → State}
    (hf : ∀ x, Local k (f x)) : Local k fun s => f (a s) s := by
  intro s t h
  dsimp only
  rw [ha s t h]
  exact hf (a s) s t h

theorem Local.id (k : Chan) : Local k fun s => s := by
  intro s t h
  refine ⟨chan s k, [], ?_, ?_⟩
  · rw [← onTx_put]
    exact congrArg (fun x => { s with tx := x }) (holdCalls_nil k s.tx).symm
  · rw [← h.chan, ← onTx_put]
    exact congrArg (fun x => { t with tx := x }) (holdCalls_nil k t.tx).symm

/-- What a channel does on a condition that it reads. -/
theorem Local.ite {k : Chan} {p : State → Prop} [∀ s, Decidable (p s)] (hp : Reads k p) {f g : State → State}
    (hf : Local k f) (hg : Local k g) : Local k fun s => if p s then f s else g s := by
  intro s t h
  by_cases e : p s
  · simp only [if_pos e, if_pos (show p t from (hp s t h).symm ▸ e)]
    exact hf s t h
  · simp only [if_neg e, if_neg (show ¬ p t from (hp s t h).symm ▸ e)]
    exact hg s t h

theorem Local.onChan (k : Chan) (f : Channel → Channel) : Local k (onChan k f) := by
  intro s t h
  refine ⟨f (Machine.chan s k), [], onChan_put k f s, ?_⟩
  rw [onChan_put, h.chan]

theorem Local.offer (k : Chan) (cs : List Call) : Local k (onTx (holdCalls k cs)) := by
  intro s t h
  refine ⟨Machine.chan s k, cs, onTx_put k cs s, ?_⟩
  rw [onTx_put, h.chan]

theorem Local.within {k : Chan} {f : State → State} (h : Local k f) (s : State) : WithinChannels s (f s) := by
  obtain ⟨c, cs, e, -⟩ := h s s (.refl k s)
  rw [e]
  exact putChan_within ..

/-- What one channel does leaves the other as it was. -/
theorem Local.other {k : Chan} {f : State → State} (h : Local k f) {j : Chan} (ne : j ≠ k) (s : State) :
    Machine.chan (f s) j = Machine.chan s j := by
  obtain ⟨c, cs, e, -⟩ := h s s (.refl k s)
  rw [e, chan_putChan_ne ne]

theorem putChan_comm {j k : Chan} (ne : j ≠ k) (c d : Channel) (cs ds : List Call) (s : State) :
    putChan j c cs (putChan k d ds s) = putChan k d ds (putChan j c cs s) := by
  have chans : (s.chans.set k d).set j c = (s.chans.set j c).set k d := Bank.ext_get fun i => by
    simp only [Bank.get_set]
    split <;> split <;> simp_all
  have offers : holdCalls j cs (holdCalls k ds s.tx) = holdCalls k ds (holdCalls j cs s.tx) := by
    have same : (s.tx.offers.modify k (· ++ ds)).modify j (· ++ cs) = (s.tx.offers.modify j (· ++ cs)).modify k (· ++ ds) :=
      Bank.ext_get fun i => by
        simp only [Bank.get_modify]
        split <;> split <;> simp_all
    exact congrArg (fun o => { s.tx with offers := o }) same
  show { s with chans := (s.chans.set k d).set j c, tx := holdCalls j cs (holdCalls k ds s.tx) } = _
  rw [chans, offers]
  rfl

/-- What the two channels do, they do in either order. -/
theorem Local.comm {j k : Chan} (ne : j ≠ k) {f g : State → State} (hf : Local j f) (hg : Local k g) (s : State) :
    f (g s) = g (f s) := by
  obtain ⟨c, cs, fs, fgs⟩ := hf s (g s) ⟨hg.other ne s, hg.within s⟩
  obtain ⟨d, ds, gs, gfs⟩ := hg s (f s) ⟨hf.other ne.symm s, hf.within s⟩
  rw [fgs, gfs, fs, gs, putChan_comm ne]

/-! ## What a channel reads -/

section reads
variable {k : Chan} {s t : State}

theorem Alike.now (h : Alike k s t) : t.now = s.now := h.within.link.now
theorem Alike.config (h : Alike k s t) : t.config = s.config := h.within.link.config
theorem Alike.lanes (h : Alike k s t) : t.lanes = s.lanes := h.within.link.lanes
theorem Alike.pub (h : Alike k s t) : t.pub = s.pub := h.within.pub
theorem Alike.chanConfig (h : Alike k s t) : chanConfig t = chanConfig s := by
  funext j
  rw [Machine.chanConfig, h.config]; rfl

/-- The same offers stand for a channel to judge: by the configuration, the adverts, the peer entries and the pass-over
list. -/
structure SameOffers (k : Chan) (s t : State) : Prop where
  passOver : (chan t k).csl.passOver = (chan s k).csl.passOver
  config : t.config = s.config
  adverts : t.pub.adverts = s.pub.adverts
  entries : ∀ l, (lane t l).entry = (lane s l).entry

theorem Alike.offers (h : Alike k s t) : SameOffers k s t :=
  ⟨congrArg (·.csl.passOver) h.chan, h.config, congrArg Publication.adverts h.pub,
    fun l => congrArg Lane.entry (congrArg (Bank.get · l) h.lanes)⟩

theorem SameOffers.eligibles (h : SameOffers k s t) : eligibles t k = eligibles s k := by
  have configs : Machine.chanConfig t k = Machine.chanConfig s k := by rw [Machine.chanConfig, h.config]; rfl
  have live (l : LaneNo) : laneLive t l = laneLive s l := by rw [laneLive, h.entries]; rfl
  have passed (d : Candidate) : passedOver (chan t k) d = passedOver (chan s k) d := by
    unfold passedOver
    rw [h.passOver]
  have eligibility : eligible t k = eligible s k := by
    funext d
    unfold eligible
    simp only [configs, live, passed]
  have candidate : candidates t k = candidates s k := by
    unfold candidates internalCandidate laneCandidate ownNumber
    simp only [h.config, h.adverts, h.entries]
  rw [Machine.eligibles, eligibility, candidate, ← Machine.eligibles]

theorem SameOffers.offering (h : SameOffers k s t) : offering t k = offering s k := by
  funext q
  unfold Machine.offering
  rw [h.eligibles]

theorem SameOffers.choice (h : SameOffers k s t) (selection : selectionOf t k = selectionOf s k)
    (forced : (chan t k).csl.forced = (chan s k).csl.forced) : choice t k = choice s k := by
  have selection : (chan t k).csl.selection = (chan s k).csl.selection := selection
  unfold Machine.choice autoChoice isEligible
  rw [selection, forced, h.eligibles, h.offering]

end reads

theorem choice_reads (k : Chan) : Reads k (choice · k) := fun _ _ h =>
  h.offers.choice (congrArg (·.csl.selection) h.chan) (congrArg (·.csl.forced) h.chan)
theorem offering_reads (k : Chan) : Reads k (offering · k) := fun _ _ h => h.offers.offering
theorem chan_reads (k : Chan) : Reads k (chan · k) := fun _ _ h => h.chan
theorem chanConfig_reads (k : Chan) : Reads k (chanConfig · k) := fun _ _ h => congrFun h.chanConfig k
theorem now_reads (k : Chan) : Reads k State.now := fun _ _ h => h.now

/-- A channel reads what is made of things that it reads. -/
theorem Reads.map {α β : Type} {k : Chan} {a : State → α} (h : Reads k a) (f : α → β) : Reads k fun s => f (a s) :=
  fun s t e => congrArg f (h s t e)

/-- What is made of two things read. -/
theorem Reads.map₂ {α β γ : Type} {k : Chan} {a : State → α} {b : State → β} (ha : Reads k a) (hb : Reads k b)
    (f : α → β → γ) : Reads k fun s => f (a s) (b s) :=
  fun s t e => congrArg₂ f (ha s t e) (hb s t e)

theorem selectionOf_reads (k : Chan) : Reads k (selectionOf · k) := (chan_reads k).map (·.csl.selection)
theorem isSelecting_reads (k : Chan) : Reads k (isSelecting · k) := (chan_reads k).map fun c => activeState c.sup.state

theorem latches_reads (k : Chan) : Reads k (latches · k) := by
  intro s t h
  dsimp only
  unfold latches
  rw [congrFun h.chanConfig k, h.chan, h.now]

theorem releaseCall_reads (k : Chan) : Reads k (releaseCall · k) := by
  intro s t h
  dsimp only
  unfold releaseCall
  rw [congrFun h.chanConfig k, h.chan]

theorem requestCall_reads (k : Chan) (q : Option Copy) : Reads k (requestCall · k q) := by
  intro s t h
  dsimp only
  unfold requestCall
  rw [congrFun h.chanConfig k]

theorem revertAfter_reads (k : Chan) : Reads k (revertAfter · k) := by
  intro s t h
  dsimp only
  unfold revertAfter revertTarget
  rw [congrFun h.chanConfig k, h.chan, h.now, h.offers.offering, h.offers.eligibles]

/-! ## What a channel does -/

theorem onConfigured_local (k : Chan) (f : Env → Channel → Channel) : Local k (onConfigured k f) := by
  refine Local.read (chanConfig_reads k) (f := fun g s => match g with
    | some cfg => onChan k (f ⟨s.now, cfg⟩) s
    | none => s) fun g => ?_
  cases g with
  | none => exact .id k
  | some cfg => exact Local.read (now_reads k) (f := fun n => onChan k (f ⟨n, cfg⟩)) fun n => .onChan k _

theorem switchTo_local (k : Chan) (q : Option Copy) : Local k (switchTo k q) := by
  refine Local.read (offering_reads k) (f := fun o s => onConfigured k (fun env => switchChannel env q (q.bind o))
    (onTx (holdCalls k (releaseCall s k ++ requestCall s k q)) s)) fun o => ?_
  have offered : Local k fun s => onTx (holdCalls k (releaseCall s k ++ requestCall s k q)) s :=
    Local.read ((releaseCall_reads k).map₂ (requestCall_reads k q) (· ++ ·)) fun cs => .offer k cs
  exact offered.comp (onConfigured_local k _)

theorem updateRevert_local (k : Chan) : Local k (updateRevert k) :=
  Local.read (revertAfter_reads k) (f := fun r => onChan k fun c => { c with csl := { c.csl with revert := r } })
    fun _ => .onChan k _

theorem enterLatched_local (k : Chan) : Local k (enterLatched k) := by
  have deselected : Local k fun s => if (selectionOf s k).isSome then switchTo k none s else s :=
    .ite ((selectionOf_reads k).map fun q => q.isSome = true) (switchTo_local k none) (.id k)
  exact ((onConfigured_local k startLatched).comp deselected).comp (.onChan k _)

theorem rejudge_local (n : Nat) (k : Chan) : Local k (rejudge n k) := by
  induction n with
  | zero => exact .id k
  | succ n ih =>
    have reported : Local k fun s =>
        if latches (onChan k countRelock s) k then enterLatched k (onChan k countRelock s)
        else rejudge n k (onConfigured k startAcquiring (onChan k countRelock s)) :=
      (Local.onChan k countRelock).comp (.ite ((latches_reads k).map (· = true)) (enterLatched_local k)
        ((onConfigured_local k startAcquiring).comp ih))
    have switched (q : Option Copy) (changed : Bool) : Local k fun s =>
        if changed then
          if latches (onChan k countRelock (switchTo k q s)) k then enterLatched k (onChan k countRelock (switchTo k q s))
          else rejudge n k (onConfigured k startAcquiring (onChan k countRelock (switchTo k q s)))
        else switchTo k q s := by
      cases changed
      · exact switchTo_local k q
      · exact (switchTo_local k q).comp reported
    have judged : Local k fun s =>
        (fun (q : Option Copy) s => (fun (changed : Bool) s =>
          if changed then
            if latches (onChan k countRelock (switchTo k q s)) k then enterLatched k (onChan k countRelock (switchTo k q s))
            else rejudge n k (onConfigured k startAcquiring (onChan k countRelock (switchTo k q s)))
          else switchTo k q s) (switchChanges (chan s k) (q.bind (offering s k))) s) (choice s k) s :=
      Local.read (choice_reads k) fun q =>
        Local.read ((chan_reads k).map₂ (offering_reads k) fun c o => switchChanges c (q.bind o)) (switched q)
    exact .ite ((isSelecting_reads k).map fun b => (!b) = true) (.id k)
      (.ite ((choice_reads k).map₂ (selectionOf_reads k) (· = ·)) (updateRevert_local k) judged)

theorem rejudgeOne_local (k : Chan) : Local k (rejudgeOne k) := rejudge_local rejudgeDepth k

theorem enterAcquiring_local (k : Chan) : Local k (enterAcquiring k) :=
  (onConfigured_local k startAcquiring).comp (rejudgeOne_local k)

theorem standardReport_local (k : Chan) : Local k (standardReport k) :=
  .ite ((isSelecting_reads k).map (· = true))
    ((Local.onChan k countRelock).comp
      (.ite ((latches_reads k).map (· = true)) (enterLatched_local k) (enterAcquiring_local k)))
    (.id k)

theorem mappedStamp_reads (k : Chan) (via : Origin) (t : Time) : Reads k (mappedStamp · via t) := by
  intro s u h
  unfold mappedStamp
  cases via with
  | internal => rfl
  | lane l => exact congrArg (t + ·.entry.offset) (congrArg (Bank.get · l) h.lanes)

theorem pictureToChannel_local (via : Origin) (r : PictureRecord) (k : Chan) : Local k (pictureToChannel via r k) := by
  refine Local.read (chanConfig_reads k) (f := fun g s => match g with
    | none => s
    | some g =>
      let c := chan s k
      if ofWindow ⟨s.now, g⟩ c via r.origin r.pub r.feed then
        let s1 := onChan k (takePicture ⟨s.now, g⟩ (mappedStamp s via r.stamp) via r) s
        if bringsChange r c then standardReport k s1 else s1
      else s) fun g => ?_
  cases g with
  | none => exact .id k
  | some g =>
    have taken : Local k fun s => onChan k (takePicture ⟨s.now, g⟩ (mappedStamp s via r.stamp) via r) s :=
      Local.read ((now_reads k).map₂ (mappedStamp_reads k via r.stamp) fun n m => takePicture ⟨n, g⟩ m via r)
        fun f => .onChan k f
    refine .ite ((now_reads k).map₂ (chan_reads k) fun n c => ofWindow ⟨n, g⟩ c via r.origin r.pub r.feed = true)
      ?_ (.id k)
    exact .ite ((chan_reads k).map fun c => bringsChange r c = true) (taken.comp (standardReport_local k)) taken

theorem linesToChannel_local (via : Origin) (r : LinesRecord) (k : Chan) : Local k (linesToChannel via r k) := by
  refine Local.read (chanConfig_reads k) (f := fun g s => match g with
    | none => s
    | some g =>
      if ofWindow ⟨s.now, g⟩ (chan s k) via r.origin r.pub r.feed then onChan k (takeLines ⟨s.now, g⟩ r) s else s)
    fun g => ?_
  cases g with
  | none => exact .id k
  | some g =>
    exact .ite ((now_reads k).map₂ (chan_reads k) fun n c => ofWindow ⟨n, g⟩ c via r.origin r.pub r.feed = true)
      (Local.read (now_reads k) (f := fun n => onChan k (takeLines ⟨n, g⟩ r)) fun n => .onChan k _) (.id k)

end Sys2Proof.Machine
end

section
/-! What the slot arbiter and the settling of statuses leave alone: of the Publication Unit the demand table, the tick and
the counts and sequences of records, and of the channels all but those that select. -/

namespace Sys2Proof.Machine

/-! ## The Publication Unit while statuses settle (03/R37, R44 to R49) -/

/-- Adverts, slots and the counters of publishables may change, and flags be set; nothing else of the Publication Unit. -/
structure PubKept (s t : State) : Prop where
  frame : t.pub = { s.pub with
    adverts := t.pub.adverts, slots := t.pub.slots, itemTally := t.pub.itemTally, deferredFlags := t.pub.deferredFlags
    unheard := t.pub.unheard }
  flags : ∀ p, s.pub.deferredFlags.get p = true → t.pub.deferredFlags.get p = true

/-- So much of the Publication Unit changes, and no channel. -/
structure PubStep (s t : State) : Prop extends PubKept s t where
  chans : t.chans = s.chans

theorem PubKept.of_pub {s t : State} (h : t.pub = s.pub) : PubKept s t := ⟨by rw [h], by rw [h]; exact fun _ => id⟩

theorem PubKept.refl (s : State) : PubKept s s := .of_pub rfl

theorem PubKept.trans {s t u : State} (h : PubKept s t) (g : PubKept t u) : PubKept s u :=
  ⟨by rw [g.frame, h.frame], fun p e => g.flags p (h.flags p e)⟩

theorem PubStep.refl (s : State) : PubStep s s := ⟨.refl s, rfl⟩

theorem PubStep.trans {s t u : State} (h : PubStep s t) (g : PubStep t u) : PubStep s u :=
  ⟨h.toPubKept.trans g.toPubKept, g.chans.trans h.chans⟩

theorem PubStep.ite {s t u : State} {c : Prop} [Decidable c] (ht : PubStep s t) (hu : PubStep s u) :
    PubStep s (if c then t else u) := by
  split
  · exact ht
  · exact hu

theorem setSlot_step (i : PubSlotNo) (x : PubSlot) (s : State) : PubStep s (setSlot i x s) := ⟨⟨rfl, fun _ => id⟩, rfl⟩

theorem countItem_step (p : PubIx) (c : PubItemCtr) (s : State) : PubStep s (onPub (countItem · p c) s) :=
  ⟨⟨rfl, fun _ => id⟩, rfl⟩

theorem onTx_step (f : Transmit → Transmit) (s : State) : PubStep s (onTx f s) := ⟨⟨rfl, fun _ => id⟩, rfl⟩

theorem hearAdverts_step (s : State) : PubStep s (hearAdverts s) := ⟨⟨rfl, fun _ => id⟩, rfl⟩

theorem noteAdvert_deferredFlags (s : State) (p q : PubIx) :
    (noteAdvert s p).pub.deferredFlags.get q
      = (s.pub.deferredFlags.get q
          || decide (q = p ∧ statusNow s p = .deferred ∧ (s.pub.adverts.get p).status ≠ .deferred)) := by
  show (s.pub.deferredFlags.modify p _).get q = _
  rw [Bank.get_modify]
  by_cases e : q = p
  · subst e
    by_cases now : statusNow s q = .deferred <;> by_cases before : (s.pub.adverts.get q).status = .deferred <;>
      simp [advertNow, now, before]
  · simp [e]

theorem noteAdvert_step (s : State) (p : PubIx) : PubStep s (noteAdvert s p) :=
  ⟨⟨rfl, fun q e => by rw [noteAdvert_deferredFlags, e, Bool.true_or]⟩, rfl⟩

theorem countReleased_step (b : Bool) (p : PubIx) (s : State) : PubStep s (countReleased b p s) :=
  .ite (countItem_step p .released s) (.refl s)

theorem vacate_step (i : PubSlotNo) (b : Bool) (s : State) : PubStep s (vacate i b s) := by
  unfold vacate
  split
  · exact ((setSlot_step ..).trans (countReleased_step ..)).trans (noteAdvert_step ..)
  · exact setSlot_step ..

theorem stopSlot_step (i : PubSlotNo) (p : PubIx) (s : State) : PubStep s (stopSlot i p s) :=
  (((setSlot_step i .freed s).trans (countItem_step p .sourceStopped _)).trans (countReleased_step ..)).trans
    (onTx_step ..)

theorem reviewSlot_step (s : State) (i : PubSlotNo) : PubStep s (reviewSlot s i) := by
  unfold reviewSlot
  dsimp only
  split
  · exact .refl s
  · refine .ite (.refl s) (.ite (stopSlot_step ..) (.ite (.refl s) ?_))
    split
    · exact setSlot_step ..
    · exact .ite (setSlot_step ..) (vacate_step ..)
    · exact vacate_step ..

theorem grantOne_step (s : State) : PubStep s (grantOne s) := by
  unfold grantOne
  split
  · exact (setSlot_step ..).trans (countItem_step ..)
  · exact .refl s

theorem yieldOne_step (s : State) : PubStep s (yieldOne s) := by
  unfold yieldOne
  dsimp only
  split
  · refine .ite ?_ (.refl s)
    exact .ite ((countItem_step ..).trans (setSlot_step ..)) ((countItem_step ..).trans (vacate_step ..))
  · exact .refl s

theorem arbitrate_step (s : State) : PubStep s (arbitrate s) :=
  ((reviewSlot_step s 0).trans (reviewSlot_step _ 1)).trans
    (((grantOne_step _).trans (grantOne_step _)).trans ((yieldOne_step _).trans (grantOne_step _)))

theorem storeAdverts_step (s : State) : PubStep s (storeAdverts s) :=
  ((noteAdvert_step s 0).trans (noteAdvert_step _ 1)).trans (noteAdvert_step _ 2)

/-- One publishable that starts is noted (03/R36). -/
def noteStart (s : State) (p : PubIx) : State := if starts s p then noteAdvert s p else s

theorem noteStarts_eq (s : State) : noteStarts s = noteStart (noteStart (noteStart s 0) 1) 2 := rfl

theorem noteStart_step (s : State) (p : PubIx) : PubStep s (noteStart s p) := .ite (noteAdvert_step s p) (.refl s)

theorem noteStarts_step (s : State) : PubStep s (noteStarts s) :=
  ((noteStart_step s 0).trans (noteStart_step _ 1)).trans (noteStart_step _ 2)

/-- One round of the settling: the sources that start, the arbiter, and the statuses re-decided. -/
def settleRound (s : State) : State := storeAdverts (arbitrate (noteStarts s))

theorem settleRound_step (s : State) : PubStep s (settleRound s) :=
  ((noteStarts_step s).trans (arbitrate_step _)).trans (storeAdverts_step _)

theorem settleFor_succ (n : Nat) (s : State) :
    settleFor (n + 1) s = if (settleRound s).pub.unheard then settleFor n (rejudgeBoth (hearAdverts (settleRound s)))
      else settleRound s := rfl

/-- What each round of the settling keeps, and both channels' re-judgement, the whole settling keeps. -/
theorem settleFor_carries {R : State → State → Prop} (refl : ∀ s, R s s) (trans : ∀ {s t u}, R s t → R t u → R s u)
    (step : ∀ {s t}, PubStep s t → R s t) (rejudges : ∀ s, R s (rejudgeBoth s)) (n : Nat) (s : State) :
    R s (settleFor n s) := by
  induction n generalizing s with
  | zero => exact refl s
  | succ n ih =>
    rw [settleFor_succ]
    split
    · exact trans (step ((settleRound_step s).trans (hearAdverts_step _))) (trans (rejudges _) (ih _))
    · exact step (settleRound_step s)

theorem rejudgeBoth_kept (s : State) : PubKept s (rejudgeBoth s) := .of_pub (rejudgeBoth_within s).pub

theorem settleFor_kept (n : Nat) (s : State) : PubKept s (settleFor n s) :=
  settleFor_carries .refl .trans (·.toPubKept) rejudgeBoth_kept n s

theorem settle_kept (s : State) : PubKept s (settle s) := settleFor_kept 8 s

theorem conclude_kept (s : State) : PubKept s (conclude s) :=
  (settle_kept s).trans (.of_pub (conclude_pub s))

/-! ## The channels while statuses settle (04/R53) -/

theorem other_ne (k : Chan) : otherChan k ≠ k := by decide +revert

/-- A re-judgement finds nothing to do at a channel that does not select. -/
theorem rejudgeOne_inactive {k : Chan} (j : Chan) {s : State} (h : isSelecting s k = false) :
    chan (rejudgeOne j s) k = chan s k := by
  by_cases e : k = j
  · subst e
    rw [rejudgeOne, rejudge_notSelecting _ h]
  · exact (rejudgeOne_local j).other e s

/-- A channel that does not select is left alone. -/
def InactiveKept (s t : State) : Prop := ∀ k, isSelecting s k = false → chan t k = chan s k

theorem InactiveKept.refl (s : State) : InactiveKept s s := fun _ _ => rfl

theorem InactiveKept.trans {s t u : State} (h : InactiveKept s t) (g : InactiveKept t u) : InactiveKept s u := by
  intro k off
  have same := h k off
  have still : isSelecting t k = false := by rw [isSelecting, same]; exact off
  exact (g k still).trans same

theorem InactiveKept.of_chans {s t : State} (h : t.chans = s.chans) : InactiveKept s t :=
  fun k _ => congrArg (Bank.get · k) h

theorem rejudgeBoth_inactive (s : State) : InactiveKept s (rejudgeBoth s) :=
  InactiveKept.trans (fun _ off => rejudgeOne_inactive 0 off) fun _ off => rejudgeOne_inactive 1 off

theorem settle_inactive (s : State) : InactiveKept s (settle s) :=
  settleFor_carries .refl .trans (fun h => .of_chans h.chans) rejudgeBoth_inactive 8 s

theorem takeCalls_chans (s : State) : (takeCalls s).chans = s.chans := by
  unfold takeCalls
  dsimp only
  split <;> rfl

theorem arbitrateLane_chans (s : State) : (arbitrateLane s).chans = s.chans :=
  arbitrateLane_cases s (·.chans = s.chans) rfl fun g _ _ _ =>
    beginSending_cases s g (·.chans = s.chans) rfl (fun _ => rfl) (fun _ _ _ => rfl) fun _ _ _ _ => rfl

theorem conclude_chans (s : State) : (conclude s).chans = (settle s).chans :=
  (arbitrateLane_chans _).trans (takeCalls_chans _)

end Sys2Proof.Machine
end

section
/-! The end of a command: where nothing is left to do it changes nothing, and whatever a command did it leaves alone what
no settling, no call and no record begun changes (03/R37, R44, 04/R53, 01/R9). -/

namespace Sys2Proof.Machine

/-! ## Nothing left to do -/

theorem noteStart_same {s : State} (h : ∀ p, s.pub.adverts.get p = advertNow s p) (p : PubIx) : noteStart s p = s := by
  unfold noteStart
  split
  · exact noteAdvert_same (h p)
  · rfl

theorem noteStarts_same {s : State} (h : ∀ p, s.pub.adverts.get p = advertNow s p) : noteStarts s = s := by
  rw [noteStarts_eq, noteStart_same h, noteStart_same h, noteStart_same h]

theorem storeAdverts_same {s : State} (h : ∀ p, s.pub.adverts.get p = advertNow s p) : storeAdverts s = s := by
  show noteAdvert (noteAdvert (noteAdvert s 0) 1) 2 = s
  rw [noteAdvert_same (h 0), noteAdvert_same (h 1), noteAdvert_same (h 2)]

theorem settle_settled {s : State} (arbitrated : arbitrate s = s) (h : ∀ p, s.pub.adverts.get p = advertNow s p)
    (heard : s.pub.unheard = false) : settle s = s := by
  have round : settleRound s = s := by
    rw [settleRound, noteStarts_same h, arbitrated, storeAdverts_same h]
  show settleFor (7 + 1) s = s
  rw [settleFor_succ, round, if_neg (by simp [heard])]

theorem arbitrateLane_sending {s : State} (h : s.tx.sending.isSome) : arbitrateLane s = s := by
  refine arbitrateLane_cases s (· = s) rfl fun g _ idle _ => ?_
  rw [idle] at h
  cases h

/-! ## The transmit lane at the end of a command (01/R9, R13) -/

theorem settle_tx (s : State) : (settle s).tx = { s.tx with
    offers := (settle s).tx.offers, bursts := (settle s).tx.bursts, slotTally := (settle s).tx.slotTally } :=
  (settle_moves s).tx

/-- The calls of an instant change the queue, its counter and the CALL on the lane; none stays offered. -/
theorem takeCalls_frame (s : State) : (takeCalls s).tx = { s.tx with
    callQueue := (takeCalls s).tx.callQueue, tally := (takeCalls s).tx.tally, sending := (takeCalls s).tx.sending
    offers := Bank.fill 2 [], instant := (takeCalls s).tx.instant } := by
  by_cases nothing : (heldNow s.now s.tx).offered = Bank.fill 2 []
  · have none : s.tx.offers = Bank.fill 2 [] := offered_fill_iff.mpr fun k => by
      have held := offered_fill_iff.mp nothing k
      rw [heldNow_offered, List.append_eq_nil_iff] at held
      exact held.2
    rw [takeCalls_none nothing, ← none]
    rfl
  · have taken := takeCalls_some rfl nothing
    rw [taken]
    show resendIf s.config _ _ = _
    rw [resendIf_queuedFor_frame s (heldNow s.now s.tx) _ rfl]

theorem resendIf_isSome (config : Option StationConfig) (begun : Bool) {x : Transmit} (h : x.sending.isSome) :
    (resendIf config begun x).sending.isSome := by
  unfold resendIf resend
  split
  · split
    · split
      · rfl
      · exact h
    · exact h
  · exact h

theorem queuedFor_sending (s : State) (i : CallInstant) : (queuedFor s i).sending = s.tx.sending := by
  rw [queuedFor_frame]

theorem takeCalls_isSome {s : State} (h : s.tx.sending.isSome) : (takeCalls s).tx.sending.isSome := by
  by_cases nothing : (heldNow s.now s.tx).offered = Bank.fill 2 []
  · rw [takeCalls_none nothing]
    exact h
  · rw [takeCalls_some rfl nothing]
    exact resendIf_isSome _ _ (by rwa [queuedFor_sending])

/-- The record on the lane stays there, unless it is a CALL begun at this instant. -/
theorem takeCalls_sending_of_now {s : State} (h : ∀ i ∈ s.tx.instant, i.time = s.now → i.begun = false) :
    (takeCalls s).tx.sending = s.tx.sending := by
  by_cases nothing : (heldNow s.now s.tx).offered = Bank.fill 2 []
  · rw [takeCalls_none nothing]
    rfl
  · have unbegun : (heldNow s.now s.tx).begun = false := by
      show (instantNow s.now s.tx).begun = false
      by_cases kept : ∃ i, s.tx.instant = some i ∧ i.time = s.now
      · obtain ⟨i, e, time⟩ := kept
        rw [instantNow_kept e time]
        exact h i e time
      · rw [instantNow_fresh fun i e time => kept ⟨i, e, time⟩]
    rw [takeCalls_some rfl nothing, unbegun, resendIf_unbegun]
    exact queuedFor_sending ..

theorem arbitrateLane_beaconDue (s : State) : (arbitrateLane s).tx.beaconDue = s.tx.beaconDue :=
  arbitrateLane_cases s (·.tx.beaconDue = s.tx.beaconDue) rfl fun g _ _ _ =>
    beginSending_cases s g (·.tx.beaconDue = s.tx.beaconDue) rfl (fun _ => rfl) (fun _ _ _ => rfl) fun _ _ _ _ => rfl

theorem arbitrateLane_offers (s : State) : (arbitrateLane s).tx.offers = s.tx.offers :=
  arbitrateLane_cases s (·.tx.offers = s.tx.offers) rfl fun g _ _ _ => beginSending_offers s g

theorem conclude_beaconDue (s : State) : (conclude s).tx.beaconDue = s.tx.beaconDue := by
  rw [conclude, arbitrateLane_beaconDue, takeCalls_frame, settle_tx]

theorem conclude_offers (s : State) : (conclude s).tx.offers = Bank.fill 2 [] := by
  rw [conclude, arbitrateLane_offers, takeCalls_frame]

/-- A record on the lane keeps the transmitter from beginning another. -/
theorem conclude_sending {s : State} (h : s.tx.sending.isSome) : conclude s = takeCalls (settle s) := by
  have still : (settle s).tx.sending.isSome := by rw [settle_tx]; exact h
  exact arbitrateLane_sending (takeCalls_isSome still)

/-! ## The statement -/

/-- Settles O7: with nothing to settle, take or begin, the end of a command is the identity; the frames of the settling,
of the call queue and of the arbiter say what it leaves alone. -/
theorem theEndOfACommand : Obligations.TheEndOfACommand := by
  refine ⟨fun s arbitrated adverts heard offers instant sending => ?_, fun s => ?_⟩
  · rw [conclude, settle_settled arbitrated adverts heard, takeCalls_quiet instant offers, arbitrateLane_sending sending]
  have kept := (conclude_kept s).frame
  refine ⟨(congrArg Publication.unheard (conclude_pub s)).trans (settle_unheard s), by rw [kept], by rw [kept],
    by rw [kept], by rw [kept], conclude_beaconDue s, conclude_offers s, fun sending => ?_, fun k off => ?_⟩
  · rw [conclude_sending sending]
    have settled := settle_tx s
    refine ⟨by rw [takeCalls_frame, settled], by rw [takeCalls_frame, settled], by rw [takeCalls_frame, settled],
      takeCalls_isSome (by rw [settled]; exact sending), fun unbegun => ?_⟩
    have unbegun : ∀ i ∈ (settle s).tx.instant, i.time = (settle s).now → i.begun = false := by
      rw [settled, (settle_within s).now]
      exact unbegun
    rw [takeCalls_sending_of_now unbegun, settled]
  · exact (congrArg (Bank.get · k) (conclude_chans s)).trans (settle_inactive s k off)

end Sys2Proof.Machine
end

section
/-! A CALL received: discarded, ignored, without a carrier, or taken into the demand table (03/R41, R42). -/

namespace Sys2Proof.Machine

/-! ## The outcomes of a CALL -/

theorem mem_pubNos (p : PubIx) : p ∈ pubNos := by decide +revert

theorem mem_carriersOf {s : State} {f : FeedNo} {p : PubIx} :
    p ∈ carriersOf s f ↔ carries s p = true ∧ s.config.bind (pubFeedOf · p) = some f := by
  simp [carriersOf, mem_pubNos]

theorem takeCall_discarded {s : State} {r : CallRecord} (l : LaneNo) (h : ownNumber s ≠ some r.target) :
    takeCall l r s = s := if_pos h

theorem takeCall_ignored {s : State} {l : LaneNo} {r : CallRecord} (own : ownNumber s = some r.target)
    (h : s.station ≠ .running ∨ (lane s l).entry.state ≠ .live ∨ (lane s l).entry.station ≠ some r.caller) :
    takeCall l r s = onPub (fun u => countPub u .callIgnored) s := by
  rw [takeCall, if_neg (not_not.mpr own)]
  by_cases running : s.station = .running
  · rw [if_neg (by simp [isRunning, running]), if_pos]
    simpa [laneLive] using h.resolve_left (not_not.mpr running)
  · rw [if_pos (by simp [isRunning, running])]

/-- A CALL heard from its caller's own LIVE lane meets the publishables that carry its feed. -/
theorem takeCall_heard {s : State} {l : LaneNo} {r : CallRecord} (own : ownNumber s = some r.target)
    (running : s.station = .running) (live : (lane s l).entry.state = .live)
    (caller : (lane s l).entry.station = some r.caller) :
    takeCall l r s = if carriersOf s r.feed = [] then onPub (fun u => countPub u .callNoFeed) s
      else onPub (fun u => (carriersOf s r.feed).foldl (fun u p => setDemand p r.caller r.duration u)
        (countPub u .callsTaken)) s := by
  rw [takeCall, if_neg (not_not.mpr own), if_neg (by simp [isRunning, running]), if_neg (by simp [laneLive, live, caller])]
  cases carriersOf s r.feed <;> rfl

/-- A CALL touches the Publication Unit only. -/
theorem takeCall_frame (l : LaneNo) (r : CallRecord) (s : State) :
    takeCall l r s = { s with pub := (takeCall l r s).pub } := by
  by_cases own : ownNumber s = some r.target
  · by_cases heard : s.station = .running ∧ (lane s l).entry.state = .live ∧ (lane s l).entry.station = some r.caller
    · obtain ⟨running, live, caller⟩ := heard
      rw [takeCall_heard own running live caller]
      split <;> rfl
    · rw [takeCall_ignored own (by tauto)]
      rfl
  · rw [takeCall_discarded l own]

/-- A taken CALL sets its caller's column in the rows of the carriers, and no other entry. -/
theorem setDemands_get (ps : List PubIx) (caller n : StationNo) (d : BitVec 8) (u : Publication) (p : PubIx) :
    (((ps.foldl (fun u p => setDemand p caller d u) u).demand).get p).get n
      = if n = caller ∧ p ∈ ps then d else (u.demand.get p).get n := by
  induction ps generalizing u with
  | nil => simp
  | cons q ps ih =>
    have row : ((setDemand q caller d u).demand.get p).get n
        = if n = caller ∧ p = q then d else (u.demand.get p).get n := by
      rw [setDemand, Bank.get_modify]
      by_cases e : p = q
      · subst e; simp [Bank.get_set]
      · simp [e]
    rw [List.foldl_cons, ih, row]
    by_cases e : n = caller <;> by_cases mem : p ∈ ps <;> simp [e, mem]

theorem setDemands_tally (ps : List PubIx) (caller : StationNo) (d : BitVec 8) (u : Publication) :
    (ps.foldl (fun u p => setDemand p caller d u) u).tally = u.tally := by
  rw [setDemands_frame]

/-! ## The statement -/

/-- The station when an accepted record's CALL is heard: its ticks have passed and its lane has counted it. -/
def heardOn (dt : Nat) (l : LaneNo) (s : State) : State := onLane l (countLane · .rxRecords) (advance dt s)

theorem recordReceived_call {words : List Word} {r : CallRecord} (check : checkRecord words = .ok (.call r))
    (dt flight : Nat) (l : LaneNo) (s : State) :
    exec (.recordReceived dt l flight words) s = .next (conclude (takeCall l r (heardOn dt l s))) := by
  rw [recordReceived_eq dt flight l s (words_of_ok check), receiveRecord_ok _ check]
  rfl

/-- Settles O33: each outcome is one branch of the CALL's table, and the end of the command leaves the demand table and the
counters of calls alone. -/
theorem callReceived : Obligations.CallReceived := by
  intro dt flight l words s r check
  refine ⟨_, recordReceived_call check dt flight l s, ?_, fun own => ?_, fun own => ⟨fun unheard => ?_,
    fun running live caller => ?_⟩⟩
  · rw [(conclude_within _).lanes, takeCall_frame]
    rfl
  all_goals
    have entry : (lane (heardOn dt l s) l).entry = (lane s l).entry := by rw [heardOn, lane_onLane]; rfl
    rw [(conclude_kept _).frame]
    dsimp only
  · rw [takeCall_discarded l (s := heardOn dt l s) own]
    exact ⟨rfl, rfl⟩
  · rw [takeCall_ignored (s := heardOn dt l s) own (by rw [entry]; exact unheard)]
    exact ⟨rfl, rfl⟩
  · rw [takeCall_heard (s := heardOn dt l s) own running (entry ▸ live) (entry ▸ caller)]
    have carriers (p : PubIx) : p ∈ carriersOf (heardOn dt l s) r.feed
        ↔ carries s p = true ∧ s.config.bind (pubFeedOf · p) = some r.feed := mem_carriersOf
    refine ⟨fun none => ?_, fun ⟨p, carried⟩ => ?_⟩
    · rw [if_pos (List.eq_nil_iff_forall_not_mem.mpr fun p mem => none p ((carriers p).mp mem).1 ((carriers p).mp mem).2)]
      exact ⟨rfl, rfl⟩
    · rw [if_neg (List.ne_nil_of_mem ((carriers p).mpr carried))]
      refine ⟨setDemands_tally .., fun p n => (setDemands_get ..).trans ?_⟩
      simp only [carriers]
      rfl

end Sys2Proof.Machine
end

section
/-! The status of a publishable, and the life of a publication slot (03/R36 to R38, R44 to R50). -/

namespace Sys2Proof.Machine

/-! ## What a status reads (03/R37) -/

theorem pubItemCtrIx_injective : Function.Injective pubItemCtrIx := by
  intro x y h
  rw [← PubItemCtr.ofNat_ctorIdx x, ← PubItemCtr.ofNat_ctorIdx y]
  exact congrArg _ (Fin.mk.inj h)

theorem countItem_get (u : Publication) (p q : PubIx) (c d : PubItemCtr) :
    ((countItem u p c).itemTally.get q).get (pubItemCtrIx d)
      = (u.itemTally.get q).get (pubItemCtrIx d) + if q = p ∧ d = c then 1 else 0 := by
  rw [countItem, Bank.get_modify]
  by_cases e : q = p
  · subst e
    rw [if_pos rfl, addCount_get]
    by_cases same : d = c
    · subst same; simp
    · rw [if_neg fun h => same (pubItemCtrIx_injective h)]; simp [same]
  · simp [e]

theorem demanded_iff {s : State} {p : PubIx} : demanded s p = true ↔ ∃ n, (s.pub.demand.get p).get n ≠ 0 := by
  simp only [demanded, List.any_eq_true, decide_eq_true_eq]
  constructor
  · rintro ⟨d, mem, some⟩
    obtain ⟨n, rfl⟩ := Bank.mem_items_iff.mp mem
    exact ⟨n, some⟩
  · rintro ⟨n, some⟩
    exact ⟨_, Bank.mem_items_iff.mpr ⟨n, rfl⟩, some⟩

/-- A publishable holds a slot (03/3.5). -/
abbrev HoldsSlot (u : Publication) (p : PubIx) (i : PubSlotNo) : Prop :=
  (u.slots.get i).state ≠ .free ∧ (u.slots.get i).holder = some p

/-- A search over the two slots finds the lower one first. -/
theorem find_slotNos {f : PubSlotNo → Bool} {i : PubSlotNo} (h : f i = true) (first : ∀ j, j < i → f j = false) :
    slotNos.find? f = some i := by
  match i with
  | 0 => simp [slotNos, h]
  | 1 => simp [slotNos, first 0 (by decide), h]

theorem find_slotNos_none {f : PubSlotNo → Bool} (h : ∀ i, f i = false) : slotNos.find? f = none := by
  simp [slotNos, h]

theorem heldSlot_some {u : Publication} {p : PubIx} {i : PubSlotNo} (h : HoldsSlot u p i)
    (first : ∀ j, j < i → ¬ HoldsSlot u p j) : heldSlot u p = some i := by
  refine find_slotNos ?_ fun j lt => ?_
  · simpa [HoldsSlot] using h
  · simpa [HoldsSlot, imp_iff_not_or] using first j lt

theorem heldSlot_none {u : Publication} {p : PubIx} (h : ∀ i, ¬ HoldsSlot u p i) : heldSlot u p = none :=
  find_slotNos_none fun i => by simpa [HoldsSlot, imp_iff_not_or] using h i

theorem mem_slotNos (i : PubSlotNo) : i ∈ slotNos := by decide +revert

theorem heldSlot_isSome_iff {u : Publication} {p : PubIx} : (heldSlot u p).isSome ↔ ∃ i, HoldsSlot u p i := by
  constructor
  · intro h
    obtain ⟨i, found⟩ := Option.isSome_iff_exists.mp h
    exact ⟨i, by simpa [HoldsSlot] using List.find?_some found⟩
  · rintro ⟨i, held⟩
    by_contra none
    have none := Option.not_isSome_iff_eq_none.mp none
    have free := List.find?_eq_none.mp none i (mem_slotNos i)
    simp only [Bool.and_eq_true, decide_eq_true_eq] at free
    exact free held

/-- The table of 03/R37. -/
theorem statusNow_eq (s : State) (p : PubIx) : statusNow s p =
    if carries s p = false then .none
    else if producing s p = false then .absent
    else if ∃ i, HoldsSlot s.pub p i then .sending
    else if ∃ n, (s.pub.demand.get p).get n ≠ 0 then .deferred
    else .available := by
  unfold statusNow
  simp only [Bool.not_eq_true', heldSlot_isSome_iff, demanded_iff]

/-- The status of a publishable that holds no slot. -/
theorem statusNow_slotless {s : State} {p : PubIx} (h : ∀ i, ¬ HoldsSlot s.pub p i) : statusNow s p =
    if carries s p = false then .none else if producing s p = false then .absent
    else if demanded s p = true then .deferred else .available := by
  rw [statusNow_eq]
  simp only [not_exists.mpr h, if_false, demanded_iff]

/-! ## Sources that start (03/R36) -/

theorem noteStarts_fold (s : State) : noteStarts s = pubNos.foldl noteStart s := rfl

theorem noteStart_advertNow (s : State) (q p : PubIx) : advertNow (noteStart s q) p = advertNow s p := by
  unfold noteStart
  split <;> rfl

theorem noteStart_advert (s : State) (q p : PubIx) : (noteStart s q).pub.adverts.get p =
    if p = q ∧ starts s q = true then advertNow s p else s.pub.adverts.get p := by
  unfold noteStart
  by_cases started : starts s q = true
  · rw [if_pos started]
    show (s.pub.adverts.set q (advertNow s q)).get p = _
    rw [Bank.get_set]
    by_cases e : p = q
    · subst e; simp [started]
    · simp [e]
  · simp [started]

theorem noteStart_starts {s : State} {q p : PubIx} (h : p ≠ q) : starts (noteStart s q) p = starts s p := by
  unfold starts
  rw [noteStart_advert, if_neg fun e => h e.1]
  unfold noteStart
  split <;> rfl

theorem foldl_noteStart_advert {ps : List PubIx} (distinct : ps.Nodup) (s : State) (p : PubIx) :
    (ps.foldl noteStart s).pub.adverts.get p =
      if p ∈ ps ∧ starts s p = true then advertNow s p else s.pub.adverts.get p := by
  induction ps generalizing s with
  | nil => simp
  | cons q ps ih =>
    obtain ⟨fresh, distinct⟩ := List.nodup_cons.mp distinct
    rw [List.foldl_cons, ih distinct, noteStart_advertNow, noteStart_advert]
    by_cases e : p = q
    · subst e; simp [fresh]
    · simp [e, noteStart_starts e]

theorem foldl_noteStart_step (ps : List PubIx) (s : State) : PubStep s (ps.foldl noteStart s) := by
  induction ps generalizing s with
  | nil => exact .refl s
  | cons q ps ih => exact (noteStart_step s q).trans (ih _)

/-- A publishable that starts as DEFERRED is flagged (03/R36, R37). -/
theorem foldl_noteStart_flagged {ps : List PubIx} {s : State} {p : PubIx} (mem : p ∈ ps) (started : starts s p = true)
    (deferred : statusNow s p = .deferred) : (ps.foldl noteStart s).pub.deferredFlags.get p = true := by
  induction ps generalizing s with
  | nil => cases mem
  | cons q ps ih =>
    by_cases e : p = q
    · subst e
      have absent : (s.pub.adverts.get p).status = .absent := by
        have started := started
        simp only [starts, Bool.and_eq_true, decide_eq_true_eq] at started
        exact started.1.1
      refine (foldl_noteStart_step ps _).flags p ?_
      rw [noteStart, if_pos started, noteAdvert_deferredFlags]
      simp [deferred, absent]
    · have status : statusNow (noteStart s q) p = .deferred :=
        (congrArg Advert.status (noteStart_advertNow s q p)).trans deferred
      exact ih ((List.mem_cons.mp mem).resolve_left e) ((noteStart_starts e).trans started) status

theorem noteStarts_settle_kept (s : State) : PubKept (noteStarts s) (settle s) := by
  have round : PubKept (noteStarts s) (settleRound s) := ((arbitrate_step _).trans (storeAdverts_step _)).toPubKept
  show PubKept _ (settleFor (7 + 1) s)
  rw [settleFor_succ]
  split
  · exact round.trans ((hearAdverts_step _).toPubKept.trans ((rejudgeBoth_kept _).trans (settleFor_kept 7 _)))
  · exact round

end Sys2Proof.Machine
end

section
/-! What the slot arbiter and the records of a publishable do to a slot, and where a record formed goes (03/R44 to R50,
11/R188). -/

namespace Sys2Proof.Machine

/-! ## Granting and yielding (03/R44, R46) -/

theorem topClaimant_first {s : State} {p : PubIx} (h : claims s p = true) (first : ∀ q, q < p → claims s q = false) :
    topClaimant s = some p := by
  match p with
  | 0 => simp [topClaimant, pubNos, h]
  | 1 => simp [topClaimant, pubNos, h, first 0 (by decide)]
  | 2 => simp [topClaimant, pubNos, h, first 0 (by decide), first 1 (by decide)]

theorem lower_slot {i j : PubSlotNo} (h : j < i) : j = 0 ∧ i ≠ 0 := by decide +revert

theorem other_slot {i j : PubSlotNo} (h : j ≠ i) : j = 1 - i := by decide +revert

theorem grantOne_grants {s : State} {p : PubIx} {i : PubSlotNo} (top : topClaimant s = some p)
    (free : (s.pub.slots.get i).state = .free) (lower : i = 0 ∨ (s.pub.slots.get 0).state ≠ .free) :
    grantOne s = onPub (countItem · p .granted) (setSlot i (.granted p) s) := by
  have slot : freePubSlot s = some i := by
    refine find_slotNos (by simpa using free) fun j lt => ?_
    obtain ⟨rfl, upper⟩ := lower_slot lt
    simpa using lower.resolve_left upper
  unfold grantOne
  rw [slot, top]
  rfl

theorem yieldingSlot_lower {s : State} {i : PubSlotNo} {q r : PubIx} (holder : (s.pub.slots.get i).holder = some q)
    (other : (s.pub.slots.get (1 - i)).holder = some r) (higher : r < q)
    (busy : ∀ j, (s.pub.slots.get j).state = .granted ∨ (s.pub.slots.get j).state = .carrying) :
    yieldingSlot s = some (i, q) := by
  have still (j : PubSlotNo) : (s.pub.slots.get j).state ≠ .free ∧ (s.pub.slots.get j).state ≠ .ending := by
    rcases busy j with e | e <;> rw [e] <;> exact ⟨nofun, nofun⟩
  have open' : ¬ ((s.pub.slots.get 0).state = .free ∨ (s.pub.slots.get 1).state = .free
      ∨ (s.pub.slots.get 0).state = .ending ∨ (s.pub.slots.get 1).state = .ending) := by
    simp [still 0, still 1]
  rw [yieldingSlot, if_neg open']
  match i with
  | 0 =>
    rw [holder, show (s.pub.slots.get 1).holder = some r from other]
    exact if_neg higher.asymm
  | 1 =>
    rw [holder, show (s.pub.slots.get 0).holder = some r from other]
    exact if_pos higher

/-- The lower-priority holder yields: after the picture that its slot carries, or at once (03/R46). -/
theorem yieldOne_yields {s : State} {p q : PubIx} {i : PubSlotNo} (top : topClaimant s = some p)
    (slot : yieldingSlot s = some (i, q)) (lt : p < q) :
    yieldOne s = if (s.pub.slots.get i).openPicture
      then setSlot i { s.pub.slots.get i with state := .ending, reason := some .yield } (onPub (countItem · q .preempted) s)
      else vacate i false (onPub (countItem · q .preempted) s) := by
  unfold yieldOne
  rw [top, slot]
  exact if_pos lt

/-- The advert of a publishable is stored, flagged where it enters DEFERRED, and a change of it marked unheard. -/
theorem noteAdvert_eq (s : State) (p : PubIx) : noteAdvert s p = { s with pub := { s.pub with
    adverts := s.pub.adverts.set p (advertNow s p)
    deferredFlags := if statusNow s p = .deferred ∧ (s.pub.adverts.get p).status ≠ .deferred
      then s.pub.deferredFlags.set p true else s.pub.deferredFlags
    unheard := s.pub.unheard || (advertNow s p ≠ s.pub.adverts.get p : Bool) } } := by
  have flags : (noteAdvert s p).pub.deferredFlags
      = if statusNow s p = .deferred ∧ (s.pub.adverts.get p).status ≠ .deferred
        then s.pub.deferredFlags.set p true else s.pub.deferredFlags := by
    refine Bank.ext_get fun q => ?_
    rw [noteAdvert_deferredFlags]
    split
    · next enters =>
      rw [Bank.get_set]
      by_cases e : q = p <;> simp [e, enters]
    · next stays => simp [stays]
  rw [← flags]
  rfl

/-! ## A slot that becomes FREE (03/R37, R47 to R49) -/

theorem vacate_frame (i : PubSlotNo) (b : Bool) (s : State) : vacate i b s = { s with pub := (vacate i b s).pub } := by
  unfold vacate countReleased
  split
  · split <;> rfl
  · rfl

theorem vacate_demand (i : PubSlotNo) (b : Bool) (s : State) : (vacate i b s).pub.demand = s.pub.demand := by
  rw [((vacate_step i b s).toPubKept).frame]

section vacated
variable {s : State} {i : PubSlotNo} {p : PubIx} (holder : (s.pub.slots.get i).holder = some p) (b : Bool)
include holder

theorem vacate_slots : (vacate i b s).pub.slots = s.pub.slots.set i .freed := by
  rw [vacate_holder b holder, countReleased]
  split <;> rfl

theorem vacate_itemTally (c : PubItemCtr) : ((vacate i b s).pub.itemTally.get p).get (pubItemCtrIx c)
    = (s.pub.itemTally.get p).get (pubItemCtrIx c) + if b = true ∧ c = .released then 1 else 0 := by
  rw [vacate_holder b holder, noteAdvert_pub_itemTally, countReleased]
  cases b
  · simp [setSlot]
  · exact (countItem_get _ p p .released c).trans (by simp [setSlot])

theorem vacate_advert : (vacate i b s).pub.adverts.get p = advertNow (setSlot i .freed s) p := by
  rw [vacate_holder b holder, noteAdvert_advert, countReleased]
  split <;> rfl

/-- A publishable that held no other slot leaves SENDING: for DEFERRED where it is still demanded (03/R48). -/
theorem vacate_status (other : (s.pub.slots.get (1 - i)).holder ≠ some p) :
    ((vacate i b s).pub.adverts.get p).status = if carries s p = false then .none
      else if producing s p = false then .absent else if demanded s p = true then .deferred else .available := by
  rw [vacate_advert holder]
  refine statusNow_slotless (s := setSlot i .freed s) fun j => ?_
  show ¬ (((s.pub.slots.set i .freed).get j).state ≠ .free ∧ ((s.pub.slots.set i .freed).get j).holder = some p)
  rw [Bank.get_set]
  by_cases e : j = i
  · rw [if_pos e]
    exact fun h => h.1 rfl
  · rw [if_neg e, other_slot e]
    exact fun h => other h.2

theorem vacate_flagged (deferred : ((vacate i b s).pub.adverts.get p).status = .deferred)
    (before : (s.pub.adverts.get p).status = .sending) : (vacate i b s).pub.deferredFlags.get p = true := by
  have status : statusNow (countReleased b p (setSlot i .freed s)) p = .deferred := by
    rw [vacate_holder b holder, noteAdvert_advert] at deferred
    exact deferred
  have advert : ((countReleased b p (setSlot i .freed s)).pub.adverts.get p).status = .sending := by
    rw [countReleased]
    split <;> exact before
  rw [vacate_holder b holder, noteAdvert_deferredFlags]
  simp [status, advert]

end vacated

/-! ## A slot against its source and row (03/R47, R49) -/

/-- A slot whose row is no longer demanded (03/R47). -/
def releaseSlot (i : PubSlotNo) (s : State) : State :=
  match (s.pub.slots.get i).state with
  | .ending => setSlot i { s.pub.slots.get i with releaseOwed := true } s
  | .carrying =>
    if (s.pub.slots.get i).openPicture then
      setSlot i { s.pub.slots.get i with state := .ending, reason := some .release, releaseOwed := true } s
    else vacate i true s
  | _ => vacate i true s

/-- A held slot stops with its source, stays while its row is demanded, and is released otherwise. -/
theorem reviewSlot_held {s : State} {i : PubSlotNo} {p : PubIx} (held : (s.pub.slots.get i).state ≠ .free)
    (holder : (s.pub.slots.get i).holder = some p) : reviewSlot s i =
      if producing s p = false then stopSlot i p s else if demanded s p = true then s else releaseSlot i s := by
  unfold reviewSlot
  dsimp only
  split
  · next none =>
    rw [holder] at none
    cases none
  · next q some =>
    obtain rfl := Option.some.inj (some.symm.trans holder)
    rw [if_neg held]
    by_cases stopped : producing s q = false
    · rw [if_pos stopped, if_pos (by simp [stopped])]
    · rw [if_neg stopped, if_neg (by simpa using stopped)]
      rfl

section released
variable {s : State} {i : PubSlotNo}

theorem releaseSlot_between (between : (s.pub.slots.get i).state = .granted
      ∨ (s.pub.slots.get i).state = .carrying ∧ (s.pub.slots.get i).openPicture = false) :
    releaseSlot i s = vacate i true s := by
  unfold releaseSlot
  rcases between with e | ⟨e, closed⟩
  · rw [e]
  · rw [e, closed]; rfl

theorem releaseSlot_open (carrying : (s.pub.slots.get i).state = .carrying)
    (picture : (s.pub.slots.get i).openPicture = true) :
    releaseSlot i s
      = setSlot i { s.pub.slots.get i with state := .ending, reason := some .release, releaseOwed := true } s := by
  unfold releaseSlot
  rw [carrying]
  exact if_pos picture

theorem releaseSlot_ending (ending : (s.pub.slots.get i).state = .ending) :
    releaseSlot i s = setSlot i { s.pub.slots.get i with releaseOwed := true } s := by
  unfold releaseSlot
  rw [ending]

end released

/-! ## Records of the holder (03/R45, R48) -/

section records
variable {s : State} {i : PubSlotNo} (p : PubIx)

theorem pictureOnSlot_released (r : PictureRecord) (row : demanded s p = false) :
    pictureOnSlot i p r s = vacate i true s := if_pos (by simp [row])

theorem pictureOnSlot_carries (r : PictureRecord) (row : demanded s p = true)
    (h : (s.pub.slots.get i).state = .granted ∨ (s.pub.slots.get i).state = .carrying) :
    pictureOnSlot i p r s = onTx (offerBurst i (.picture r))
      (setSlot i { s.pub.slots.get i with state := .carrying, openPicture := true } s) := by
  refine (if_neg (by simp [row])).trans ?_
  rcases h with e | e <;> rw [e]

theorem pictureOnSlot_ending (r : PictureRecord) (row : demanded s p = true)
    (ending : (s.pub.slots.get i).state = .ending) :
    pictureOnSlot i p r s = onTx (offerBurst i (.picture r)) s := by
  refine (if_neg (by simp [row])).trans ?_
  rw [ending]

theorem linesOnSlot_granted (r : LinesRecord) (granted : (s.pub.slots.get i).state = .granted) :
    linesOnSlot i p r s = s := if_neg (by simp [granted])

theorem linesOnSlot_within_picture (r : LinesRecord)
    (h : (s.pub.slots.get i).state = .carrying ∨ (s.pub.slots.get i).state = .ending) (more : r.last = false) :
    linesOnSlot i p r s = onTx (offerBurst i (.lines r)) s :=
  (if_pos h).trans (if_neg (by simp [more]))

theorem linesOnSlot_closes (r : LinesRecord) (carrying : (s.pub.slots.get i).state = .carrying) (last : r.last = true) :
    linesOnSlot i p r s = setSlot i { s.pub.slots.get i with openPicture := false }
      (onPub (countItem · p .picturesSent) (onTx (offerBurst i (.lines r)) s)) :=
  (if_pos (.inl carrying)).trans ((if_pos last).trans (if_neg (by simp [carrying])))

theorem linesOnSlot_ends (r : LinesRecord) (ending : (s.pub.slots.get i).state = .ending) (last : r.last = true) :
    linesOnSlot i p r s = vacate i (s.pub.slots.get i).releaseOwed
      (onPub (countItem · p .picturesSent) (onTx (offerBurst i (.lines r)) s)) :=
  (if_pos (.inr ending)).trans ((if_pos last).trans (if_pos ending))

end records

/-! ## Where a record formed goes (03/R50, 11/R188) -/

theorem foldl_listeners (p : PubIx) (f : State → Chan → State) (s : State) :
    (listeners p).foldl f s = if p = 0 then f (f s 0) 1 else f s (if p = 1 then 1 else 0) := by
  match p with
  | 0 => rfl
  | 1 => rfl
  | 2 => rfl

/-- A record that the holder of a slot forms meets the lower slot that it holds, or no slot. -/
theorem heldSlot_cases {u : Publication} {p : PubIx} {t : State} {none : State} {onSlot : PubSlotNo → State}
    (h : (∀ i, ¬ HoldsSlot u p i) ∧ t = none
      ∨ ∃ i, HoldsSlot u p i ∧ (∀ j, j < i → ¬ HoldsSlot u p j) ∧ t = onSlot i) :
    (match heldSlot u p with | some i => onSlot i | Option.none => none) = t := by
  rcases h with ⟨free, rfl⟩ | ⟨i, held, first, rfl⟩
  · rw [heldSlot_none free]
  · rw [heldSlot_some held first]

theorem ofWindow_internal_false {env : Env} {c : Channel} {station : StationNo} {pub : PubIx} {feed : FeedNo}
    (h : ∀ q, c.int.aim = some q → q.origin ≠ .internal ∨ q.pub ≠ pub ∨ env.cfg.feed ≠ some feed) :
    ofWindow env c .internal station pub feed = false := by
  unfold ofWindow
  cases aim : c.int.aim with
  | none => rfl
  | some q =>
    simp only [Bool.and_true, Bool.and_eq_false_iff, decide_eq_false_iff_not]
    have := h q aim
    tauto

end Sys2Proof.Machine
end

section
/-! The rules of statuses, slots and published records together (03/R36 to R38, R44 to R50). -/

namespace Sys2Proof.Machine

/-! ## Statuses -/

theorem noteStarts_rule {s : State} {p : PubIx} (absent : (s.pub.adverts.get p).status = .absent)
    (carried : carries s p = true) (produces : producing s p = true)
    (slotless : ∀ i, (s.pub.slots.get i).holder ≠ some p) :
    ((noteStarts s).pub.adverts.get p).status = (if ∃ n, (s.pub.demand.get p).get n ≠ 0 then .deferred else .available)
    ∧ ((∃ n, (s.pub.demand.get p).get n ≠ 0) →
        (noteStarts s).pub.deferredFlags.get p = true ∧ (settle s).pub.deferredFlags.get p = true) := by
  have started : starts s p = true := by simp [starts, absent, carried, produces]
  have status : statusNow s p = if ∃ n, (s.pub.demand.get p).get n ≠ 0 then .deferred else .available := by
    rw [statusNow_slotless fun i held => slotless i held.2]
    simp only [carried, produces, demanded_iff]
    rfl
  refine ⟨?_, fun called => ?_⟩
  · rw [noteStarts_fold, foldl_noteStart_advert (by decide), if_pos ⟨mem_pubNos p, started⟩]
    exact status
  · have deferred : statusNow s p = .deferred := by rw [status, if_pos called]
    have flagged : (noteStarts s).pub.deferredFlags.get p = true :=
      foldl_noteStart_flagged (mem_pubNos p) started deferred
    exact ⟨flagged, (noteStarts_settle_kept s).flags p flagged⟩

theorem noteStarts_none {s : State} (h : ∀ p, (s.pub.adverts.get p).status ≠ .absent) : noteStarts s = s := by
  have one (p : PubIx) : noteStart s p = s := if_neg (by simp [starts, h p])
  rw [noteStarts_eq, one, one, one]

/-! ## Slots -/

/-- What a slot that becomes FREE by a release leaves: the state but for the Publication Unit, which counts RELEASED. -/
theorem vacate_releases {s : State} {i : PubSlotNo} {p : PubIx} (holder : (s.pub.slots.get i).holder = some p) :
    vacate i true s = { s with pub := (vacate i true s).pub }
    ∧ (vacate i true s).pub.slots = s.pub.slots.set i .freed ∧ (vacate i true s).pub.demand = s.pub.demand
    ∧ ((vacate i true s).pub.itemTally.get p).get (pubItemCtrIx .released)
        = (s.pub.itemTally.get p).get (pubItemCtrIx .released) + 1
    ∧ ((s.pub.slots.get (1 - i)).holder ≠ some p → carries s p = true → producing s p = true → demanded s p = false →
        ((vacate i true s).pub.adverts.get p).status = .available) := by
  refine ⟨vacate_frame i true s, vacate_slots holder true, vacate_demand i true s, ?_,
    fun other carried produces row => ?_⟩
  · rw [vacate_itemTally holder]; simp
  · rw [vacate_status holder true other]; simp [carried, produces, row]

/-- The last record of a picture is offered and the picture counted (03/R45). -/
def sentLast (i : PubSlotNo) (p : PubIx) (r : LinesRecord) (s : State) : State :=
  onPub (countItem · p .picturesSent) (onTx (offerBurst i (.lines r)) s)

theorem sentLast_itemTally (i : PubSlotNo) (p : PubIx) (r : LinesRecord) (s : State) (c : PubItemCtr) :
    ((sentLast i p r s).pub.itemTally.get p).get (pubItemCtrIx c)
      = (s.pub.itemTally.get p).get (pubItemCtrIx c) + if c = .picturesSent then 1 else 0 :=
  (countItem_get s.pub p p .picturesSent c).trans (by simp)

theorem sentLast_statuses (i : PubSlotNo) (p : PubIx) (r : LinesRecord) (s : State) :
    carries (sentLast i p r s) p = carries s p ∧ producing (sentLast i p r s) p = producing s p
      ∧ demanded (sentLast i p r s) p = demanded s p := ⟨rfl, rfl, rfl⟩

/-- The last record of an ENDING slot (03/R45, R48). -/
theorem linesOnSlot_frees {s : State} {i : PubSlotNo} {p : PubIx} {r : LinesRecord}
    (ending : (s.pub.slots.get i).state = .ending) (holder : (s.pub.slots.get i).holder = some p)
    (other : (s.pub.slots.get (1 - i)).holder ≠ some p) (last : r.last = true) :
    ∃ t, linesOnSlot i p r s = t ∧ t.tx = offerBurst i (.lines r) s.tx ∧ t.pub.slots = s.pub.slots.set i .freed
      ∧ (t.pub.itemTally.get p).get (pubItemCtrIx .picturesSent)
          = (s.pub.itemTally.get p).get (pubItemCtrIx .picturesSent) + 1
      ∧ (t.pub.itemTally.get p).get (pubItemCtrIx .released) = (s.pub.itemTally.get p).get (pubItemCtrIx .released)
          + (if (s.pub.slots.get i).releaseOwed then 1 else 0)
      ∧ (t.pub.adverts.get p).status = (if carries s p = false then .none else if producing s p = false then .absent
          else if demanded s p = true then .deferred else .available)
      ∧ ((t.pub.adverts.get p).status = .deferred → (s.pub.adverts.get p).status = .sending →
          t.pub.deferredFlags.get p = true) := by
  obtain ⟨carried, produces, row⟩ := sentLast_statuses i p r s
  have holder' : ((sentLast i p r s).pub.slots.get i).holder = some p := holder
  have other' : ((sentLast i p r s).pub.slots.get (1 - i)).holder ≠ some p := other
  refine ⟨vacate i (s.pub.slots.get i).releaseOwed (sentLast i p r s), linesOnSlot_ends p r ending last, ?_,
    vacate_slots holder' _, ?_, ?_, ?_, vacate_flagged holder' _⟩
  · rw [vacate_frame]; rfl
  · rw [vacate_itemTally holder', sentLast_itemTally]; simp
  · rw [vacate_itemTally holder', sentLast_itemTally]; simp
  · rw [vacate_status holder' _ other', carried, produces, row]

/-- A source that stops (03/R49). -/
theorem reviewSlot_source {s : State} {i : PubSlotNo} {p : PubIx} (held : (s.pub.slots.get i).state ≠ .free)
    (holder : (s.pub.slots.get i).holder = some p) (stopped : producing s p = false) :
    ∃ t, reviewSlot s i = t ∧ t.pub.slots = s.pub.slots.set i .freed ∧ t.pub.demand = s.pub.demand
      ∧ t.tx = { s.tx with
          bursts := s.tx.bursts.set i []
          slotTally := s.tx.slotTally.modify i (addCount · (slotCtrIx .slotFlushed) (s.tx.bursts.get i).length) }
      ∧ (t.pub.itemTally.get p).get (pubItemCtrIx .sourceStopped)
          = (s.pub.itemTally.get p).get (pubItemCtrIx .sourceStopped) + 1
      ∧ (t.pub.itemTally.get p).get (pubItemCtrIx .released) = (s.pub.itemTally.get p).get (pubItemCtrIx .released)
          + (if (s.pub.slots.get i).releaseOwed then 1 else 0) := by
  refine ⟨stopSlot i p s, by rw [reviewSlot_held held holder, if_pos stopped], ?_⟩
  have counted (c : PubItemCtr) := countItem_get (setSlot i .freed s).pub p p .sourceStopped c
  have released (c : PubItemCtr) := (countItem_get _ p p .released c).trans (congrArg (· + _) (counted c))
  unfold stopSlot countReleased
  cases (s.pub.slots.get i).releaseOwed
  · refine ⟨rfl, rfl, rfl, (counted _).trans ?_, (counted _).trans ?_⟩ <;> simp [setSlot]
  · refine ⟨rfl, rfl, rfl, (released _).trans ?_, (released _).trans ?_⟩ <;> simp [setSlot]

/-! ## The statement -/

/-- Settles O34: each clause is one branch of the status table, of the slot arbiter or of a record's path. -/
theorem statusAndSlots : Obligations.StatusAndSlots := by
  intro s
  refine ⟨fun p => noteStarts_rule, noteStarts_none, statusNow_eq s, fun p i claim first free lower => ?_,
    fun p q i claim first lt holder ⟨r, other, higher⟩ busy => ?_, noteAdvert_eq s,
    fun i p r => linesOnSlot_frees, fun i p x slot freed hx held holder hslot hfreed => ?_,
    fun p r y t holds hholds hy ht => ?_, fun p r t holds hholds ht => ?_, fun k r x => ⟨fun out => ?_, fun out => ?_⟩,
    fun i p => reviewSlot_source⟩
  · exact grantOne_grants (topClaimant_first claim first) free lower
  · rw [yieldOne_yields (topClaimant_first claim first) (yieldingSlot_lower holder other higher busy) lt]
    refine ⟨fun picture => if_pos picture, fun closed => (if_neg (by simp [closed])).trans ?_⟩
    exact vacate_holder (s := onPub (countItem · q .preempted) s) false holder
  · subst hx
    have releases : freed (vacate i true s) := (hfreed _).mpr (vacate_releases holder)
    simp only [hslot]
    refine ⟨fun r => ⟨fun row => ?_, fun row => ⟨pictureOnSlot_carries p r row, pictureOnSlot_ending p r row⟩⟩,
      fun r => ⟨linesOnSlot_granted p r, linesOnSlot_within_picture p r, linesOnSlot_closes p r⟩,
      fun produces => ⟨fun row => ?_, fun row => ?_⟩⟩
    · rwa [pictureOnSlot_released p r row]
    · rw [reviewSlot_held held holder, if_neg (by simp [produces]), if_pos row]
    · rw [reviewSlot_held held holder, if_neg (by simp [produces]), if_neg (by simp [row])]
      refine ⟨fun between => ?_, releaseSlot_open, releaseSlot_ending⟩
      rwa [releaseSlot_between between]
  · obtain rfl : holds = HoldsSlot s.pub p := funext fun i => propext (hholds i)
    subst hy
    have met := heldSlot_cases (onSlot := fun i => pictureOnSlot i p r _) ht
    exact (foldl_listeners p _ _).trans (by rw [← met] <;> rfl)
  · obtain rfl : holds = HoldsSlot s.pub p := funext fun i => propext (hholds i)
    have met := heldSlot_cases (onSlot := fun i => linesOnSlot i p r s) ht
    exact (foldl_listeners p _ _).trans (by rw [← met] <;> rfl)
  · exact pictureToChannel_elsewhere fun g cfg => ofWindow_internal_false fun q aim => out q g aim cfg
  · exact linesToChannel_elsewhere fun g cfg => ofWindow_internal_false fun q aim => out q g aim cfg

end Sys2Proof.Machine
end

section
/-! A source standard adopted: the emptied ring, the crop cut to the frame and the steps that follow (05/R71, R89,
09/R146). -/

namespace Sys2Proof.Machine

/-! ## Counting and flagging -/

section counting
variable (c : Channel) (x : ChanCtr) (f : ChanFlag)

@[simp] theorem countFlag_csl : (countFlag c x f).csl = c.csl := rfl
@[simp] theorem countFlag_int : (countFlag c x f).int = c.int := rfl
@[simp] theorem countFlag_meu : (countFlag c x f).meu = c.meu := rfl
@[simp] theorem countFlag_siz : (countFlag c x f).siz = c.siz := rfl
@[simp] theorem countFlag_sup : (countFlag c x f).sup = c.sup := rfl

theorem countFlag_tally (y : ChanCtr) : (countFlag c x f).tally.get (chanCtrIx y)
    = c.tally.get (chanCtrIx y) + if y = x then 1 else 0 := by
  refine (countMany_get c x y 1).trans ?_
  by_cases e : y = x <;> simp [e]

theorem countFlag_flags (g : ChanFlag) : (countFlag c x f).flags.get (chanFlagIx g)
    = (decide (g = f) || c.flags.get (chanFlagIx g)) := flag_get (count c x) f g

end counting

/-! ## The frame of a standard (05/R71) -/

theorem cutRect_eq (a : Rect) (lines samples : Nat) :
    cutRect a lines samples = (cutTo a lines samples, !decide (meetsFrame a lines samples)) := by
  have meets : (a.firstLine < min (a.firstLine + a.lineCount) lines
      ∧ a.firstSample < min (a.firstSample + a.sampleCount) samples) ↔ meetsFrame a lines samples := by
    simp only [meetsFrame]
    omega
  unfold cutRect cutTo
  dsimp only
  by_cases inside : meetsFrame a lines samples
  · rw [if_pos (meets.mpr inside), if_pos inside, decide_eq_true inside]
    have cut (first count bound : Nat) : min (first + count) bound - first = min count (bound - first) := by omega
    rw [cut, cut]
    rfl
  · rw [if_neg fun h => inside (meets.mp h), if_neg inside, decide_eq_false inside]
    rfl

/-- The sizer with the steps of a crop (09/R146). -/
def withSteps (crop : Option Rect) (z : Sizer) : Sizer :=
  match crop, z.placement with
  | some r, some p => { z with
      vStep := some (r.lineCount * 65536 / p.lineCount), hStep := some (r.sampleCount * 65536 / p.sampleCount) }
  | _, _ => z

theorem computeSteps_eq (c : Channel) : computeSteps c = { c with siz := withSteps c.int.crop c.siz } := by
  unfold computeSteps withSteps
  cases cropped : c.int.crop with
  | none => rfl
  | some r =>
    cases placed : c.siz.placement with
    | none => rfl
    | some p => simp only [placed]

theorem computeDelay_frame (cfg : ChanConfig) (c : Channel) :
    computeDelay cfg c = { c with ren := (computeDelay cfg c).ren, flags := (computeDelay cfg c).flags } := by
  unfold computeDelay
  dsimp only
  split <;> rfl

theorem computeDelay_outside (cfg : ChanConfig) (c : Channel) : outside (computeDelay cfg c) = outside c := by
  unfold computeDelay
  dsimp only
  split
  · exact flag_outside (by decide) _
  · rfl

/-- The intake's values for a standard, its crop flagged where it lies wholly outside the frame (05/R71, R78). -/
def adopted (env : Env) (code : StdCode) (c : Channel) : Channel :=
  let st := standardOf code
  let c1 := { c with
    int := { c.int with
      standard := code, crop := some (cutTo env.cfg.crop st.lines st.samples), pEst := st.rawPeriod }
    cad := formHunted env.cfg.cadenceEnable code c.cad }
  if meetsFrame env.cfg.crop st.lines st.samples then c1 else flag c1 .windowClamped

theorem adopt_eq (env : Env) (code : StdCode) (c : Channel) :
    adopt env code c = computeSteps (computeDelay env.cfg (adopted env code c)) := by
  unfold adopt adopted
  dsimp only
  rw [cutRect_eq]
  by_cases inside : meetsFrame env.cfg.crop (standardOf code).lines (standardOf code).samples
  · rw [if_pos inside, decide_eq_true inside]; rfl
  · rw [if_neg inside, decide_eq_false inside]; rfl

theorem adopted_int (env : Env) (code : StdCode) (c : Channel) :
    (adopted env code c).int = { c.int with
      standard := code, pEst := (standardOf code).rawPeriod
      crop := some (cutTo env.cfg.crop (standardOf code).lines (standardOf code).samples) } := by
  unfold adopted
  dsimp only
  split <;> rfl

theorem adopted_rest (env : Env) (code : StdCode) (c : Channel) :
    (adopted env code c).csl = c.csl ∧ (adopted env code c).sup = c.sup ∧ (adopted env code c).siz = c.siz
      ∧ (adopted env code c).meu = c.meu ∧ (adopted env code c).tally = c.tally := by
  unfold adopted
  dsimp only
  split <;> exact ⟨rfl, rfl, rfl, rfl, rfl⟩

theorem adopted_clamped (env : Env) (code : StdCode) (c : Channel) :
    (adopted env code c).flags.get (chanFlagIx .windowClamped) = (c.flags.get (chanFlagIx .windowClamped)
      || !decide (meetsFrame env.cfg.crop (standardOf code).lines (standardOf code).samples)) := by
  unfold adopted
  dsimp only
  by_cases inside : meetsFrame env.cfg.crop (standardOf code).lines (standardOf code).samples
  · rw [if_pos inside, decide_eq_true inside]; simp
  · rw [if_neg inside, decide_eq_false inside, flag_get]; simp

theorem adopt_frame (env : Env) (code : StdCode) (c : Channel) :
    adopt env code c = { adopted env code c with
      ren := (adopt env code c).ren, siz := withSteps (adopted env code c).int.crop c.siz
      flags := (computeDelay env.cfg (adopted env code c)).flags } := by
  have frame := computeDelay_frame env.cfg (adopted env code c)
  have int : (computeDelay env.cfg (adopted env code c)).int = (adopted env code c).int := by rw [frame]
  have siz : (computeDelay env.cfg (adopted env code c)).siz = c.siz := by
    rw [frame]
    exact (adopted_rest env code c).2.2.1
  rw [adopt_eq, computeSteps_eq, int, siz]
  rw [frame]

/-! ## The flush (05/R89) -/

theorem abandonRender_frame (c : Channel) : abandonRender c = { c with
    ren := (abandonRender c).ren, port := (abandonRender c).port, tally := (abandonRender c).tally } := by
  unfold abandonRender
  split
  · split <;> rfl
  · rfl

theorem abandonRender_outside (c : Channel) :
    outside (abandonRender c) = { outside c with port := (abandonRender c).port } := by
  unfold abandonRender
  split
  · split
    · rfl
    · exact count_outside (by decide) _
  · rfl

theorem abandonJobs_frame (c : Channel) :
    abandonJobs c = { c with meu := ⟨[], none⟩, tally := (abandonJobs c).tally } := by
  unfold abandonJobs
  dsimp only
  split <;> rfl

theorem cadenceToVideo_frame (c : Channel) : cadenceToVideo c = { c with
    cad := (cadenceToVideo c).cad, tally := (cadenceToVideo c).tally, flags := (cadenceToVideo c).flags } := by
  unfold cadenceToVideo
  dsimp only
  split <;> rfl

/-- The intake after a flush: nothing in the ring, no stamp held (05/R89). -/
def flushedIntake (now : Time) (x : Intake) : Intake := { x with
  slots := Bank.fill 12 .empty, committed := [], history := [], openSlot := none, refused := none, retireRef := none
  newest := none, lastClosed := none, lastCommitted := none, pEst := (standardOf x.standard).rawPeriod
  lastCommitTime := some now, stallMark := false }

/-- The channel that a flush empties, before its detector returns to VIDEO. -/
def emptiedRing (now : Time) (c : Channel) : Channel :=
  { abandonJobs (abandonRender c) with int := flushedIntake now (abandonJobs (abandonRender c)).int }

theorem flush_eq (now : Time) (c : Channel) : flush now c = count (cadenceToVideo (emptiedRing now c)) .flushes := rfl

theorem flush_int (now : Time) (c : Channel) : (flush now c).int = flushedIntake now c.int := by
  have ring : (cadenceToVideo (emptiedRing now c)).int = flushedIntake now (abandonJobs (abandonRender c)).int := by
    rw [cadenceToVideo_frame]; rfl
  rw [flush_eq]
  refine ring.trans ?_
  rw [abandonJobs_frame, abandonRender_frame]

theorem flush_meu (now : Time) (c : Channel) : (flush now c).meu = ⟨[], none⟩ := by
  have jobs : (cadenceToVideo (emptiedRing now c)).meu = (abandonJobs (abandonRender c)).meu := by
    rw [cadenceToVideo_frame]; rfl
  rw [flush_eq]
  refine jobs.trans ?_
  rw [abandonJobs_frame]

theorem flush_outside (now : Time) (c : Channel) :
    outside (flush now c) = { outside c with port := (abandonRender c).port } := by
  rw [flush_eq]
  refine (count_outside (by decide) _).trans ((cadenceToVideo_outside _).trans ?_)
  exact (abandonJobs_outside _).trans (abandonRender_outside c)

/-! ## A standard change (05/R72, 04/R65) -/

/-- What a channel holds once its source has brought another standard, against the channel before it. -/
structure Renewed (g : ChanConfig) (code : StdCode) (c d : Channel) : Prop where
  standard : d.int.standard = code
  crop : d.int.crop = some (cutTo g.crop (standardOf code).lines (standardOf code).samples)
  period : d.int.pEst = (standardOf code).rawPeriod
  committed : d.int.committed = []
  history : d.int.history = []
  motion : d.meu = ⟨[], none⟩
  steps : d.siz = withSteps d.int.crop c.siz
  counted : d.tally.get (chanCtrIx .standardChange) = c.tally.get (chanCtrIx .standardChange) + 1
  flagged : d.flags.get (chanFlagIx .standardChange) = true
  clamped : d.flags.get (chanFlagIx .windowClamped) = (c.flags.get (chanFlagIx .windowClamped)
    || !decide (meetsFrame g.crop (standardOf code).lines (standardOf code).samples))

theorem changeStandard_eq (env : Env) (code : StdCode) (c : Channel) : changeStandard env code c
    = countFlag (adopt env code (flush env.now c)) .standardChange .standardChange := rfl

theorem adopt_int (env : Env) (code : StdCode) (c : Channel) : (adopt env code c).int = { c.int with
    standard := code, pEst := (standardOf code).rawPeriod
    crop := some (cutTo env.cfg.crop (standardOf code).lines (standardOf code).samples) } := by
  rw [adopt_frame]
  exact adopted_int env code c

/-- The parts that an adoption leaves alone, and the steps it forms. -/
theorem adopt_rest (env : Env) (code : StdCode) (c : Channel) :
    (adopt env code c).csl = c.csl ∧ (adopt env code c).sup = c.sup ∧ (adopt env code c).meu = c.meu
      ∧ (adopt env code c).tally = c.tally ∧ (adopt env code c).siz = withSteps (adopt env code c).int.crop c.siz := by
  obtain ⟨csl, sup, -, meu, tally⟩ := adopted_rest env code c
  rw [adopt_frame]
  exact ⟨csl, sup, meu, tally, rfl⟩

theorem adopt_clamped (env : Env) (code : StdCode) (c : Channel) :
    (adopt env code c).flags.get (chanFlagIx .windowClamped) = (c.flags.get (chanFlagIx .windowClamped)
      || !decide (meetsFrame env.cfg.crop (standardOf code).lines (standardOf code).samples)) := by
  have delayed := outside_mark (computeDelay_outside env.cfg (adopted env code c)) (f := .windowClamped) (by decide)
  rw [adopt_frame]
  exact delayed.trans (adopted_clamped env code c)

section changed
variable (env : Env) (code : StdCode) (c : Channel)

theorem changeStandard_int : (changeStandard env code c).int = { flushedIntake env.now c.int with
    standard := code, pEst := (standardOf code).rawPeriod
    crop := some (cutTo env.cfg.crop (standardOf code).lines (standardOf code).samples) } := by
  rw [changeStandard_eq, countFlag_int, adopt_int, flush_int]

theorem changeStandard_csl : (changeStandard env code c).csl = c.csl := by
  obtain ⟨csl, -⟩ := adopt_rest env code (flush env.now c)
  rw [changeStandard_eq, countFlag_csl, csl]
  exact congrArg Outside.csl (flush_outside env.now c)

theorem changeStandard_sup : (changeStandard env code c).sup = c.sup := by
  obtain ⟨-, sup, -⟩ := adopt_rest env code (flush env.now c)
  rw [changeStandard_eq, countFlag_sup, sup]
  exact congrArg Outside.sup (flush_outside env.now c)

/-- Of the counters of switches, admissions and the Channel Supervisor, a standard change counts itself alone. -/
theorem changeStandard_tally {x : ChanCtr} (hx : x ∈ reportCounters) :
    (changeStandard env code c).tally.get (chanCtrIx x)
      = c.tally.get (chanCtrIx x) + if x = .standardChange then 1 else 0 := by
  obtain ⟨-, -, -, tally, -⟩ := adopt_rest env code (flush env.now c)
  have flushed := outside_report (c := { c with port := (abandonRender c).port }) (flush_outside env.now c) hx
  rw [changeStandard_eq, countFlag_tally, tally, flushed]

theorem changeStandard_renewed : Renewed env.cfg code c (changeStandard env code c) := by
  have int := changeStandard_int env code c
  obtain ⟨-, -, meu, -, steps⟩ := adopt_rest env code (flush env.now c)
  have siz : (flush env.now c).siz = c.siz := congrArg Outside.siz (flush_outside env.now c)
  have flushed : (flush env.now c).flags.get (chanFlagIx .windowClamped) = c.flags.get (chanFlagIx .windowClamped) :=
    outside_mark (c := { c with port := (abandonRender c).port }) (flush_outside env.now c) (by decide)
  refine ⟨by rw [int], by rw [int], by rw [int], by rw [int]; rfl, by rw [int]; rfl, ?_, ?_, ?_, ?_, ?_⟩
  · rw [changeStandard_eq, countFlag_meu, meu, flush_meu]
  · rw [changeStandard_eq, countFlag_siz, countFlag_int, steps, siz]
  · rw [changeStandard_tally env code c (by decide)]; simp
  · rw [changeStandard_eq, countFlag_flags]; simp
  · rw [changeStandard_eq, countFlag_flags, adopt_clamped, flushed, decide_eq_false (by decide), Bool.false_or]

end changed

end Sys2Proof.Machine
end

section
/-! A source that brings another standard, at the channel: the switch, the relock with the entry that follows, and the
picture opened in the emptied ring (04/R64, R65, 05/R72, 10/R168, R172, R173). -/

namespace Sys2Proof.Machine

/-! ## An emptied ring -/

/-- The ring holds no picture, and no stamp is known. -/
structure EmptyRing (c : Channel) : Prop where
  slots : ∀ i, slotOf c i = .empty
  newest : c.int.newest = none
  openSlot : c.int.openSlot = none

theorem pairingSlot_none {c : Channel} (h : ∀ i, (slotOf c i).state ≠ .pairing) : pairingSlot c = none :=
  List.find?_eq_none.mpr fun i _ => by simpa using h i

theorem closeOpen_none {c : Channel} (env : Env) (h : c.int.openSlot = none) : closeOpen env c = c := by
  unfold closeOpen
  rw [h]

theorem changeStandard_emptyRing (env : Env) (code : StdCode) (c : Channel) : EmptyRing (changeStandard env code c) := by
  have int := changeStandard_int env code c
  exact ⟨fun i => by rw [slotOf, int]; exact Bank.get_fill Slot.empty i, by rw [int]; rfl, by rw [int]; rfl⟩

/-- Nothing is committed and no slot is kept for the field history: a sweep finds nothing to free. -/
structure Swept (c : Channel) : Prop where
  committed : c.int.committed = []
  kept : ∀ i, (slotOf c i).state ≠ .history

theorem Swept.sweep {c : Channel} (h : Swept c) : sweep c = c := by
  have history (i : SlotNo) : freeHistoryOne c i = c := if_neg fun e => h.kept i e.1
  unfold Machine.sweep retireAll
  rw [h.committed]
  exact List.foldl_fixed' history _

theorem EmptyRing.swept {c : Channel} (h : EmptyRing c) (committed : c.int.committed = []) : Swept c :=
  ⟨committed, fun i => by rw [h.slots i]; decide⟩

/-! ## The entries that follow a relock (10/R168, R172, R173) -/

/-- What the picture path leaves alone of a channel, but for its supervisor and its port. -/
def Outside.inner (o : Outside) := (o.csl, o.siz, o.aim, o.standard, o.reports, o.marks)

def inside (c : Channel) := (outside c).inner

theorem inside_of_outside {c d : Channel} {p : Port} (h : outside d = { outside c with port := p }) :
    inside d = inside c := (congrArg Outside.inner h :)

theorem inside_csl {c d : Channel} (h : inside d = inside c) : d.csl = c.csl := congrArg Prod.fst h
theorem inside_siz {c d : Channel} (h : inside d = inside c) : d.siz = c.siz := congrArg (·.2.1) h

theorem inside_report {c d : Channel} (h : inside d = inside c) {x : ChanCtr} (hx : x ∈ reportCounters) :
    d.tally.get (chanCtrIx x) = c.tally.get (chanCtrIx x) := by
  have reports : (reportCounters.map fun y => d.tally.get (chanCtrIx y))
      = reportCounters.map fun y => c.tally.get (chanCtrIx y) := congrArg (·.2.2.2.2.1) h
  exact List.map_inj_left.mp reports x hx

theorem inside_mark {c d : Channel} (h : inside d = inside c) {f : ChanFlag} (hf : f ∈ reportFlags) :
    d.flags.get (chanFlagIx f) = c.flags.get (chanFlagIx f) := by
  have marks : (reportFlags.map fun g => d.flags.get (chanFlagIx g))
      = reportFlags.map fun g => c.flags.get (chanFlagIx g) := congrArg (·.2.2.2.2.2) h
  exact List.map_inj_left.mp marks f hf

theorem leaveConverting_frame {c : Channel} (h : Swept c) : leaveConverting c = { c with
    ren := (leaveConverting c).ren, port := (leaveConverting c).port, tally := (leaveConverting c).tally } := by
  have swept : sweep (abandonRender c) = abandonRender c :=
    Swept.sweep (by rw [abandonRender_frame]; exact ⟨h.committed, h.kept⟩)
  unfold leaveConverting
  split
  · rw [swept]; exact abandonRender_frame c
  · rfl

theorem leaveConverting_inside (c : Channel) : inside (leaveConverting c) = inside c := by
  unfold leaveConverting
  split
  · exact (congrArg Outside.inner (sweep_outside _)).trans (inside_of_outside (abandonRender_outside c))
  · rfl

theorem countRelock_tally (c : Channel) (x : ChanCtr) : (countRelock c).tally.get (chanCtrIx x)
    = c.tally.get (chanCtrIx x) + if x = .relocks then 1 else 0 := by
  refine (countMany_get _ _ x 1).trans ?_
  by_cases e : x = .relocks <;> simp [e]

theorem startAcquiring_frame (env : Env) {c : Channel} (h : Swept c) : startAcquiring env c = { c with
    sup := { c.sup with
      state := .acquiring, acquisition := some (shift env.now (env.cfg.acquisitionSeconds * ticksPerSecond : Nat))
      holdover := none, decay := none }
    int := { c.int with lastCommitTime := some env.now }
    ren := (startAcquiring env c).ren, port := (startAcquiring env c).port
    tally := (startAcquiring env c).tally, flags := (startAcquiring env c).flags } := by
  unfold startAcquiring
  dsimp only
  rw [computeDelay_frame, leaveConverting_frame h]

theorem startAcquiring_inside (env : Env) (c : Channel) : inside (startAcquiring env c) = inside c :=
  (congrArg Outside.inner (computeDelay_outside env.cfg _)).trans (leaveConverting_inside c)

theorem startAcquiring_int (env : Env) {c : Channel} (h : Swept c) :
    (startAcquiring env c).int = { c.int with lastCommitTime := some env.now } := by rw [startAcquiring_frame env h]

theorem startAcquiring_sup (env : Env) {c : Channel} (h : Swept c) : (startAcquiring env c).sup = { c.sup with
    state := .acquiring, acquisition := some (shift env.now (env.cfg.acquisitionSeconds * ticksPerSecond : Nat))
    holdover := none, decay := none } := by rw [startAcquiring_frame env h]

theorem startAcquiring_meu (env : Env) {c : Channel} (h : Swept c) : (startAcquiring env c).meu = c.meu := by
  rw [startAcquiring_frame env h]

theorem startLatched_sup (env : Env) {c : Channel} (h : Swept c) : (startLatched env c).sup = { c.sup with
    state := .latched, acquisition := none, holdover := none, decay := none } := by
  refine (congrArg Outside.sup (flush_outside env.now _)).trans ?_
  rw [leaveConverting_frame h]
  rfl

theorem startLatched_int (env : Env) {c : Channel} (h : Swept c) :
    (startLatched env c).int = flushedIntake env.now c.int := by
  refine (flush_int env.now _).trans ?_
  rw [leaveConverting_frame h]

theorem startLatched_meu (env : Env) (c : Channel) : (startLatched env c).meu = ⟨[], none⟩ := flush_meu env.now _

theorem startLatched_inside (env : Env) (c : Channel) : inside (startLatched env c) = inside c :=
  (inside_of_outside (flush_outside env.now _)).trans (leaveConverting_inside c)

/-! ## The switch (04/R64) -/

/-- The channel whose Copy Selector has chosen, before the old picture is closed. -/
def aimed (env : Env) (q : Option Copy) (c : Channel) : Channel :=
  { c with csl := { aimCalls env.now env.cfg q c.csl with selection := q, deferred := 0, revert := none } }

/-- The switched channel, before the count, of the channel that has met the new copy's standard. -/
def admits (q : Option Copy) (offer : Option Candidate) (c : Channel) : Channel := { c with
  int := { c.int with switchCount := c.int.switchCount + 1, aim := q }
  csl := { c.csl with rebasePending := q.isSome
                      sourceGeneration := (offer.map (·.generation)).getD c.csl.sourceGeneration } }

theorem switchChannel_offered (env : Env) (q : Copy) (o : Candidate) (c : Channel) :
    switchChannel env (some q) (some o) c
      = countFlag (admits (some q) (some o) (meetStandard env o.standard (closeOld env (aimed env (some q) c))))
          .copySwitch .copySwitch := rfl

theorem switchChannel_latched (env : Env) {c : Channel} (h : c.sup.state = .latched) : switchChannel env none none c
    = countFlag (admits none none (closeOld env (aimed env none c))) .copySwitch .copySwitch := by
  have sup : (closeOld env (aimed env none c)).sup = c.sup := congrArg Outside.sup (closeOld_outside env _)
  have still : ¬((none : Option Copy).isNone && activeState
      (countFlag (admits none none (closeOld env (aimed env none c))) .copySwitch .copySwitch).sup.state) = true := by
    change ¬(_ && activeState (closeOld env (aimed env none c)).sup.state) = true
    rw [sup, h]
    decide
  exact if_neg still

theorem meetStandard_other (env : Env) {code : StdCode} {c : Channel} (known : c.int.standard ≠ 0)
    (other : code ≠ c.int.standard) : meetStandard env code c = changeStandard env code c := by
  rw [meetStandard, if_neg known, if_neg other]

/-- The copy switched to, in a channel whose ring it emptied. -/
structure Switched (q : Copy) (c d : Channel) : Prop where
  ring : EmptyRing d
  selection : d.csl.selection = some q
  aim : d.int.aim = some q
  sup : d.sup = c.sup
  passOver : d.csl.passOver = c.csl.passOver
  forced : d.csl.forced = c.csl.forced
  tally : ∀ x ∈ reportCounters, d.tally.get (chanCtrIx x)
    = c.tally.get (chanCtrIx x) + if x = .copySwitch ∨ x = .standardChange then 1 else 0

theorem aimCalls_passOver (now : Time) (g : ChanConfig) (q : Option Copy) (x : Selector) :
    (aimCalls now g q x).passOver = x.passOver := by
  unfold aimCalls
  split
  · split <;> rfl
  · rfl

/-- What a channel was renewed to, as one value. -/
def renewal (c : Channel) :=
  (c.int.standard, c.int.crop, c.int.pEst, c.int.committed, c.int.history, c.meu, c.siz,
    c.tally.get (chanCtrIx .standardChange), c.flags.get (chanFlagIx .standardChange),
    c.flags.get (chanFlagIx .windowClamped))

theorem Renewed.keep {g : ChanConfig} {code : StdCode} {c d e : Channel} (h : Renewed g code c d)
    (same : renewal e = renewal d) : Renewed g code c e := by
  obtain ⟨standard, crop, period, committed, history, motion, steps, counted, flagged, clamped⟩ := h
  simp only [renewal, Prod.mk.injEq] at same
  obtain ⟨standard', crop', period', committed', history', motion', siz', counted', flagged', clamped'⟩ := same
  exact ⟨standard'.trans standard, crop'.trans crop, period'.trans period, committed'.trans committed,
    history'.trans history, motion'.trans motion, by rw [siz', crop', steps], counted'.trans counted,
    flagged'.trans flagged, clamped'.trans clamped⟩

/-- Renewed against a channel that agrees with another on the sizer, the count and the flag. -/
theorem Renewed.from {g : ChanConfig} {code : StdCode} {b c d : Channel} (h : Renewed g code c d) (siz : c.siz = b.siz)
    (counted : c.tally.get (chanCtrIx .standardChange) = b.tally.get (chanCtrIx .standardChange))
    (clamped : c.flags.get (chanFlagIx .windowClamped) = b.flags.get (chanFlagIx .windowClamped)) :
    Renewed g code b d :=
  { h with
    steps := siz ▸ h.steps
    counted := counted ▸ h.counted
    clamped := clamped ▸ h.clamped }

theorem admits_renewal (q : Option Copy) (o : Option Candidate) (c : Channel) :
    renewal (countFlag (admits q o c) .copySwitch .copySwitch) = renewal c := by
  simp only [renewal, countFlag_int, countFlag_meu, countFlag_siz, countFlag_tally, countFlag_flags]
  simp [admits]

section switches
variable {env : Env} {q : Copy} {o : Candidate} {c : Channel}

theorem admits_switched {d : Channel} (ring : EmptyRing d) (csl : d.csl = (aimed env (some q) c).csl)
    (sup : d.sup = c.sup) (tally : ∀ x ∈ reportCounters, d.tally.get (chanCtrIx x)
      = c.tally.get (chanCtrIx x) + if x = .standardChange then 1 else 0) :
    Switched q c (countFlag (admits (some q) (some o) d) .copySwitch .copySwitch) where
  ring := ⟨ring.slots, ring.newest, ring.openSlot⟩
  selection := congrArg Selector.selection csl
  aim := rfl
  sup := sup
  passOver := (congrArg Selector.passOver csl).trans (aimCalls_passOver ..)
  forced := (congrArg Selector.forced csl).trans (aimCalls_forced ..)
  tally x hx := by
    rw [countFlag_tally, admits, tally x hx]
    by_cases switch : x = .copySwitch
    · subst switch; simp
    · simp [switch]

/-- A switch to a copy that advertises another standard (04/R64, R65). -/
theorem switchChannel_switched (known : c.int.standard ≠ 0) (other : o.standard ≠ c.int.standard) :
    Switched q c (switchChannel env (some q) (some o) c)
      ∧ Renewed env.cfg o.standard c (switchChannel env (some q) (some o) c) := by
  have closed : outside (closeOld env (aimed env (some q) c)) = outside (aimed env (some q) c) := closeOld_outside env _
  rw [switchChannel_offered]
  generalize closeOld env (aimed env (some q) c) = old at closed ⊢
  have standard : old.int.standard = c.int.standard := congrArg Outside.standard closed
  rw [meetStandard_other env (by rw [standard]; exact known) (by rw [standard]; exact other)]
  have renewed : Renewed env.cfg o.standard c (changeStandard env o.standard old) :=
    (changeStandard_renewed env o.standard old).from (congrArg Outside.siz closed)
      (outside_report closed (by decide)) (outside_mark closed (by decide))
  refine ⟨admits_switched (env := env) (changeStandard_emptyRing env o.standard old) ?_ ?_ fun x hx => ?_,
    renewed.keep (admits_renewal ..)⟩
  · rw [changeStandard_csl]; exact congrArg Outside.csl closed
  · rw [changeStandard_sup]; exact congrArg Outside.sup closed
  · rw [changeStandard_tally env o.standard old hx, outside_report closed hx]; rfl

end switches

/-! ## The entry into LATCHED, at the channel (10/R173) -/

/-- The channel's part of the entry into LATCHED. -/
def latchChannel (env : Env) (c : Channel) : Channel :=
  let d := startLatched env c
  countFlag (if d.csl.selection.isSome then switchChannel env none none d else d) .latches .channelLatched

/-- What the entry into LATCHED leaves of a channel, against the channel before it. -/
structure Latched (c d : Channel) : Prop where
  slots : ∀ i, slotOf d i = .empty
  newest : d.int.newest = none
  openSlot : d.int.openSlot = none
  selection : d.csl.selection = none
  aim : c.csl.selection ≠ none → d.int.aim = none
  sup : d.sup = { c.sup with state := .latched, acquisition := none, holdover := none, decay := none }
  tally : ∀ x ∈ reportCounters, x ≠ .copySwitch → d.tally.get (chanCtrIx x)
    = c.tally.get (chanCtrIx x) + if x = .latches then 1 else 0
  flagged : d.flags.get (chanFlagIx .channelLatched) = true

theorem flushedIntake_slots (now : Time) (x : Intake) (i : SlotNo) : (flushedIntake now x).slots.get i = .empty :=
  Bank.get_fill Slot.empty i

/-- The deselection of a flushed channel (04/R64, 10/R173). -/
theorem closeOld_emptyRing (env : Env) {c : Channel} (h : EmptyRing c) : closeOld env c = cadenceToVideo c := by
  have pairing : pairingSlot c = none := pairingSlot_none fun i => by rw [h.slots i]; decide
  unfold closeOld
  dsimp only
  rw [closeOpen_none env h.openSlot, pairing]

/-- The deselection leaves of an emptied channel all but its Copy Selector, its aim and the counts of its switch. -/
structure Deselected (c d : Channel) : Prop where
  int : d.int = { c.int with switchCount := c.int.switchCount + 1, aim := none }
  selection : d.csl.selection = none
  sup : d.sup = c.sup
  meu : d.meu = c.meu
  siz : d.siz = c.siz
  tally : ∀ x ∈ reportCounters, x ≠ .copySwitch → d.tally.get (chanCtrIx x) = c.tally.get (chanCtrIx x)
  flags : ∀ f ∈ reportFlags, d.flags.get (chanFlagIx f) = c.flags.get (chanFlagIx f)

theorem cadenceToVideo_int (c : Channel) : (cadenceToVideo c).int = c.int := by rw [cadenceToVideo_frame]
theorem cadenceToVideo_meu (c : Channel) : (cadenceToVideo c).meu = c.meu := by rw [cadenceToVideo_frame]

theorem deselected {env : Env} {c : Channel} (ring : EmptyRing c) (latched : c.sup.state = .latched) :
    Deselected c (switchChannel env none none c) := by
  have ring' : EmptyRing (aimed env none c) := ⟨ring.slots, ring.newest, ring.openSlot⟩
  have old := cadenceToVideo_outside (aimed env none c)
  have int : (cadenceToVideo (aimed env none c)).int = c.int := cadenceToVideo_int _
  have meu : (cadenceToVideo (aimed env none c)).meu = c.meu := cadenceToVideo_meu _
  rw [switchChannel_latched env latched, closeOld_emptyRing env ring']
  generalize cadenceToVideo (aimed env none c) = d at old int meu ⊢
  refine ⟨?_, ?_, congrArg Outside.sup old, meu, congrArg Outside.siz old, fun x hx other => ?_, fun f hf => ?_⟩
  · rw [countFlag_int, admits, int]
  · exact congrArg (·.csl.selection) old
  · rw [countFlag_tally, if_neg other]
    simpa [admits, aimed] using outside_report old hx
  · have raised : f ≠ .copySwitch := fun e => absurd hf (by rw [e]; decide)
    rw [countFlag_flags, decide_eq_false raised, Bool.false_or]
    exact outside_mark old hf

theorem startLatched_emptyRing (env : Env) {c : Channel} (h : Swept c) : EmptyRing (startLatched env c) := by
  have int := startLatched_int env h
  exact ⟨fun i => by rw [slotOf, int]; exact flushedIntake_slots .., by rw [int]; rfl, by rw [int]; rfl⟩

/-- The entry into LATCHED, of a channel that has just met its standard (10/R173). -/
theorem latchChannel_latched (env : Env) {c : Channel} (h : Swept c) : Latched c (latchChannel env c) := by
  have ring := startLatched_emptyRing env h
  have sup := startLatched_sup env h
  have kept := startLatched_inside env c
  unfold latchChannel
  dsimp only
  generalize startLatched env c = d at ring sup kept ⊢
  have csl : d.csl = c.csl := inside_csl kept
  by_cases selects : d.csl.selection.isSome
  · rw [if_pos selects]
    obtain ⟨int, selection, sup', -, -, tally, -⟩ := deselected (env := env) ring (by rw [sup])
    generalize switchChannel env none none d = e at int selection sup' tally ⊢
    refine ⟨?_, ?_, ?_, selection, fun _ => ?_, sup'.trans sup, fun x hx other => ?_, ?_⟩
    · intro i; rw [slotOf, countFlag_int, int]; exact ring.slots i
    · rw [countFlag_int, int]; exact ring.newest
    · rw [countFlag_int, int]; exact ring.openSlot
    · rw [countFlag_int, int]
    · rw [countFlag_tally, tally x hx other, inside_report kept hx]
    · rw [countFlag_flags]; simp
  · rw [if_neg selects]
    have selection : d.csl.selection = none := by simpa using selects
    refine ⟨ring.slots, ring.newest, ring.openSlot, selection, fun some => ?_, sup, fun x hx other => ?_, ?_⟩
    · exact absurd (csl ▸ selection) some
    · rw [countFlag_tally, inside_report kept hx]
    · rw [countFlag_flags]; simp

/-! ## What stays renewed -/

theorem Renewed.relock {g : ChanConfig} {code : StdCode} {c d : Channel} (h : Renewed g code c d) :
    Renewed g code c (countRelock d) := by
  have counted : (countRelock d).tally.get (chanCtrIx .standardChange) = d.tally.get (chanCtrIx .standardChange) := by
    rw [countRelock_tally]; simp
  exact h.keep (by rw [renewal, counted]; rfl)

theorem Renewed.acquire {g : ChanConfig} {code : StdCode} {c d : Channel} (env : Env) (swept : Swept d)
    (h : Renewed g code c d) : Renewed g code c (startAcquiring env d) := by
  have kept := startAcquiring_inside env d
  refine h.keep ?_
  simp only [renewal, inside_report kept (x := .standardChange) (by decide),
    inside_mark kept (f := .standardChange) (by decide), inside_mark kept (f := .windowClamped) (by decide),
    inside_siz kept, startAcquiring_meu env swept, startAcquiring_int env swept]

theorem Renewed.latch {g : ChanConfig} {code : StdCode} {c d : Channel} (env : Env) (swept : Swept d)
    (h : Renewed g code c d) : Renewed g code c (latchChannel env d) := by
  have kept := startLatched_inside env d
  have ring := startLatched_emptyRing env swept
  have sup := startLatched_sup env swept
  have flushed : Renewed g code c (startLatched env d) := h.keep (by
    simp only [renewal, inside_report kept (x := .standardChange) (by decide),
      inside_mark kept (f := .standardChange) (by decide), inside_mark kept (f := .windowClamped) (by decide),
      inside_siz kept, startLatched_meu, startLatched_int env swept]
    simp only [flushedIntake, h.standard, h.period, h.committed, h.history, h.motion])
  unfold latchChannel
  dsimp only
  generalize startLatched env d = e at flushed ring sup ⊢
  have counted (x : Channel) : renewal (countFlag x .latches .channelLatched) = renewal x := by
    simp [renewal, countFlag_tally, countFlag_flags]
  refine Renewed.keep ?_ (counted _)
  split
  · obtain ⟨int, -, -, meu, siz, tally, flags⟩ := deselected (env := env) ring (by rw [sup])
    refine flushed.keep ?_
    simp only [renewal, int, meu, siz, tally .standardChange (by decide) (by decide), flags .standardChange (by decide),
      flags .windowClamped (by decide)]
  · exact flushed

end Sys2Proof.Machine
end

section
/-! A PICTURE record that brings another standard, at the channel: admitted into the ring it emptied (05/R72, R73). -/

namespace Sys2Proof.Machine

theorem giveStamp_fresh {c : Channel} (fresh : c.int.newest = none) (mapped : Time) : giveStamp mapped c
    = (if c.csl.rebasePending then mapped else shift mapped c.csl.rebase, { c with csl := { c.csl with
        rebase := (giveStamp mapped c).2.csl.rebase, rebaseStep := (giveStamp mapped c).2.csl.rebaseStep
        rebasePending := false } }) := by
  unfold giveStamp
  dsimp only
  by_cases pending : c.csl.rebasePending
  · simp only [pending, if_true, fresh]
  · simp [pending]

theorem takeSlot_emptyRing {c : Channel} (h : EmptyRing c) : takeSlot c = some (0, c) := by
  have lowest : lowestFree c = some 0 := by
    unfold lowestFree
    simp only [h.slots]
    decide
  rw [takeSlot, lowest]

/-- The raw picture that a PICTURE record opens in an emptied ring. -/
def freshRaw (p : PictureRecord) (stamp : Time) (c : Channel) : RawPicture :=
  ⟨p.kind, p.sequence, stamp, c.int.switchCount, none⟩

theorem closeStampOpen_emptyRing (env : Env) (mapped : Time) (p : PictureRecord) {c : Channel} (h : EmptyRing c) :
    closeStampOpen env mapped p c = nowOpen 0 (giveStamp mapped c).1 (onSlot 0
      (fun _ => { Slot.empty with state := .filling, raws := [freshRaw p (giveStamp mapped c).1 c] })
      (giveStamp mapped c).2) := by
  have stamped := giveStamp_fresh h.newest mapped
  have int : (giveStamp mapped c).2.int = c.int := by rw [stamped]
  have ring : EmptyRing (giveStamp mapped c).2 := by rw [stamped]; exact ⟨h.slots, h.newest, h.openSlot⟩
  have pairing : pairingSlot (giveStamp mapped c).2 = none := pairingSlot_none fun i => by rw [ring.slots i]; decide
  unfold closeStampOpen
  dsimp only
  rw [closeOpen_none env h.openSlot, if_neg (by rw [ring.newest]; simp), openPicture, pairing]
  simp only
  rw [openOwn, takeSlot_emptyRing ring, int]
  rfl

/-- A picture opened in an emptied ring, against the channel before its admission. -/
structure Opened (p : PictureRecord) (stamp : Time) (c d : Channel) : Prop where
  openSlot : d.int.openSlot = some 0
  newest : d.int.newest = some stamp
  refused : d.int.refused = none
  slot : slotOf d 0 = { Slot.empty with state := .filling, raws := [freshRaw p stamp c] }
  others : ∀ i, i ≠ 0 → slotOf d i = .empty
  selection : d.csl.selection = c.csl.selection
  passOver : d.csl.passOver = c.csl.passOver
  forced : d.csl.forced = c.csl.forced
  sup : d.sup = c.sup

theorem Opened.swept {p : PictureRecord} {stamp : Time} {c d : Channel} (h : Opened p stamp c d)
    (committed : d.int.committed = []) : Swept d := by
  refine ⟨committed, fun i => ?_⟩
  by_cases first : i = 0
  · rw [first, h.slot]; simp
  · rw [h.others i first]; decide

theorem closeStampOpen_opened {env : Env} {mapped stamp : Time} {p : PictureRecord} {c : Channel} (h : EmptyRing c)
    (hstamp : stamp = if c.csl.rebasePending then mapped else shift mapped c.csl.rebase) :
    Opened p stamp c (closeStampOpen env mapped p c) ∧ renewal (closeStampOpen env mapped p c) = renewal c
      ∧ (closeStampOpen env mapped p c).tally = c.tally := by
  rw [closeStampOpen_emptyRing env mapped p h, giveStamp_fresh h.newest mapped, ← hstamp]
  refine ⟨⟨rfl, rfl, rfl, ?_, fun i later => ?_, rfl, rfl, rfl, rfl⟩, rfl, rfl⟩
  · exact Bank.get_set_same ..
  · exact (Bank.get_set_ne _ later _).trans (h.slots i)

/-- The channel that has counted an admission; an internal copy's record brings its generation (05/R72, 04/R64). -/
def admitted (via : Origin) (p : PictureRecord) (c : Channel) : Channel :=
  count (match via with
    | .internal => { c with csl := { c.csl with sourceGeneration := p.generation } }
    | .lane _ => c) .picturesAdmitted

theorem admitted_frame (via : Origin) (p : PictureRecord) (c : Channel) : admitted via p c = { c with
    csl := { c.csl with sourceGeneration := (admitted via p c).csl.sourceGeneration }
    tally := (count c .picturesAdmitted).tally } := by
  unfold admitted
  cases via <;> rfl

theorem admitted_tally (via : Origin) (p : PictureRecord) (c : Channel) (x : ChanCtr) :
    (admitted via p c).tally.get (chanCtrIx x) = c.tally.get (chanCtrIx x) + if x = .picturesAdmitted then 1 else 0 := by
  rw [admitted_frame]
  refine (countMany_get c .picturesAdmitted x 1).trans ?_
  by_cases e : x = .picturesAdmitted <;> simp [e]

theorem takePicture_other {env : Env} {mapped : Time} {via : Origin} {p : PictureRecord} {c : Channel}
    (fits : kindFits p.standard p.kind = true) (other : p.standard ≠ c.int.standard) :
    takePicture env mapped via p c
      = closeStampOpen env mapped p (changeStandard env p.standard (admitted via p c)) := by
  have int : (admitted via p c).int = c.int := by rw [admitted_frame]
  have brings : p.standard ≠ (admitted via p c).int.standard := by rw [int]; exact other
  unfold takePicture
  rw [if_neg (by rw [fits]; decide)]
  exact congrArg (closeStampOpen env mapped p) (if_pos brings)

/-- What a picture of another standard does to its channel, its report aside (05/R72). -/
theorem takePicture_opened {env : Env} {mapped stamp : Time} {via : Origin} {p : PictureRecord} {c : Channel}
    (fits : kindFits p.standard p.kind = true) (other : p.standard ≠ c.int.standard)
    (hstamp : stamp = if c.csl.rebasePending then mapped else shift mapped c.csl.rebase) :
    Opened p stamp c (takePicture env mapped via p c) ∧ Renewed env.cfg p.standard c (takePicture env mapped via p c)
      ∧ ∀ x ∈ reportCounters, (takePicture env mapped via p c).tally.get (chanCtrIx x)
        = c.tally.get (chanCtrIx x) + if x = .picturesAdmitted ∨ x = .standardChange then 1 else 0 := by
  rw [takePicture_other fits other]
  have frame := admitted_frame via p c
  have counted := admitted_tally via p c
  generalize admitted via p c = b at frame counted ⊢
  have csl : b.csl = { c.csl with sourceGeneration := b.csl.sourceGeneration } := (congrArg Channel.csl frame :)
  have renewed : Renewed env.cfg p.standard c (changeStandard env p.standard b) :=
    (changeStandard_renewed env p.standard b).from (congrArg Channel.siz frame :) (by rw [counted]; simp) (by rw [frame])
  have int := changeStandard_int env p.standard b
  have switches : (changeStandard env p.standard b).int.switchCount = c.int.switchCount := by
    rw [int, frame]; rfl
  have changedCsl := changeStandard_csl env p.standard b
  have sup : (changeStandard env p.standard b).sup = c.sup :=
    (changeStandard_sup env p.standard b).trans (congrArg Channel.sup frame :)
  have tally {x : ChanCtr} (hx : x ∈ reportCounters) := changeStandard_tally env p.standard b hx
  have opened := closeStampOpen_opened (env := env) (mapped := mapped) (stamp := stamp) (p := p)
    (changeStandard_emptyRing env p.standard b) (by rw [changedCsl, csl]; exact hstamp)
  obtain ⟨⟨openSlot, newest, refused, slot, others, selection, passOver, forced, supKept⟩, same, kept⟩ := opened
  refine ⟨⟨openSlot, newest, refused, ?_, others, ?_, ?_, ?_, supKept.trans sup⟩, renewed.keep same, fun x hx => ?_⟩
  · rw [slot, freshRaw, switches, ← freshRaw]
  · rw [selection, changedCsl, csl]
  · rw [passOver, changedCsl, csl]
  · rw [forced, changedCsl, csl]
  · rw [kept, tally hx, counted]
    by_cases admission : x = .picturesAdmitted
    · subst admission; simp
    · simp [admission]

end Sys2Proof.Machine
end

section
/-! A source that brings another standard, at the station: the report of the change and what follows it (10/R168, R172,
notes/assumptions/15). -/

namespace Sys2Proof.Machine

/-! ## The configured channel -/

theorem onConfigured_some {k : Chan} {s : State} {g : ChanConfig} (config : chanConfig s k = some g)
    (f : Env → Channel → Channel) : onConfigured k f s = onChan k (f ⟨s.now, g⟩) s := by
  rw [onConfigured, config]

theorem chan_switchTo {k : Chan} {s : State} {g : ChanConfig} (config : chanConfig s k = some g) (q : Option Copy) :
    chan (switchTo k q s) k = switchChannel ⟨s.now, g⟩ q (q.bind (offering s k)) (chan s k) := by
  unfold switchTo
  dsimp only
  rw [onConfigured_some (s := { s with tx := holdCalls k (releaseCall s k ++ requestCall s k q) s.tx }) config,
    chan_onChan]
  rfl

theorem chan_enterLatched {k : Chan} {s : State} {g : ChanConfig} (config : chanConfig s k = some g) :
    chan (enterLatched k s) k = latchChannel ⟨s.now, g⟩ (chan s k) := by
  have flushed : chan (onChan k (startLatched ⟨s.now, g⟩) s) k = startLatched ⟨s.now, g⟩ (chan s k) := chan_onChan ..
  unfold enterLatched latchChannel
  dsimp only
  rw [onConfigured_some config, chan_onChan, selectionOf, flushed]
  split
  · rw [chan_switchTo (s := onChan k (startLatched ⟨s.now, g⟩) s) config, flushed]; rfl
  · rw [flushed]

theorem latches_iff {k : Chan} {s : State} {g : ChanConfig} (config : chanConfig s k = some g) :
    latches s k = true ↔ g.relockLimit ≠ 0 ∧ (chan s k).sup.relock = g.relockLimit := by
  rw [latches, config]
  simp [atLimit]

/-! ## The report of a standard change -/

/-- The relock and the entry it brings, re-judged at most `n` deep (10/R172, notes/assumptions/15). -/
def relockReport (n : Nat) (k : Chan) (s : State) : State :=
  let s1 := onChan k countRelock s
  if latches s1 k then enterLatched k s1 else rejudge n k (onConfigured k startAcquiring s1)

theorem standardReport_active {k : Chan} {s : State} (active : isSelecting s k = true) :
    standardReport k s = relockReport rejudgeDepth k s := if_pos active

theorem rejudge_agrees {k : Chan} {s : State} (n : Nat) (active : isSelecting s k = true)
    (chosen : choice s k = selectionOf s k) : rejudge (n + 1) k s = updateRevert k s := by
  rw [rejudge, if_neg (by rw [active]; decide), if_pos chosen]

theorem rejudge_changes {k : Chan} {s : State} {q : Copy} {o : Candidate} (n : Nat) (active : isSelecting s k = true)
    (chosen : choice s k = some q) (differs : selectionOf s k ≠ some q) (offered : offering s k q = some o)
    (known : (chan s k).int.standard ≠ 0) (other : o.standard ≠ (chan s k).int.standard) :
    rejudge (n + 1) k s = relockReport n k (switchTo k (some q) s) := by
  have changes : switchChanges (chan s k) ((some q).bind (offering s k)) = true := by
    rw [Option.bind_some, offered]
    simp [switchChanges, known, other]
  rw [rejudge, if_neg (by rw [active]; decide), if_neg (by rw [chosen]; exact fun e => differs e.symm)]
  simp only [chosen, changes, if_true]
  rfl

/-- A channel whose selection is the choice keeps to it while the same copies are offered. -/
theorem choice_selected {k : Chan} {s t : State} {q : Copy} {o : Candidate} (same : SameOffers k s t)
    (forced : (chan t k).csl.forced = (chan s k).csl.forced) (chosen : choice s k = some q)
    (offered : offering s k q = some o) (selected : selectionOf t k = some q) : choice t k = selectionOf t k := by
  have eligible : isEligible t k q = true := by rw [isEligible, same.offering, offered]; rfl
  have auto : autoChoice t k = some q := by
    have selected : (chan t k).csl.selection = some q := selected
    rw [autoChoice, selected]
    exact if_pos eligible
  have eligibility : isEligible t k = isEligible s k := by funext f; rw [isEligible, same.offering]; rfl
  rw [selected]
  unfold choice at chosen ⊢
  rw [forced, eligibility, auto]
  split
  · next f hf =>
    rw [hf] at chosen
    dsimp only at chosen
    split at chosen
    · rw [if_pos ‹_›]; exact chosen
    · rw [if_neg ‹_›]
  · rfl

/-- What a relock below the limit leaves of a channel, against the channel before it. -/
structure Reacquired (now : Time) (g : ChanConfig) (c d : Channel) : Prop where
  int : d.int = { c.int with lastCommitTime := some now }
  sup : d.sup = {
    state := .acquiring, relock := min (c.sup.relock + 1) 15, holdover := none, decay := none
    acquisition := some (shift now (g.acquisitionSeconds * 27000000 : Nat)) }
  selection : d.csl.selection = c.csl.selection
  tally : ∀ x ∈ reportCounters, d.tally.get (chanCtrIx x) = c.tally.get (chanCtrIx x) + if x = .relocks then 1 else 0

theorem startAcquiring_state (env : Env) (c : Channel) : (startAcquiring env c).sup.state = .acquiring := by
  unfold startAcquiring
  dsimp only
  rw [computeDelay_frame]

theorem Swept.relock {c : Channel} (h : Swept c) : Swept (countRelock c) := ⟨h.committed, h.kept⟩

theorem reacquired (now : Time) (g : ChanConfig) {c : Channel} (h : Swept c) :
    Reacquired now g c (startAcquiring ⟨now, g⟩ (countRelock c)) where
  int := (startAcquiring_int ⟨now, g⟩ h.relock).trans rfl
  sup := (startAcquiring_sup ⟨now, g⟩ h.relock).trans rfl
  selection := (congrArg Selector.selection (inside_csl (startAcquiring_inside ⟨now, g⟩ (countRelock c)))).trans rfl
  tally x hx := (inside_report (startAcquiring_inside ⟨now, g⟩ (countRelock c)) hx).trans (countRelock_tally c x)

section report
variable {k : Chan} {s : State} {g : ChanConfig} (config : chanConfig s k = some g)
include config

theorem latches_countRelock : latches (onChan k countRelock s) k = true
    ↔ g.relockLimit ≠ 0 ∧ min ((chan s k).sup.relock + 1) 15 = g.relockLimit := by
  rw [latches_iff (s := onChan k countRelock s) config, chan_onChan]
  rfl

theorem relockReport_latched (n : Nat) (limit : g.relockLimit ≠ 0 ∧ min ((chan s k).sup.relock + 1) 15 = g.relockLimit) :
    chan (relockReport n k s) k = latchChannel ⟨s.now, g⟩ (countRelock (chan s k)) := by
  rw [relockReport, if_pos ((latches_countRelock config).mpr limit),
    chan_enterLatched (s := onChan k countRelock s) config, chan_onChan]
  rfl

theorem relockReport_acquires (n : Nat)
    (below : ¬(g.relockLimit ≠ 0 ∧ min ((chan s k).sup.relock + 1) 15 = g.relockLimit))
    (chosen : choice s k = selectionOf s k) : relockReport (n + 1) k s
      = updateRevert k (onChan k (startAcquiring ⟨s.now, g⟩) (onChan k countRelock s)) := by
  have acquired : chan (onChan k (startAcquiring ⟨s.now, g⟩) (onChan k countRelock s)) k
      = startAcquiring ⟨s.now, g⟩ (countRelock (chan s k)) := by rw [chan_onChan, chan_onChan]
  have csl : (startAcquiring ⟨s.now, g⟩ (countRelock (chan s k))).csl = (chan s k).csl :=
    (inside_csl (startAcquiring_inside ..)).trans rfl
  have same : SameOffers k s (onChan k (startAcquiring ⟨s.now, g⟩) (onChan k countRelock s)) :=
    ⟨by rw [acquired, csl], rfl, rfl, fun _ => rfl⟩
  have selection : selectionOf (onChan k (startAcquiring ⟨s.now, g⟩) (onChan k countRelock s)) k = selectionOf s k := by
    rw [selectionOf, acquired, csl]; rfl
  rw [relockReport, if_neg (mt (latches_countRelock config).mp below),
    onConfigured_some (s := onChan k countRelock s) config]
  refine rejudge_agrees (s := onChan k (startAcquiring ⟨s.now, g⟩) (onChan k countRelock s)) n ?_ ?_
  · rw [isSelecting, acquired, startAcquiring_state]; rfl
  · rw [same.choice selection (by rw [acquired, csl]), selection, chosen]

/-- What a report below the limit does (10/R168, R172). -/
theorem relockReport_reacquired (n : Nat) (swept : Swept (chan s k))
    (below : ¬(g.relockLimit ≠ 0 ∧ min ((chan s k).sup.relock + 1) 15 = g.relockLimit))
    (chosen : choice s k = selectionOf s k) :
    Reacquired s.now g (chan s k) (chan (relockReport (n + 1) k s) k) ∧ (relockReport (n + 1) k s).tx = s.tx := by
  rw [relockReport_acquires config n below chosen]
  obtain ⟨int, sup, selection, tally⟩ := reacquired s.now g swept
  have acquired : chan (onChan k (startAcquiring ⟨s.now, g⟩) (onChan k countRelock s)) k
      = startAcquiring ⟨s.now, g⟩ (countRelock (chan s k)) := by rw [chan_onChan, chan_onChan]
  unfold updateRevert
  rw [chan_onChan, acquired]
  exact ⟨⟨int, sup, selection, tally⟩, rfl⟩

theorem relockReport_renewed (n : Nat) {code : StdCode} {c : Channel} (swept : Swept (chan s k))
    (renewed : Renewed g code c (chan s k)) (chosen : choice s k = selectionOf s k) :
    Renewed g code c (chan (relockReport (n + 1) k s) k) := by
  by_cases limit : g.relockLimit ≠ 0 ∧ min ((chan s k).sup.relock + 1) 15 = g.relockLimit
  · rw [relockReport_latched config (n + 1) limit]
    exact renewed.relock.latch _ swept.relock
  · have acquired : chan (onChan k (startAcquiring ⟨s.now, g⟩) (onChan k countRelock s)) k
        = startAcquiring ⟨s.now, g⟩ (countRelock (chan s k)) := by rw [chan_onChan, chan_onChan]
    rw [relockReport_acquires config n limit chosen, updateRevert, chan_onChan, acquired]
    exact (renewed.relock.acquire ⟨s.now, g⟩ swept.relock).keep rfl

/-- The relock counter and RELOCKS after the report, whichever entry it brings. -/
theorem relockReport_counts (n : Nat) (swept : Swept (chan s k)) (chosen : choice s k = selectionOf s k)
    {x : ChanCtr} (hx : x ∈ reportCounters) (other : x ≠ .copySwitch) (neither : x ≠ .latches) :
    (chan (relockReport (n + 1) k s) k).sup.relock = min ((chan s k).sup.relock + 1) 15
      ∧ (chan (relockReport (n + 1) k s) k).tally.get (chanCtrIx x)
        = (chan s k).tally.get (chanCtrIx x) + if x = .relocks then 1 else 0 := by
  by_cases limit : g.relockLimit ≠ 0 ∧ min ((chan s k).sup.relock + 1) 15 = g.relockLimit
  · have latched := latchChannel_latched ⟨s.now, g⟩ swept.relock
    rw [relockReport_latched config (n + 1) limit]
    refine ⟨by rw [latched.sup]; rfl, ?_⟩
    rw [latched.tally x hx other, countRelock_tally, if_neg neither]
    simp
  · obtain ⟨acquired, -⟩ := relockReport_reacquired config n swept limit chosen
    exact ⟨by rw [acquired.sup], acquired.tally x hx⟩

end report

end Sys2Proof.Machine
end

section
/-! What another source standard does, by a switch or by a picture (04/R64, R65, 05/R72, 10/R172). -/

namespace Sys2Proof.Machine

theorem Renewed.stepsOf {g : ChanConfig} {code : StdCode} {c d : Channel} (h : Renewed g code c d) {crop pl : Rect}
    (hcrop : crop = cutTo g.crop (standardOf code).lines (standardOf code).samples) (placed : c.siz.placement = some pl) :
    d.siz.vStep = some (crop.lineCount * 65536 / pl.lineCount)
      ∧ d.siz.hStep = some (crop.sampleCount * 65536 / pl.sampleCount) := by
  have steps := h.steps
  rw [h.crop, ← hcrop] at steps
  unfold withSteps at steps
  rw [placed] at steps
  rw [steps]
  exact ⟨rfl, rfl⟩

theorem SameOffers.of_within {k : Chan} {s t : State} (h : WithinChannels s t)
    (passOver : (chan t k).csl.passOver = (chan s k).csl.passOver) : SameOffers k s t :=
  ⟨passOver, h.link.config, congrArg Publication.adverts h.pub,
    fun l => congrArg Lane.entry (congrArg (Bank.get · l) h.link.lanes)⟩

theorem chanConfig_within {s t : State} (h : WithinChannels s t) (k : Chan) : chanConfig t k = chanConfig s k := by
  rw [chanConfig, h.link.config]; rfl

section report
variable {k : Chan} {s : State} {g : ChanConfig} (config : chanConfig s k = some g)
include config

theorem relockReport_emptyRing (n : Nat) (swept : Swept (chan s k)) (chosen : choice s k = selectionOf s k)
    (ring : EmptyRing (chan s k)) : EmptyRing (chan (relockReport (n + 1) k s) k) := by
  by_cases limit : g.relockLimit ≠ 0 ∧ min ((chan s k).sup.relock + 1) 15 = g.relockLimit
  · have latched := latchChannel_latched ⟨s.now, g⟩ swept.relock
    rw [relockReport_latched config (n + 1) limit]
    exact ⟨latched.slots, latched.newest, latched.openSlot⟩
  · obtain ⟨⟨int, -, -, -⟩, -⟩ := relockReport_reacquired config n swept limit chosen
    refine ⟨fun i => ?_, ?_, ?_⟩
    · rw [slotOf, int]; exact ring.slots i
    · rw [int]; exact ring.newest
    · rw [int]; exact ring.openSlot

/-- The channel that its relock latches (10/R173). -/
theorem relockReport_limit (n : Nat) (swept : Swept (chan s k)) {m : Nat} (hm : m = min ((chan s k).sup.relock + 1) 15)
    (limited : g.relockLimit ≠ 0) (limit : m = g.relockLimit) :
    Latched (countRelock (chan s k)) (chan (relockReport n k s) k)
      ∧ (chan (relockReport n k s) k).sup
        = { state := .latched, relock := m, acquisition := none, holdover := none, decay := none }
      ∧ (chan (relockReport n k s) k).tally.get (chanCtrIx .latches) = (chan s k).tally.get (chanCtrIx .latches) + 1 := by
  subst hm
  have latched := latchChannel_latched ⟨s.now, g⟩ swept.relock
  rw [relockReport_latched config n ⟨limited, limit⟩]
  refine ⟨latched, latched.sup, ?_⟩
  rw [latched.tally .latches (by decide) (by decide), countRelock_tally]
  simp

end report

/-! ## By a switch -/

/-- A re-judgement that switches to a copy that advertises another standard (04/R64, R65). -/
theorem switchTo_renewed {s : State} {k : Chan} {g : ChanConfig} {q : Copy} {o : Candidate}
    (config : chanConfig s k = some g) (chosen : choice s k = some q) (offered : offering s k q = some o)
    (known : (chan s k).int.standard ≠ 0) (other : o.standard ≠ (chan s k).int.standard) :
    Switched q (chan s k) (chan (switchTo k (some q) s) k)
      ∧ Renewed g o.standard (chan s k) (chan (switchTo k (some q) s) k)
      ∧ choice (switchTo k (some q) s) k = selectionOf (switchTo k (some q) s) k := by
  have switch : chan (switchTo k (some q) s) k = switchChannel ⟨s.now, g⟩ (some q) (some o) (chan s k) := by
    rw [chan_switchTo config, Option.bind_some, offered]
  have met := switchChannel_switched (env := ⟨s.now, g⟩) (q := q) (o := o) known other
  rw [← switch] at met
  obtain ⟨switched, renewed⟩ := met
  exact ⟨switched, renewed, choice_selected (.of_within (switchTo_within k (some q) s) switched.passOver)
    switched.forced chosen offered switched.selection⟩

/-! ## By a picture -/

section picture
variable {via : Origin} {r : PictureRecord} {k : Chan} {s y : State} {g : ChanConfig} {stamp : Time}

/-- A picture of another standard, of a channel's window (05/R72, 10/R172). -/
theorem pictureToChannel_renewed (config : chanConfig y k = some g)
    (heard : ofWindow ⟨y.now, g⟩ (chan y k) via r.origin r.pub r.feed = true)
    (fits : kindFits r.standard r.kind = true) (other : r.standard ≠ (chan y k).int.standard)
    (active : isSelecting y k = true) (chosen : choice y k = selectionOf y k)
    (hstamp : stamp = if (chan y k).csl.rebasePending then mappedStamp y via r.stamp
      else shift (mappedStamp y via r.stamp) (chan y k).csl.rebase) :
    ∃ t, WithinChannels y t ∧ t.tx = y.tx ∧ pictureToChannel via r k y = relockReport 3 k t
      ∧ Opened r stamp (chan y k) (chan t k) ∧ Renewed g r.standard (chan y k) (chan t k)
      ∧ (∀ x ∈ reportCounters, (chan t k).tally.get (chanCtrIx x) = (chan y k).tally.get (chanCtrIx x)
        + if x = .picturesAdmitted ∨ x = .standardChange then 1 else 0)
      ∧ choice t k = selectionOf t k := by
  have brings : bringsChange r (chan y k) = true := by simp [bringsChange, fits, other]
  have taken := takePicture_opened (env := ⟨y.now, g⟩) (via := via) fits other hstamp
  have taken' : chan (onChan k (takePicture ⟨y.now, g⟩ (mappedStamp y via r.stamp) via r) y) k
      = takePicture ⟨y.now, g⟩ (mappedStamp y via r.stamp) via r (chan y k) := chan_onChan ..
  have reported : pictureToChannel via r k y
      = standardReport k (onChan k (takePicture ⟨y.now, g⟩ (mappedStamp y via r.stamp) via r) y) := by
    unfold pictureToChannel
    rw [config]
    dsimp only
    rw [if_pos heard, if_pos brings]
  rw [← taken'] at taken
  have within := onChan_within k (takePicture ⟨y.now, g⟩ (mappedStamp y via r.stamp) via r) y
  have tx : (onChan k (takePicture ⟨y.now, g⟩ (mappedStamp y via r.stamp) via r) y).tx = y.tx := rfl
  generalize onChan k (takePicture ⟨y.now, g⟩ (mappedStamp y via r.stamp) via r) y = t at taken reported within tx
  obtain ⟨opened, renewed, tally⟩ := taken
  have selection : selectionOf t k = selectionOf y k := opened.selection
  refine ⟨t, within, tx, ?_, opened, renewed, tally, ?_⟩
  · exact reported.trans (standardReport_active (by rw [isSelecting, opened.sup]; exact active))
  · rw [(SameOffers.of_within within opened.passOver).choice selection opened.forced, selection, chosen]

end picture

/-- Two channels' windows take a record of a lane in either order. -/
theorem deliver_picture (l : LaneNo) (arrival : Time) (r : PictureRecord) (k : Chan) (s : State) :
    deliver l arrival (.picture r) s
      = pictureToChannel (.lane l) r k (pictureToChannel (.lane l) r (otherChan k) s) := by
  rw [deliver]
  rcases (by decide +revert : k = 0 ∨ k = 1) with rfl | rfl
  · exact Local.comm (by decide : (1 : Chan) ≠ 0) (pictureToChannel_local (.lane l) r 1)
      (pictureToChannel_local (.lane l) r 0) s
  · rfl

/-- A channel's window as its aim gives it. -/
theorem ofWindow_aimed {env : Env} {c : Channel} {q : Copy} {r : PictureRecord} (aim : c.int.aim = some q)
    (feed : env.cfg.feed = some r.feed) (pub : q.pub = r.pub)
    (station : ∀ l, q.origin = .lane l → q.station = r.origin) :
    ofWindow env c q.origin r.origin r.pub r.feed = true := by
  unfold ofWindow
  rw [aim]
  cases origin : q.origin with
  | internal => simp [feed, pub, origin]
  | lane l => simp [feed, pub, origin, station l origin]

/-- The window of the picture clause, and what stands when the record reaches it: a lane's record counted and heard by the
other channel first, or one that arrives alone. -/
theorem hears_picture {dt flight : Nat} {l : LaneNo} {words : List Word} {s v y : State} {k : Chan} {q : Copy}
    {r : PictureRecord} {mapped : Time} {out : State → Prop}
    (cases : q.origin = .lane l ∧ q.station = r.origin ∧ checkRecord words = .ok (.picture r)
          ∧ v = { advance dt s with
              lanes := s.lanes.modify l fun x => { x with tally := addCount x.tally (laneCtrIx .rxRecords) 1 } }
          ∧ ((∀ x, (chan s (otherChan k)).int.aim = some x → x.origin ≠ .lane l) ∧ y = v
            ∨ y = pictureToChannel (.lane l) r (otherChan k) v)
          ∧ mapped = r.stamp + (lane s l).entry.offset
          ∧ (∀ u, out u ↔ exec (.recordReceived dt l flight words) s = .next (conclude u))
        ∨ q.origin = .lane l ∧ q.station = r.origin ∧ v = s ∧ y = s ∧ mapped = r.stamp + (lane s l).entry.offset
          ∧ (∀ u, out u ↔ pictureToChannel (.lane l) r k s = u)
        ∨ q.origin = .internal ∧ v = s ∧ y = s ∧ mapped = r.stamp ∧ (∀ u, out u ↔ pictureToChannel .internal r k s = u)) :
    out (pictureToChannel q.origin r k y) ∧ mapped = mappedStamp y q.origin r.stamp ∧ y.now = v.now
      ∧ chan y k = chan s k ∧ SameOffers k s y ∧ (∀ j, q.origin = .lane j → q.station = r.origin) := by
  obtain ⟨origin, station, ok, hv, hy, hmapped, hout⟩ | ⟨origin, station, rfl, rfl, hmapped, hout⟩
    | ⟨origin, rfl, rfl, hmapped, hout⟩ := cases
  · have counted : v = onLane l (fun x => countLane x .rxRecords) (advance dt s) := hv
    have entries (j : LaneNo) : (lane v j).entry = (lane s j).entry := by
      rw [counted]
      by_cases here : j = l
      · rw [here, lane_onLane]; rfl
      · rw [lane_onLane_ne here]; rfl
    have hy : y = pictureToChannel (.lane l) r (otherChan k) v := by
      obtain ⟨elsewhere, rfl⟩ | rfl := hy
      · exact (pictureToChannel_elsewhere fun g _ => ofWindow_false fun x aim => .inl (elsewhere x (by
          rw [hv] at aim; exact aim))).symm
      · rfl
    have within : WithinChannels v y := hy ▸ pictureToChannel_within ..
    have same : chan y k = chan s k := by
      rw [hy, (pictureToChannel_local _ _ _).other (other_ne k).symm, hv]; rfl
    have offers : SameOffers k v y := .of_within within (by rw [same, hv]; rfl)
    refine ⟨?_, ?_, within.link.now, same, ⟨by rw [same], ?_, ?_, fun j => ?_⟩, fun _ _ => station⟩
    · rw [hout, recordReceived_eq dt flight l s (words_of_ok ok), receiveRecord_ok _ ok, deliver_picture l _ r k,
        ← counted, ← hy, origin]
    · rw [origin, mappedStamp, offers.entries, entries, hmapped]
    · rw [offers.config, hv]; rfl
    · rw [offers.adverts, hv]; rfl
    · rw [offers.entries, entries]
  · exact ⟨by rw [hout, origin], by rw [origin, mappedStamp, hmapped], rfl, rfl, (Alike.refl k _).offers, fun _ _ => station⟩
  · refine ⟨by rw [hout, origin], by rw [origin, mappedStamp, hmapped], rfl, rfl, (Alike.refl k _).offers, fun j lane => ?_⟩
    rw [origin] at lane
    cases lane

/-! ## The statement -/

/-- Settles O60: the switch or the picture renews the channel, and the report it brings keeps it renewed, whichever entry
follows. -/
theorem sourceStandardChange : Obligations.SourceStandardChange := by
  unfold Obligations.SourceStandardChange
  refine ⟨fun s k g q o n c e u hc config active chosen differs offered known other hn hu he st crop hst hcrop => ?_,
    fun dt flight l words s v y k g q r c n mapped stamp st crop out config feed hc aim pub cases fits other active chosen
      hn hstamp hst hcrop => ?_⟩
  · subst hc hst
    obtain ⟨switched, renewed, agrees⟩ := switchTo_renewed config chosen offered known other
    have within := switchTo_within k (some q) s
    have now : (switchTo k (some q) s).now = s.now := within.link.now
    have config' : chanConfig (switchTo k (some q) s) k = some g := (chanConfig_within within k).trans config
    have reported : u = relockReport 2 k (switchTo k (some q) s) :=
      hu.trans (rejudge_changes 2 active chosen differs offered known other)
    have local_ : u = { s with chans := u.chans, tx := u.tx } ∧ chan u (otherChan k) = chan s (otherChan k) := by
      rw [hu]
      exact ⟨rejudgeOne_within k s, (rejudgeOne_local k).other (other_ne k) s⟩
    rw [reported] at he
    generalize switchTo k (some q) s = t at switched renewed agrees now config' he
    have swept : Swept (chan t k) := switched.ring.swept renewed.committed
    have hn : n = min ((chan t k).sup.relock + 1) 15 := by rw [hn, switched.sup]
    have renewed' : Renewed g o.standard (chan s k) e := he ▸ relockReport_renewed config' 1 swept renewed agrees
    have ring : EmptyRing e := he ▸ relockReport_emptyRing config' 1 swept agrees switched.ring
    have counts := relockReport_counts config' 1 swept agrees (x := .relocks) (by decide) (by decide) (by decide)
    rw [← he, ← hn, switched.tally .relocks (by decide)] at counts
    refine ⟨local_.1, local_.2, renewed'.standard, ring.slots, renewed'.committed, renewed'.history, ring.newest,
      ring.openSlot, renewed'.period, hcrop ▸ renewed'.crop, renewed'.clamped, fun pl => renewed'.stepsOf hcrop,
      congrArg _ renewed'.motion, congrArg _ renewed'.motion, counts.1, renewed'.counted, by simpa using counts.2,
      renewed'.flagged, fun below => ?_, fun limited limit => ?_⟩
    · have below : ¬(g.relockLimit ≠ 0 ∧ min ((chan t k).sup.relock + 1) 15 = g.relockLimit) := by
        rw [← hn]; rintro ⟨limited, limit⟩; exact below.elim limited (· limit)
      obtain ⟨⟨int, sup, selection, tally⟩, -⟩ := relockReport_reacquired config' 1 swept below agrees
      rw [← he] at int sup selection tally
      refine ⟨by rw [sup, ← hn, now], by rw [selection, switched.selection], by rw [int]; exact switched.aim,
        by rw [int, now], ?_⟩
      rw [tally .copySwitch (by decide), switched.tally .copySwitch (by decide)]
      simp
    · obtain ⟨latched, sup, counted⟩ := relockReport_limit config' 2 swept hn limited limit
      rw [← he] at latched sup counted
      refine ⟨sup, latched.selection, latched.aim (fun none => ?_), ?_, latched.flagged⟩
      · exact absurd (switched.selection.symm.trans none) (by simp)
      · rw [counted, switched.tally .latches (by decide)]; simp
  · subst hc hst
    obtain ⟨hout, hmapped, now, same, offers, station⟩ := hears_picture cases
    have config' : chanConfig y k = some g := by rw [chanConfig, offers.config]; exact config
    have selection : selectionOf y k = selectionOf s k := congrArg (·.csl.selection) same
    have chosen' : choice y k = selectionOf y k := by rw [offers.choice selection (by rw [same]), chosen, selection]
    obtain ⟨t, within, tx, reported, opened, renewed, tally, agrees⟩ := pictureToChannel_renewed (stamp := stamp) config'
      (ofWindow_aimed (by rw [same]; exact aim) feed pub station) fits (by rw [same]; exact other)
      (by rw [isSelecting, same]; exact active) chosen' (by rw [same, ← hmapped]; exact hstamp)
    rw [same] at opened renewed tally
    have now' : t.now = v.now := within.link.now.trans now
    have config'' : chanConfig t k = some g := (chanConfig_within within k).trans config'
    have swept : Swept (chan t k) := opened.swept renewed.committed
    have hn : n = min ((chan t k).sup.relock + 1) 15 := by rw [hn, opened.sup]
    obtain ⟨e, he⟩ : ∃ e, e = chan (pictureToChannel q.origin r k y) k := ⟨_, rfl⟩
    refine ⟨pictureToChannel q.origin r k y, e, hout, he, pictureToChannel_within ..,
      (pictureToChannel_local q.origin r k).other (other_ne k) y, ?_⟩
    rw [reported] at he ⊢
    have renewed' : Renewed g r.standard (chan s k) e := he ▸ relockReport_renewed config'' 2 swept renewed agrees
    have counts {x : ChanCtr} (hx : x ∈ reportCounters) (copy : x ≠ .copySwitch) (latches : x ≠ .latches) :=
      relockReport_counts config'' 2 swept agrees hx copy latches
    have relocks := counts (x := .relocks) (by decide) (by decide) (by decide)
    have admissions := counts (x := .picturesAdmitted) (by decide) (by decide) (by decide)
    rw [← he, ← hn, tally _ (by decide)] at relocks admissions
    refine ⟨renewed'.standard, hcrop ▸ renewed'.crop, renewed'.clamped, fun pl => renewed'.stepsOf hcrop,
      renewed'.committed, renewed'.history, congrArg _ renewed'.motion, congrArg _ renewed'.motion, relocks.1,
      renewed'.counted, by simpa using admissions.2, by simpa using relocks.2, renewed'.flagged, fun below => ?_,
      fun limited limit => ?_⟩
    · have below : ¬(g.relockLimit ≠ 0 ∧ min ((chan t k).sup.relock + 1) 15 = g.relockLimit) := by
        rw [← hn]; rintro ⟨limited, limit⟩; exact below.elim limited (· limit)
      obtain ⟨⟨int, sup, kept, -⟩, calls⟩ := relockReport_reacquired config'' 2 swept below agrees
      rw [← he] at int sup kept
      refine ⟨by rw [sup, ← hn, now'], by rw [int, opened.openSlot], by rw [int, opened.newest], by rw [int, opened.refused],
        ?_, fun i later => ?_, kept.trans opened.selection, calls.trans tx⟩
      · rw [slotOf, int]; exact opened.slot
      · rw [slotOf, int]; exact opened.others i later
    · obtain ⟨latched, sup, counted⟩ := relockReport_limit config'' 3 swept hn limited limit
      rw [← he] at latched sup counted
      refine ⟨sup, latched.selection, latched.slots, ?_, latched.flagged⟩
      rw [counted, tally .latches (by decide)]; simp

end Sys2Proof.Machine
end

section
/-! What a command can reach: one relation that carries every frame clause, closed under one thing done after another,
and what the shared operations do within it whichever command calls them. -/

namespace Sys2Proof.Machine

/-! ## The relation -/

/-- A channel that selects nothing and aims at nothing. -/
structure Inert (c : Channel) : Prop where
  inactive : activeState c.sup.state = false
  selection : c.csl.selection = none
  aim : c.int.aim = none

/-- From the first state to the second, only what the command can reach has changed. -/
structure Reaches (c : Instr) (s t : State) : Prop where
  lanes : ∀ l, touchesLane l c = false → lane t l = lane s l
  ingest : touchesIngest c = false → t.ing = s.ing
  reference : touchesReference c = false → t.ref = s.ref
  management : isManagement c = false → isPowerOn c = false → t.mgp = s.mgp
  stored : isConfigRead c = false → t.config = s.config ∧ t.clampCount = s.clampCount ∧ t.eventMask = s.eventMask
  station : isConfigRead c = false → isRestart c = false → t.station = s.station
  counted : isConfigRead c = false → isManagement c = false → t.tally = s.tally ∧ t.flags = s.flags
  demand : touchesDemand c = false → t.pub.demand = s.pub.demand
  timebase : ∀ k, touchesTimebase k c = false →
    timebaseOf (chan t k).port = timebaseOf (chan s k).port ∧ (chan t k).port.source = (chan s k).port.source
  sizer : ∀ k, isConfigRead c = false → isRestart c = false →
    configuredSizer (chan t k).siz = configuredSizer (chan s k).siz
  forced : ∀ k, touchesForced k c = false → (chan t k).csl.forced = (chan s k).csl.forced
  inert : ∀ k, touchesChannel k c = false → Inert (chan s k) → chan t k = chan s k

namespace Reaches
variable {c : Instr}

theorem refl (s : State) : Reaches c s s where
  lanes _ _ := rfl
  ingest _ := rfl
  reference _ := rfl
  management _ _ := rfl
  stored _ := ⟨rfl, rfl, rfl⟩
  station _ _ := rfl
  counted _ _ := ⟨rfl, rfl⟩
  demand _ := rfl
  timebase _ _ := ⟨rfl, rfl⟩
  sizer _ _ _ := rfl
  forced _ _ := rfl
  inert _ _ _ := rfl

theorem trans {s t u : State} (h : Reaches c s t) (g : Reaches c t u) : Reaches c s u where
  lanes l r := (g.lanes l r).trans (h.lanes l r)
  ingest r := (g.ingest r).trans (h.ingest r)
  reference r := (g.reference r).trans (h.reference r)
  management r p := (g.management r p).trans (h.management r p)
  stored r := by
    obtain ⟨config, clamped, mask⟩ := h.stored r
    obtain ⟨config', clamped', mask'⟩ := g.stored r
    exact ⟨config'.trans config, clamped'.trans clamped, mask'.trans mask⟩
  station r p := (g.station r p).trans (h.station r p)
  counted r p := ⟨(g.counted r p).1.trans (h.counted r p).1, (g.counted r p).2.trans (h.counted r p).2⟩
  demand r := (g.demand r).trans (h.demand r)
  timebase k r := ⟨(g.timebase k r).1.trans (h.timebase k r).1, (g.timebase k r).2.trans (h.timebase k r).2⟩
  sizer k r p := (g.sizer k r p).trans (h.sizer k r p)
  forced k r := (g.forced k r).trans (h.forced k r)
  inert k r i := by
    have first := h.inert k r i
    exact (g.inert k r (first ▸ i)).trans first

theorem ite {s t u : State} {p : Prop} [Decidable p] (ht : Reaches c s t) (hu : Reaches c s u) :
    Reaches c s (if p then t else u) := by
  split
  · exact ht
  · exact hu

theorem foldl {α : Type} {f : State → α → State} (h : ∀ s a, Reaches c s (f s a)) (xs : List α) (s : State) :
    Reaches c s (xs.foldl f s) := by
  induction xs generalizing s with
  | nil => exact refl s
  | cons a xs ih => exact (h s a).trans (ih _)

/-! ### By what changed -/

/-- Channels, the transmit lane and the Publication Unit, each as the command may. -/
theorem of_link {s t : State} (link : WithinLink s t) (demand : touchesDemand c = false → t.pub.demand = s.pub.demand)
    (timebase : ∀ k, touchesTimebase k c = false →
      timebaseOf (chan t k).port = timebaseOf (chan s k).port ∧ (chan t k).port.source = (chan s k).port.source)
    (sizer : ∀ k, isConfigRead c = false → isRestart c = false →
      configuredSizer (chan t k).siz = configuredSizer (chan s k).siz)
    (forced : ∀ k, touchesForced k c = false → (chan t k).csl.forced = (chan s k).csl.forced)
    (inert : ∀ k, touchesChannel k c = false → Inert (chan s k) → chan t k = chan s k) : Reaches c s t where
  lanes l _ := congrArg (Bank.get · l) link.lanes
  ingest _ := link.ing
  reference _ := link.ref
  management _ _ := link.mgp
  stored _ := ⟨link.config, link.clampCount, link.eventMask⟩
  station _ _ := link.station
  counted _ _ := ⟨link.tally, link.flags⟩
  demand := demand
  timebase := timebase
  sizer := sizer
  forced := forced
  inert := inert

/-- The same channels: what the transmit lane and the Publication Unit do. -/
theorem of_chans {s t : State} (link : WithinLink s t) (demand : touchesDemand c = false → t.pub.demand = s.pub.demand)
    (chans : t.chans = s.chans) : Reaches c s t := by
  have same (k : Chan) : chan t k = chan s k := congrArg (Bank.get · k) chans
  exact of_link link demand (fun k _ => by rw [same]; exact ⟨rfl, rfl⟩) (fun k _ _ => by rw [same])
    (fun k _ => by rw [same]) fun k _ _ => same k

/-- Channels whose settings are kept, the demand table with them. -/
theorem of_settings {s t : State} (link : WithinLink s t)
    (demand : touchesDemand c = false → t.pub.demand = s.pub.demand)
    (settings : ∀ k, settingsOf (chan t k) = settingsOf (chan s k))
    (inert : ∀ k, touchesChannel k c = false → Inert (chan s k) → chan t k = chan s k) : Reaches c s t := by
  refine of_link link demand (fun k _ => ?_) (fun k _ _ => ?_) (fun k _ => ?_) inert
  · exact ⟨congrArg (·.1) (settings k), congrArg (·.2.1) (settings k)⟩
  · exact congrArg (·.2.2.1) (settings k)
  · exact congrArg (·.2.2.2) (settings k)

/-- What one channel does, its settings kept. -/
theorem local_ {k : Chan} {f : State → State} (loc : Local k f) {s : State}
    (settings : settingsOf (chan (f s) k) = settingsOf (chan s k))
    (inert : touchesChannel k c = false → Inert (chan s k) → chan (f s) k = chan s k) : Reaches c s (f s) := by
  refine of_settings (loc.within s).link (fun _ => by rw [(loc.within s).pub]) (fun j => ?_) fun j r i => ?_
  · by_cases e : j = k
    · rw [e, settings]
    · rw [loc.other e s]
  · by_cases e : j = k
    · subst e; exact inert r i
    · exact loc.other e s

theorem own_chan {k : Chan} {f : Channel → Channel} (s : State) (own : touchesChannel k c = true)
    (settings : settingsOf (f (chan s k)) = settingsOf (chan s k)) : Reaches c s (onChan k f s) :=
  local_ (.onChan k f) (by rw [chan_onChan, settings]) fun r => absurd r (by rw [own]; decide)

theorem onLane {l : LaneNo} (f : Lane → Lane) (s : State) (own : touchesLane l c = true) :
    Reaches c s (onLane l f s) :=
  { refl (c := c) s with
    lanes := fun m r => lane_onLane_ne (fun e : m = l => by rw [e, own] at r; cases r) f s
    inert := fun _ _ _ => rfl }

theorem onIngest (f : Ingest → Ingest) (s : State) (own : touchesIngest c = true) : Reaches c s (onIngest f s) :=
  { refl (c := c) s with
    ingest := fun r => absurd r (by rw [own]; decide)
    inert := fun _ _ _ => rfl }

theorem onRef (f : Reference → Reference) (s : State) (own : touchesReference c = true) : Reaches c s (onRef f s) :=
  { refl (c := c) s with
    reference := fun r => absurd r (by rw [own]; decide)
    inert := fun _ _ _ => rfl }

/-- The management port's own: its state, and the station's counters and flags. -/
theorem port {s : State} (m : Management) (x : Bank 5 Count) (f : Bank 3 Bool) (own : isManagement c = true) :
    Reaches c s { s with mgp := m, tally := x, flags := f } :=
  { refl (c := c) s with
    management := fun r => absurd r (by rw [own]; decide)
    counted := fun _ r => absurd r (by rw [own]; decide)
    inert := fun _ _ _ => rfl }

end Reaches

end Sys2Proof.Machine
end

section
/-! What the shared operations can reach, whichever command calls them: re-judgement, settling, the end of a command, the
records of the window and of the publications. -/

namespace Sys2Proof.Machine

/-! ## Settings -/

theorem onConfigured_settings {f : Env → Channel → Channel} (h : ∀ env c, settingsOf (f env c) = settingsOf c) (k : Chan)
    (s : State) : settingsOf (chan (onConfigured k f s) k) = settingsOf (chan s k) := by
  unfold onConfigured
  split
  · rw [chan_onChan, h]
  · rfl

theorem onChan_settings {f : Channel → Channel} (h : ∀ c, settingsOf (f c) = settingsOf c) (k : Chan) (s : State) :
    settingsOf (chan (onChan k f s) k) = settingsOf (chan s k) := by rw [chan_onChan, h]

theorem countRelock_settings (c : Channel) : settingsOf (countRelock c) = settingsOf c := rfl

theorem switchTo_settings (k : Chan) (q : Option Copy) (s : State) :
    settingsOf (chan (switchTo k q s) k) = settingsOf (chan s k) :=
  onConfigured_settings (fun env c => switchChannel_settings env q (q.bind (offering s k)) c) k
    { s with tx := holdCalls k (releaseCall s k ++ requestCall s k q) s.tx }

theorem enterLatched_settings (k : Chan) (s : State) : settingsOf (chan (enterLatched k s) k) = settingsOf (chan s k) := by
  have flushed := onConfigured_settings startLatched_settings k s
  unfold enterLatched
  refine (onChan_settings (countFlag_settings · .latches .channelLatched) k _).trans ?_
  split
  · exact (switchTo_settings ..).trans flushed
  · exact flushed

theorem updateRevert_settings (k : Chan) (s : State) :
    settingsOf (chan (updateRevert k s) k) = settingsOf (chan s k) := by
  unfold updateRevert
  rw [chan_onChan]
  rfl

theorem rejudge_settings (n : Nat) (k : Chan) (s : State) :
    settingsOf (chan (rejudge n k s) k) = settingsOf (chan s k) := by
  induction n generalizing s with
  | zero => rfl
  | succ n ih =>
    unfold rejudge
    dsimp only
    split
    · rfl
    split
    · exact updateRevert_settings k s
    have switched := (onChan_settings countRelock_settings k _).trans (switchTo_settings k (choice s k) s)
    split
    · split
      · exact (enterLatched_settings ..).trans switched
      · exact (ih _).trans ((onConfigured_settings startAcquiring_settings k _).trans switched)
    · exact switchTo_settings ..

theorem rejudgeOne_settings (k : Chan) (s : State) : settingsOf (chan (rejudgeOne k s) k) = settingsOf (chan s k) :=
  rejudge_settings ..

theorem enterAcquiring_settings (k : Chan) (s : State) :
    settingsOf (chan (enterAcquiring k s) k) = settingsOf (chan s k) :=
  (rejudgeOne_settings ..).trans (onConfigured_settings startAcquiring_settings k s)

theorem standardReport_settings (k : Chan) (s : State) :
    settingsOf (chan (standardReport k s) k) = settingsOf (chan s k) := by
  have counted := onChan_settings countRelock_settings k s
  unfold standardReport
  dsimp only
  split
  · split
    · exact (enterLatched_settings ..).trans counted
    · exact (enterAcquiring_settings ..).trans counted
  · rfl

theorem rejudgeBoth_settings (s : State) (k : Chan) :
    settingsOf (chan (rejudgeBoth s) k) = settingsOf (chan s k) := by
  have one (j : Chan) (t : State) : settingsOf (chan (rejudgeOne j t) k) = settingsOf (chan t k) := by
    by_cases e : k = j
    · subst e; exact rejudgeOne_settings k t
    · rw [(rejudgeOne_local j).other e t]
  exact (one 1 _).trans (one 0 s)

theorem settle_settings (s : State) (k : Chan) : settingsOf (chan (settle s) k) = settingsOf (chan s k) :=
  settleFor_carries (R := fun s t => settingsOf (chan t k) = settingsOf (chan s k)) (fun _ => rfl)
    (fun h g => g.trans h) (fun h => by rw [chan, h.chans]; rfl) (rejudgeBoth_settings · k) 8 s

/-! ## Re-judgement and settling -/

namespace Reaches
variable (c : Instr)

theorem rejudgeOne (k : Chan) (s : State) : Reaches c s (rejudgeOne k s) :=
  local_ (rejudgeOne_local k) (rejudgeOne_settings k s) fun _ i => by
    rw [Machine.rejudgeOne, rejudge_notSelecting _ i.inactive]

theorem rejudgeBoth (s : State) : Reaches c s (rejudgeBoth s) := (rejudgeOne c 0 s).trans (rejudgeOne c 1 _)

theorem settle (s : State) : Reaches c s (settle s) :=
  of_settings (settle_within s) (fun _ => (settle_moves s).demand.1) (settle_settings s)
    fun k _ i => settle_inactive s k i.inactive

/-- Whatever a command did, its end reaches no more than any command's. -/
theorem conclude (s : State) : Reaches c s (conclude s) := by
  have link : WithinLink (Machine.settle s) (Machine.conclude s) :=
    ((takeCalls_within (Machine.settle s)).trans (arbitrateLane_within _)).link
  have demand : (Machine.conclude s).pub.demand = (Machine.settle s).pub.demand :=
    (conclude_demand s).1.trans (settle_moves s).demand.1.symm
  exact (settle c s).trans (of_chans link (fun _ => demand) (conclude_chans s))

/-! ## Records -/

theorem pictureToChannel (via : Origin) (r : PictureRecord) (k : Chan) (s : State) :
    Reaches c s (pictureToChannel via r k s) := by
  refine local_ (pictureToChannel_local via r k) ?_ fun _ i =>
    congrArg (chan · k) (pictureToChannel_elsewhere fun g _ => ofWindow_noAim i.aim ..)
  unfold Machine.pictureToChannel
  split
  · rfl
  next g _ =>
  have taken := onChan_settings (takePicture_settings ⟨s.now, g⟩ (mappedStamp s via r.stamp) via r) k s
  dsimp only
  split
  · split
    · exact (standardReport_settings ..).trans taken
    · exact taken
  · rfl

theorem linesToChannel (via : Origin) (r : LinesRecord) (k : Chan) (s : State) :
    Reaches c s (linesToChannel via r k s) := by
  refine local_ (linesToChannel_local via r k) ?_ fun _ i =>
    congrArg (chan · k) (linesToChannel_elsewhere fun g _ => ofWindow_noAim i.aim ..)
  unfold Machine.linesToChannel
  split
  · rfl
  next g _ =>
  split
  · exact onChan_settings (fun d => settings_of_outside (takeLines_outside ⟨s.now, g⟩ r d)) k s
  · rfl

theorem pictureOnSlot (i : PubSlotNo) (p : PubIx) (r : PictureRecord) (s : State) :
    Reaches c s (pictureOnSlot i p r s) := by
  refine of_chans (pictureOnSlot_within i p r s) (fun _ => (pictureOnSlot_moves i p r s).demand.1) ?_
  unfold Machine.pictureOnSlot
  dsimp only
  split
  · exact (vacate_step i true s).chans
  · split <;> rfl

theorem linesOnSlot (i : PubSlotNo) (p : PubIx) (r : LinesRecord) (s : State) :
    Reaches c s (linesOnSlot i p r s) := by
  refine of_chans (linesOnSlot_within i p r s) (fun _ => (linesOnSlot_moves i p r s).demand.1) ?_
  unfold Machine.linesOnSlot
  dsimp only
  split
  · split
    · split
      · exact (vacate_step ..).chans
      · rfl
    · rfl
  · rfl

theorem publishPicture (p : PubIx) (r : PictureRecord) (s : State) : Reaches c s (publishPicture p r s) := by
  have noted : Reaches c s (onPub (fun u => { u with lastSequence := u.lastSequence.set p r.sequence }) s) :=
    of_chans rfl (fun _ => rfl) rfl
  refine trans ?_ (foldl (fun s k => pictureToChannel c _ r k s) _ _)
  split
  · exact noted.trans (pictureOnSlot ..)
  · exact noted

theorem publishLines (p : PubIx) (r : LinesRecord) (s : State) : Reaches c s (publishLines p r s) := by
  refine trans ?_ (foldl (fun s k => linesToChannel c _ r k s) _ _)
  split
  · exact linesOnSlot ..
  · exact refl s

/-- All that the word stream does, of a command of the ingest port. -/
theorem carriesIngest {c : Instr} (own : touchesIngest c = true) : CarriesIngest (Reaches c) where
  refl := refl
  trans := trans
  update f s := onIngest f s own
  settles := settle c
  picture r s _ := publishPicture c 0 r s
  lines r s := publishLines c 0 r s

end Reaches

end Sys2Proof.Machine
end

section
/-! What the commands of a channel, of its port and of the receive lanes reach. -/

namespace Sys2Proof.Machine
namespace Reaches

/-! ## Updates of a channel -/

/-- One channel's update, each part as the command may. -/
theorem chan_ {c : Instr} {k : Chan} {f : Channel → Channel} (s : State)
    (timebase : touchesTimebase k c = false → timebaseOf (f (chan s k)).port = timebaseOf (chan s k).port
      ∧ (f (chan s k)).port.source = (chan s k).port.source)
    (sizer : isConfigRead c = false → isRestart c = false →
      configuredSizer (f (chan s k)).siz = configuredSizer (chan s k).siz)
    (forced : touchesForced k c = false → (f (chan s k)).csl.forced = (chan s k).csl.forced)
    (inert : touchesChannel k c = false → Inert (chan s k) → f (chan s k) = chan s k) : Reaches c s (onChan k f s) := by
  have here : chan (onChan k f s) k = f (chan s k) := chan_onChan ..
  have there {j : Chan} (e : j ≠ k) : chan (onChan k f s) j = chan s j := chan_onChan_ne e f s
  refine of_link (onChan_within k f s).link (fun _ => rfl) (fun j r => ?_) (fun j r p => ?_) (fun j r => ?_) fun j r i => ?_
    <;> by_cases e : j = k
  · subst e; rw [here]; exact timebase r
  · rw [there e]; exact ⟨rfl, rfl⟩
  · subst e; rw [here]; exact sizer r p
  · rw [there e]
  · subst e; rw [here]; exact forced r
  · rw [there e]
  · subst e; rw [here]; exact inert r i
  · exact there e

/-- The update of a channel that selects a copy, its settings kept. -/
theorem selecting {c : Instr} {k : Chan} {q : Copy} {f : Channel → Channel} {s : State} (sel : selectionOf s k = some q)
    (settings : settingsOf (f (chan s k)) = settingsOf (chan s k)) : Reaches c s (onChan k f s) := by
  refine local_ (.onChan k f) (by rw [chan_onChan, settings]) fun _ i => ?_
  have none : selectionOf s k = none := i.selection
  rw [sel] at none
  cases none

section own
variable {c : Instr} {k : Chan} (own : touchesChannel k c = true)
include own

theorem own_local {f : State → State} (loc : Local k f) (s : State)
    (settings : settingsOf (chan (f s) k) = settingsOf (chan s k)) : Reaches c s (f s) :=
  local_ loc settings fun r => absurd r (by rw [own]; decide)

theorem own_configured {f : Env → Channel → Channel} (h : ∀ env d, settingsOf (f env d) = settingsOf d) (s : State) :
    Reaches c s (onConfigured k f s) := own_local own (onConfigured_local k f) s (onConfigured_settings h k s)

/-! ## The timers of a channel -/

theorem stalled (s : State) : Reaches c s (stalled k s) := by
  refine own_configured own (fun env d => ?_) s
  exact settings_ite ((stallReport_settings env _).trans rfl) rfl

theorem acquisitionTimer (s : State) : Reaches c s (acquisitionTimer k s) := .ite (own_chan s own rfl) (refl s)

theorem decayTimer (s : State) : Reaches c s (decayTimer k s) :=
  .ite (own_configured (f := decayExpired) own (fun _ _ => rfl) s) (refl s)

theorem holdoverTimer (s : State) : Reaches c s (holdoverTimer k s) := by
  have counted : Reaches c s (onChan k countRelock s) := own_chan s own rfl
  refine .ite ?_ (refl s)
  unfold holdoverExpired
  dsimp only
  split
  · exact counted.trans (own_local own (enterLatched_local k) _ (enterLatched_settings k _))
  · exact counted.trans (own_chan _ own rfl)

theorem refreshExpired (s : State) : Reaches c s (refreshExpired k s) := by
  unfold Machine.refreshExpired
  split
  · have called : Reaches c s (onTx (holdCalls k (requestCall s k (selectionOf s k))) s) :=
      of_chans rfl (fun _ => rfl) rfl
    exact .ite (called.trans (own_chan _ own rfl)) (refl s)
  · exact refl s

theorem passOverExpired (s : State) : Reaches c s (passOverExpired k s) :=
  .ite ((own_chan s own rfl).trans (rejudgeOne c k _)) (refl s)

theorem revertExpired (s : State) : Reaches c s (revertExpired k s) := by
  unfold Machine.revertExpired
  split
  · exact refl s
  next q _ =>
  have judged := rejudgeOne c k s
  have switched := (judged.trans (own_local own (switchTo_local k (some q)) _ (switchTo_settings k (some q) _))).trans
    (own_chan (f := (count · .copyReverted)) _ own rfl)
  dsimp only
  split
  · split
    · exact switched.trans (own_local own (standardReport_local k) _ (standardReport_settings k _))
    · exact switched
  · exact judged

/-! ## The output port -/

/-- What a scan does to its channel: the timebase and the source are the port's own, the rest stays. -/
theorem scanned {f : Channel → Channel} (time : touchesTimebase k c = true) (s : State)
    (kept : inside (f (chan s k)) = inside (chan s k)) : Reaches c s (onChan k f s) :=
  chan_ s (fun r => absurd r (by rw [time]; decide)) (fun _ _ => congrArg configuredSizer (inside_siz kept))
    (fun _ => congrArg Selector.forced (inside_csl kept)) fun r => absurd r (by rw [own]; decide)

theorem enterAt (here : Bool) (s : State) : Reaches c s (enterAt k here s) := by
  have entered : Reaches c s (onConfigured k enterConverting s) :=
    own_configured (f := enterConverting) own (fun _ _ => rfl) s
  unfold Machine.enterAt
  split
  · exact entered.trans (settle c _)
  · exact refl s

theorem publishScan (std : StdCode) (t : Time) (s : State) : Reaches c s (publishScan k std t s) := by
  have silent : Reaches c s (onChan k (onPort fun p => { p with publishing := false }) s) := own_chan s own rfl
  unfold Machine.publishScan
  split
  · split
    · dsimp only
      split
      · have numbered : Reaches c s (onChan k (onPort fun p => { p with sequence := p.sequence + 1, publishing := true }) s) :=
          own_chan s own rfl
        exact numbered.trans (publishPicture c ..)
      · exact silent
    · exact silent
  · exact refl s

omit own in
theorem publishLine (std : StdCode) (i : Nat) (s : State) : Reaches c s (publishLine k std i s) := by
  unfold Machine.publishLine
  split
  · dsimp only
    split
    · exact foldl (fun s r => publishLines c _ r s) _ _
    · exact refl s
  · exact refl s

theorem emitLine (s : State) : Reaches c s (emitLine k s) := by
  unfold Machine.emitLine
  dsimp only
  split
  · split
    · exact trans (own_chan s own rfl) (publishLine ..)
    · exact own_chan s own rfl
  · exact refl s

end own
end Reaches

theorem count_inside {x : ChanCtr} (h : x ∉ reportCounters) (c : Channel) : inside (count c x) = inside c :=
  congrArg Outside.inner (count_outside h c)

theorem sweep_inside (c : Channel) : inside (sweep c) = inside c := congrArg Outside.inner (sweep_outside c)

theorem port_inside (c : Channel) (p : Port) : inside { c with port := p } = inside c := rfl

theorem inside_ite {c d e : Channel} {p : Prop} [Decidable p] (hd : inside d = inside c) (he : inside e = inside c) :
    inside (if p then d else e) = inside c := by
  split
  · exact hd
  · exact he

theorem disposeRecord_inside (c : Channel) : inside (disposeRecord c).2 = inside c := by
  have emptied (b : BufNo) : inside (emptyBuffer b (withRecord none c)) = inside c := rfl
  unfold disposeRecord
  split
  · split
    · rfl
    · dsimp only
      rw [sweep_inside, count_inside (by decide), emptied]
  · rfl

theorem timeScan_inside (std : StdCode) (t : Time) (c : Channel) : inside (timeScan std t c) = inside c := by
  unfold timeScan
  exact inside_ite (inside_ite ((count_inside (x := .refJumps) (by decide) _).trans (port_inside c _))
    (port_inside c _)) (port_inside c _)

theorem ownReference_inside (c : Channel) : inside (ownReference c) = inside c := by
  unfold ownReference
  split
  · rfl
  · split
    · split
      · exact sweep_inside _
      · rfl
    · rfl

theorem chooseSource_inside (running : Bool) (m : SafeMode) (handed : Option BufNo) (c : Channel) :
    inside (chooseSource running m handed c) = inside c := by
  have emptied (b : BufNo) : inside (emptyBuffer b c) = inside c := rfl
  unfold chooseSource
  dsimp only
  rw [count_inside (by decide), port_inside]
  split
  · exact inside_ite (port_inside c _) ((port_inside _ _).trans (emptied _))
  · exact inside_ite (count_inside (x := .repeats) (by decide) c) (port_inside c _)

theorem Reaches.scan {c : Instr} {k : Chan} (own : touchesChannel k c = true) (time : touchesTimebase k c = true)
    (entry : EntryOrder) (s : State) : Reaches c s (scan k entry s) := by
  have timed (std : StdCode) (t : Time) : inside (ownReference (timeScan std t
      { (disposeRecord (chan s k)).2 with ren := { (disposeRecord (chan s k)).2.ren with selected := false } }))
      = inside (chan s k) :=
    (ownReference_inside _).trans ((timeScan_inside ..).trans (disposeRecord_inside _))
  unfold Machine.scan
  split
  · next std t _ _ =>
    refine .ite (.ite (scanned own time s rfl) ?_) (refl s)
    exact ((((scanned own time s (timed std t)).trans (enterAt own _ _)).trans
      (scanned own time _ (chooseSource_inside ..))).trans (enterAt own _ _)).trans
      ((publishScan own std t _).trans (enterAt own _ _))
  · exact refl s

/-! ## Receive lanes -/

namespace Reaches
variable {c : Instr}

theorem stepNotice (l : LaneNo) (k : Chan) (s : State) : Reaches c s (stepNotice l k s) := by
  unfold Machine.stepNotice
  split
  · next selects =>
    obtain ⟨q, sel, -⟩ : ∃ q, selectionOf s k = some q ∧ q.origin = .lane l := by
      obtain ⟨q, sel, on⟩ := Option.any_eq_true _ _ |>.mp selects
      exact ⟨q, sel, by simpa using on⟩
    exact selecting sel rfl
  · exact refl s

theorem deferReport (l : LaneNo) (k : Chan) (s : State) : Reaches c s (deferReport l k s) := by
  unfold Machine.deferReport
  split
  · next q sel =>
    dsimp only
    split
    · generalize (if ((lane s l).entry.entries.get q.pub).status = PubStatus.deferred
        then min ((chan s k).csl.deferred + 1) 5 else 0) = n
      have noted : Reaches c s (onChan k (fun d => { d with csl := { d.csl with deferred := n } }) s) := selecting sel rfl
      have sel' : selectionOf (onChan k (fun d => { d with csl := { d.csl with deferred := n } }) s) k = some q := by
        rw [selectionOf, chan_onChan]; exact sel
      exact .ite (noted.trans (selecting sel' rfl)) noted
    · exact refl s
  · exact refl s

theorem followGeneration (l : LaneNo) (before : Option Copy) (k : Chan) (s : State) :
    Reaches c s (followGeneration l before k s) := by
  unfold Machine.followGeneration
  split
  · next q sel => exact .ite (selecting sel rfl) (refl s)
  · exact refl s

theorem leftLive (e : PeerEntry) (l : LaneNo) (s : State) (own : touchesDemand c = true) :
    Reaches c s (leftLive e l s) :=
  of_chans (leftLive_within e l s) (fun r => absurd r (by rw [own]; decide)) (by rw [leftLive_frame])

theorem takeBeacon (l : LaneNo) (arrival : Time) (b : Beacon) (s : State) (lanes : touchesLane l c = true)
    (demand : touchesDemand c = true) : Reaches c s (takeBeacon l arrival b s) := by
  have noticed (t : State) : Reaches c t
      (if stepsOn (lane s l).entry arrival b then Machine.stepNotice l 1 (Machine.stepNotice l 0 t) else t) :=
    .ite ((stepNotice ..).trans (stepNotice ..)) (refl t)
  exact (((onLane _ s lanes).trans (noticed _)).trans
    (((deferReport ..).trans (deferReport ..)).trans (rejudgeBoth c _))).trans
    (((followGeneration ..).trans (followGeneration ..)).trans (leftLive _ l _ demand))

theorem receive (l : LaneNo) (flight : Nat) (ws : List Word) (s : State) (lanes : touchesLane l c = true)
    (demand : touchesDemand c = true) : Reaches c s (receive l flight ws s) := by
  unfold Machine.receive receiveRecord
  refine .ite (refl s) ?_
  split
  · exact onLane _ s lanes
  · refine (onLane (countLane · .rxRecords) s lanes).trans ?_
    unfold deliver
    split
    · exact .ite (onLane _ _ lanes) (takeBeacon _ _ _ _ lanes demand)
    · exact of_chans (takeCall_within ..) (fun r => absurd r (by rw [demand]; decide)) (by rw [takeCall_frame])
    · exact (pictureToChannel ..).trans (pictureToChannel ..)
    · exact (linesToChannel ..).trans (linesToChannel ..)

theorem lapseLane (l : LaneNo) (s : State) (lanes : touchesLane l c = true) (demand : touchesDemand c = true) :
    Reaches c s (lapseLane l s) :=
  ((onLane _ s lanes).trans (rejudgeBoth c _)).trans (leftLive _ l _ demand)

end Reaches

end Sys2Proof.Machine
end

section
/-! What the management port, the Reference Input, RESTART and the configuration reach; and that every command keeps to
what reaches it. -/

namespace Sys2Proof.Machine
namespace Reaches

/-! ## The management port -/

section management
variable {c : Instr} (own : isManagement c = true)
include own

theorem accept (s : State) : Reaches c s (accept s) := port _ _ s.flags own
theorem refuseWith (r : Refused) (s : State) : Reaches c s (refuseWith r s) := port _ _ s.flags own
theorem acceptRead (values : State → Values) (s : State) : Reaches c s (acceptRead values s) := port _ _ s.flags own

theorem selectStart (s : State) : Reaches c s (selectStart s) := by
  unfold Machine.selectStart
  split
  · exact refl s
  · exact port _ s.tally s.flags own

theorem selectEnd (s : State) : Reaches c s (selectEnd s) := by
  unfold Machine.selectEnd
  split
  · exact refl s
  · exact port _ _ s.flags own
  · exact port _ s.tally s.flags own

theorem readChannelCmd (b : Byte) (s : State) : Reaches c s (readChannelCmd b s) := by
  unfold Machine.readChannelCmd
  split
  · exact acceptRead own ..
  · exact refuseWith own ..

theorem readCountersCmd (b : Byte) (s : State) : Reaches c s (readCountersCmd b s) :=
  .ite (acceptRead own ..) (refuseWith own ..)

end management

/-- The channel that a byte names carries its number. -/
theorem channel_of_active {b : Byte} {s : State} {k : Chan} (h : activeChannel b s = some k) : b.toNat = k.val := by
  have named : channelOf b = some k := by
    unfold activeChannel at h
    split at h
    · split at h
      · cases h
      · next named _ => rw [named]; exact h
    · cases h
  unfold channelOf at named
  split at named
  · next zero => cases named; rw [zero]; rfl
  · split at named
    · next one => cases named; rw [one]; rfl
    · cases named

theorem releaseLatchCmd (dt : Nat) (b : Byte) (s : State) :
    Reaches (.releaseLatch dt b) s (releaseLatchCmd b s) := by
  unfold Machine.releaseLatchCmd
  split
  · exact refuseWith rfl ..
  split
  · exact refuseWith rfl ..
  next k active =>
  have own : touchesChannel k (.releaseLatch dt b) = true := decide_eq_true (channel_of_active active)
  split
  · exact ((own_chan s own rfl).trans (own_local own (enterAcquiring_local k) _ (enterAcquiring_settings k _))).trans
      (accept rfl _)
  · exact refuseWith rfl ..

theorem forceCopyCmd (dt : Nat) (b o n p : Byte) (s : State) :
    Reaches (.forceCopy dt b o n p) s (forceCopyCmd b o n p s) := by
  unfold Machine.forceCopyCmd
  split
  · exact refuseWith rfl ..
  split
  · exact refuseWith rfl ..
  next k active =>
  have own : touchesChannel k (.forceCopy dt b o n p) = true := decide_eq_true (channel_of_active active)
  have forces : touchesForced k (.forceCopy dt b o n p) = true := decide_eq_true (channel_of_active active)
  split
  · exact refuseWith rfl ..
  next q _ =>
  have forced : Reaches (.forceCopy dt b o n p) s
      (onChan k (fun d => { d with csl := { d.csl with forced := q } }) s) :=
    chan_ s (fun _ => ⟨rfl, rfl⟩) (fun _ _ => rfl) (fun r => absurd r (by rw [forces]; decide))
      fun r => absurd r (by rw [own]; decide)
  exact (forced.trans (rejudgeOne _ k _)).trans (accept rfl _)

theorem carriesClears (dt : Nat) (g f i : Byte) : CarriesClears (Reaches (.clearEvents dt g f i)) where
  refl := refl
  trans := trans
  lanes s := { refl s with lanes := nofun, inert := nofun }
  laneFlag _ s l := onLane (l := l) _ s rfl
  deferred _ _ := of_chans rfl (fun _ => rfl) rfl
  inputs _ _ s := { refl s with ingest := nofun, reference := nofun, inert := nofun }
  ports k _ _ s := own_chan (k := k) s rfl rfl
  channel k _ s := own_chan (k := k) s rfl rfl
  station f s := port s.mgp s.tally f rfl

theorem clearEventsCmd (dt : Nat) (g f i : Byte) (s : State) :
    Reaches (.clearEvents dt g f i) s (clearEventsCmd g f i s) := by
  unfold Machine.clearEventsCmd
  split
  · exact refuseWith rfl ..
  split
  · next cleared => exact ((carriesClears dt g f i).clearFlags cleared).trans (accept rfl _)
  · exact refuseWith rfl ..

/-! ## The Reference Input -/

/-- Both ports, by a command of the Reference Input. -/
theorem onPorts {c : Instr} (own : ∀ k, touchesChannel k c = true) (time : ∀ k, touchesTimebase k c = true)
    (f : Port → Port) (s : State) : Reaches c s (onPorts f s) :=
  (scanned (f := onPort f) (own 0) (time 0) s rfl).trans (scanned (f := onPort f) (own 1) (time 1) _ rfl)

theorem pulse (dt : Nat) (s : State) : Reaches (.referencePulse dt) s (pulse s) := by
  have ref (f : Reference → Reference) (t : State) : Reaches (.referencePulse dt) t (Machine.onRef f t) := onRef f t rfl
  have ports (f : Port → Port) (t : State) : Reaches (.referencePulse dt) t (Machine.onPorts f t) :=
    onPorts (fun _ => rfl) (fun _ => rfl) f t
  unfold Machine.pulse
  refine .ite (refl s) ((ref (countRef · .pulses) s).trans ?_)
  dsimp only
  split
  · exact ref ..
  · split
    · exact (ref ..).trans (ports ..)
    · exact ref ..
  · split
    · exact (ref ..).trans (ports ..)
    · exact ref ..

theorem refMiss (dt : Nat) (s : State) : Reaches (.refMissed dt) s (refMiss s) := by
  have ref (f : Reference → Reference) (t : State) : Reaches (.refMissed dt) t (Machine.onRef f t) := onRef f t rfl
  unfold Machine.refMiss
  split
  · refine .ite ((ref (countRef · .missed) s).trans ?_) (refl s)
    dsimp only
    split
    · exact ref ..
    · exact (ref ..).trans (onPorts (fun _ => rfl) (fun _ => rfl) ..)
  · exact refl s

/-! ## RESTART and the configuration -/

theorem restartChannel_timebase (now : Time) (c : Channel) :
    timebaseOf (restartChannel now c).port = timebaseOf c.port ∧ (restartChannel now c).port.source = c.port.source := by
  have kept := flush_settings now c
  exact ⟨congrArg (·.1) kept, congrArg (·.2.1) kept⟩

theorem restartCmd (dt : Nat) (s : State) : Reaches (.restart dt) s (restartCmd s) where
  lanes := nofun
  ingest := nofun
  reference _ := rfl
  management := nofun
  stored _ := ⟨rfl, rfl, rfl⟩
  station := nofun
  counted := nofun
  demand := nofun
  timebase k _ := by rw [restartCmd_chan]; exact restartChannel_timebase s.now (chan s k)
  sizer := nofun
  forced := nofun
  inert := nofun

end Reaches

/-- What the entry into RUNNING leaves alone: all but the stored configuration, the station, the reference, the channels
but for the forced copy, and the transmit lane (12/R194). -/
structure Entered (s t : State) : Prop where
  lanes : t.lanes = s.lanes
  ingest : t.ing = s.ing
  management : t.mgp = s.mgp
  demand : t.pub.demand = s.pub.demand
  forced : ∀ k, (chan t k).csl.forced = (chan s k).csl.forced

theorem Entered.trans {s t u : State} (h : Entered s t) (g : Entered t u) : Entered s u :=
  ⟨g.lanes.trans h.lanes, g.ingest.trans h.ingest, g.management.trans h.management, g.demand.trans h.demand,
    fun k => (g.forced k).trans (h.forced k)⟩

theorem Entered.of_chans {s t : State} (lanes : t.lanes = s.lanes) (ingest : t.ing = s.ing) (management : t.mgp = s.mgp)
    (demand : t.pub.demand = s.pub.demand) (chans : t.chans = s.chans) : Entered s t :=
  ⟨lanes, ingest, management, demand, fun k => by rw [chan, chans]; rfl⟩

theorem Entered.onChan {k : Chan} {f : Channel → Channel} (s : State)
    (forced : ∀ d, (f d).csl.forced = d.csl.forced) : Entered s (onChan k f s) := by
  refine ⟨rfl, rfl, rfl, rfl, fun j => ?_⟩
  by_cases e : j = k
  · rw [e, chan_onChan, forced]
  · rw [chan_onChan_ne e]

theorem Entered.onPorts (f : Port → Port) (s : State) : Entered s (onPorts f s) :=
  (Entered.onChan (k := 0) (f := onPort f) s fun _ => rfl).trans (Entered.onChan (k := 1) (f := onPort f) _ fun _ => rfl)

theorem takeConfig_entered (g : StationConfig) (s : State) : Entered s (takeConfig g s) := by
  have stored : Entered s { s with station := .running, config := some g, eventMask := g.eventMask } :=
    .of_chans rfl rfl rfl rfl rfl
  have lost (t : State) : Entered t (portsLoseReference g.reference t) := by
    unfold portsLoseReference
    split
    · exact .onPorts loseReference t
    · exact .of_chans rfl rfl rfl rfl rfl
  have referred (t : State) : Entered t (onRef (takeReference g.reference) t) := .of_chans rfl rfl rfl rfl rfl
  unfold takeConfig
  dsimp only
  refine (((stored.trans (lost _)).trans (referred _)).trans (.onChan _ ?_)).trans (.onChan _ ?_)
  · exact fun _ => rfl
  · exact fun _ => rfl

theorem formed_forced (cfg : ChanConfig) (c : Channel) :
    (formTables cfg (formPlacement cfg c)).csl.forced = c.csl.forced := by
  unfold formTables formPlacement
  dsimp only
  split <;> rw [computeSteps_eq] <;> split <;> rfl

theorem startChannel_entered (g : StationConfig) (s : State) (k : Chan) : Entered s (startChannel g s k) := by
  unfold startChannel
  dsimp only
  split
  · exact .of_chans rfl rfl rfl rfl rfl
  · exact .onChan s fun _ => rfl
  · have formed := Entered.onChan (k := k) s (formed_forced (g.chans.get k))
    refine formed.trans ?_
    generalize onChan k (fun d => formTables (g.chans.get k) (formPlacement (g.chans.get k) d)) s = t
    have link := (enterAcquiring_within k t).link
    refine ⟨link.lanes, link.ing, link.mgp, by rw [(enterAcquiring_within k t).pub], fun j => ?_⟩
    by_cases e : j = k
    · rw [e]; exact congrArg (·.2.2.2) (enterAcquiring_settings k t)
    · rw [(enterAcquiring_local k).other e t]

theorem enterRunning_entered (g : StationConfig) (s : State) : Entered s (enterRunning g s) := by
  have published (t : State) : Entered t (startPublishing t) := by
    have link := startPublishing_within t
    exact .of_chans link.lanes link.ing link.mgp rfl rfl
  exact ((takeConfig_entered g s).trans (published _)).trans
    ((startChannel_entered g _ 0).trans (startChannel_entered g _ 1))

theorem readDone_entered (image : List (BitVec 32)) (s : State) : Entered s (readDone image s) := by
  unfold readDone
  split
  · exact .of_chans rfl rfl rfl rfl rfl
  split
  · refine Entered.trans ?_ (enterRunning_entered ..)
    split <;> exact .of_chans rfl rfl rfl rfl rfl
  · exact .of_chans rfl rfl rfl rfl rfl

theorem Reaches.readDone (dt : Nat) (image : List (BitVec 32)) (s : State) :
    Reaches (.configReadDone dt image) s (readDone image s) := by
  obtain ⟨lanes, ingest, management, demand, forced⟩ := readDone_entered image s
  exact {
    lanes := fun l _ => congrArg (Bank.get · l) lanes
    ingest := fun _ => ingest
    reference := nofun
    management := fun _ _ => management
    stored := nofun
    station := nofun
    counted := nofun
    demand := fun _ => demand
    timebase := nofun
    sizer := nofun
    forced := fun k _ => forced k
    inert := nofun }

/-! ## Every command -/

theorem body_reaches (c : Instr) (s : State) : Reaches c s (body c s) := by
  cases c with
  | powerOn => exact .refl s
  | configReadDone dt image => exact .readDone ..
  | selectAsserted dt => exact .selectStart rfl s
  | selectReleasedEarly dt => exact .selectEnd rfl s
  | readSummary dt => exact .acceptRead rfl ..
  | readChannel dt b => exact .readChannelCmd rfl ..
  | readPeers dt => exact .acceptRead rfl ..
  | readCounters dt b => exact .readCountersCmd rfl ..
  | clearEvents dt g f i => exact .clearEventsCmd ..
  | releaseLatch dt b => exact .releaseLatchCmd ..
  | forceCopy dt b o n p => exact .forceCopyCmd ..
  | restart dt => exact .restartCmd ..
  | unknownCode dt b => exact .refuseWith rfl ..
  | recordReceived dt l flight words => exact .receive l flight words s (by simp [touchesLane]) rfl
  | recordSent dt => exact .of_chans rfl (fun _ => rfl) rfl
  | beaconTimerExpiry dt =>
    show Reaches _ s (beaconTimer s)
    unfold beaconTimer
    split
    · split
      · exact .of_chans rfl (fun _ => rfl) rfl
      · exact .refl s
    · exact .refl s
  | qualifyingDeadline dt l => exact .ite (.onLane _ s (by simp [touchesLane])) (.refl s)
  | liveDeadline dt l => exact .ite (.lapseLane l s (by simp [touchesLane]) rfl) (.refl s)
  | lapsedDeadline dt l => exact .ite (.onLane _ s (by simp [touchesLane])) (.refl s)
  | millisecondTick dt =>
    show Reaches _ s (millisecond s)
    unfold millisecond
    split
    · split
      · exact .of_chans rfl nofun rfl
      · exact .refl s
    · exact .refl s
  | refreshTimerExpiry dt k => exact .refreshExpired (by simp [touchesChannel]) s
  | passOverExpiry dt k => exact .passOverExpired (by simp [touchesChannel]) s
  | revertHoldExpiry dt k => exact .revertExpired (by simp [touchesChannel]) s
  | finishDone dt k i =>
    exact .own_configured (f := (finishSlot · i)) (by simp [touchesChannel])
      (fun env d => settings_of_outside (finishSlot_outside env i d)) s
  | stall dt k => exact .stalled (by simp [touchesChannel]) s
  | motionJobStart dt k =>
    exact .own_configured (f := startJob) (by simp [touchesChannel]) (fun env d => settings_of_outside (startJob_outside env d)) s
  | motionJobDone dt k =>
    exact .own_chan (f := endJob) s (by simp [touchesChannel]) (settings_of_outside (endJob_outside _))
  | renderSelection dt k =>
    exact .own_configured (f := makeSelection) (by simp [touchesChannel])
      (fun env d => settings_of_outside (makeSelection_outside env d)) s
  | renderBegin dt k =>
    exact .own_chan (f := beginRender) s (by simp [touchesChannel]) (settings_of_outside (beginRender_outside _))
  | concealPoint dt k =>
    exact .own_configured (f := takeConcealPoint) (by simp [touchesChannel])
      (fun env d => settings_of_outside (takeConcealPoint_outside env d)) s
  | renderComplete dt k =>
    exact .own_configured (f := fun env => completeRender env.cfg.target) (by simp [touchesChannel])
      (fun env d => completeRender_settings env.cfg.target d) s
  | scanStart dt k entry => exact .scan (by simp [touchesChannel]) (by simp [touchesTimebase]) entry s
  | outputLineRecords dt k => exact .emitLine (by simp [touchesChannel]) s
  | referencePulse dt => exact .pulse ..
  | refQualifyTimeout dt => exact .ite (.onRef _ s rfl) (.refl s)
  | refMissed dt => exact .refMiss ..
  | acquisitionTimerExpiry dt k => exact .acquisitionTimer (by simp [touchesChannel]) s
  | holdoverTimerExpiry dt k => exact .holdoverTimer (by simp [touchesChannel]) s
  | decayTimerExpiry dt k => exact .decayTimer (by simp [touchesChannel]) s
  | ingestMarker dt tail f check => exact (Reaches.carriesIngest rfl).readWords ..
  | ingestSampleGroup dt cb y0 cr y1 => exact (Reaches.carriesIngest rfl).readWords ..
  | ingestDeadline dt => exact (Reaches.carriesIngest rfl).ingestLate s

theorem advance_reaches (c : Instr) (dt : Nat) (s : State) : Reaches c s (advance dt s) :=
  { Reaches.refl (c := c) s with inert := fun _ _ _ => rfl }

/-- Settles O6: a command's ticks, its own part and its end each reach no more than the command can. -/
theorem blocksChangeOnlyByTheirCommands : Obligations.BlocksChangeOnlyByTheirCommands := by
  unfold Obligations.BlocksChangeOnlyByTheirCommands
  intro c s t run
  cases power : isPowerOn c with
  | true =>
    cases c with
    | powerOn =>
      exact ⟨fun _ => nofun, nofun, nofun, fun _ => nofun, fun _ => nofun, nofun,
        fun k => ⟨nofun, fun _ => nofun, nofun, nofun⟩⟩
    | _ => cases power
  | false =>
    rw [exec_eq_body power] at run
    obtain rfl := Host.Outcome.next.inj run
    have reached := ((advance_reaches c c.elapsed s).trans (body_reaches c _)).trans (Reaches.conclude c _)
    generalize conclude (body c (advance c.elapsed s)) = t at reached
    obtain ⟨lanes, ingest, reference, management, stored, station, counted, demand, timebase, sizer, forced, inert⟩ := reached
    refine ⟨lanes, ingest, reference, fun m _ => management m power, fun read _ => ?_, demand, fun k => ?_⟩
    · obtain ⟨config, clamped, mask⟩ := stored read
      exact ⟨config, clamped, mask, station read, counted read⟩
    · exact ⟨timebase k, fun read _ => sizer k read, forced k, fun r off none aim => inert k r ⟨off, none, aim⟩⟩

end Sys2Proof.Machine
end

section
/-! The stamps a channel gives under the rebase, and its period estimate (04/R67, R68, 05/R78). -/

namespace Sys2Proof.Machine

/-! ## The rebase (04/R67, R68) -/

theorem sdiff_eq_zero_iff {a b : Time} : sdiff a b = 0 ↔ a = b := by
  unfold sdiff
  rw [← BitVec.toInt_zero (w := 48), BitVec.toInt_inj]
  bv_omega

theorem slew_natAbs (rebase : Int) (step : Nat) : (slew rebase step).natAbs = rebase.natAbs - step := by
  unfold slew
  split <;> omega

theorem slew_nonneg {rebase : Int} (h : 0 ≤ rebase) (step : Nat) : 0 ≤ slew rebase step := by
  unfold slew
  split <;> omega

theorem slew_nonpos {rebase : Int} (h : rebase ≤ 0) (step : Nat) : slew rebase step ≤ 0 := by
  unfold slew
  split <;> omega

/-- The channel whose Copy Selector holds a rebase, moved once toward 0, and its step. -/
def settled (rebase : Int) (step : Nat) (c : Channel) : Channel :=
  { c with csl := { c.csl with rebase := slew rebase step, rebaseStep := step, rebasePending := false } }

theorem giveStamp_pending {c : Channel} (pending : c.csl.rebasePending = true) {n : Time} (newest : c.int.newest = some n)
    (mapped : Time) : giveStamp mapped c = (shift n c.int.pEst,
      if sdiff (shift n c.int.pEst) mapped = 0 then settled (sdiff (shift n c.int.pEst) mapped) (c.int.pEst / 64) c
      else count (settled (sdiff (shift n c.int.pEst) mapped) (c.int.pEst / 64) c) .rebased) := by
  unfold giveStamp
  dsimp only
  rw [if_pos pending, newest]
  rfl

theorem giveStamp_first {c : Channel} (pending : c.csl.rebasePending = true) (none : c.int.newest = none)
    (mapped : Time) : giveStamp mapped c = (mapped, settled 0 0 c) := by
  unfold giveStamp
  dsimp only
  rw [if_pos pending, none]
  rfl

theorem giveStamp_running {c : Channel} (running : c.csl.rebasePending = false) (mapped : Time) :
    giveStamp mapped c = (shift mapped c.csl.rebase, settled c.csl.rebase c.csl.rebaseStep c) := by
  unfold giveStamp settled
  dsimp only
  rw [running]
  rfl

/-- The stamp is given by the Copy Selector, and its counter may count a rebase; nothing else of the channel moves. -/
theorem giveStamp_frame (mapped : Time) (c : Channel) : (giveStamp mapped c).2 = { c with
    csl := (giveStamp mapped c).2.csl, tally := (giveStamp mapped c).2.tally } := by
  unfold giveStamp
  dsimp only
  split
  · split
    · split <;> rfl
    · rfl
  · rfl

theorem giveStamp_selector (mapped : Time) (c : Channel) : (giveStamp mapped c).2.csl = { c.csl with
    rebase := (giveStamp mapped c).2.csl.rebase, rebaseStep := (giveStamp mapped c).2.csl.rebaseStep
    rebasePending := false } := by
  cases pending : c.csl.rebasePending with
  | false => rw [giveStamp_running pending]; rfl
  | true =>
    cases newest : c.int.newest with
    | none => rw [giveStamp_first pending newest]; rfl
    | some n =>
      rw [giveStamp_pending pending newest]
      dsimp only
      split <;> rfl

/-! ## The period estimate (05/R78) -/

theorem holdPeriod_mem (nominal : Nat) (x : Int) :
    nominal - nominal / 16384 ≤ holdPeriod nominal x ∧ holdPeriod nominal x ≤ nominal + nominal / 16384 := by
  have band := clampInt_mem (lo := (nominal : Int) - (nominal / 16384 : Nat)) (hi := nominal + (nominal / 16384 : Nat))
    (by omega) x
  unfold holdPeriod
  omega

theorem holdPeriod_of_mem {nominal : Nat} {x : Int} (low : (nominal : Int) - (nominal / 16384 : Nat) ≤ x)
    (high : x ≤ nominal + (nominal / 16384 : Nat)) : (holdPeriod nominal x : Int) = x := by
  rw [holdPeriod, clampInt_of_mem low high]
  omega

theorem updatePeriod_moved {stamp t : Time} {c : Channel} (closed : c.int.lastClosed = some t)
    (near : sdiff stamp t ≤ 2 * ((standardOf c.int.standard).rawPeriod : Int)) : (updatePeriod stamp c).int.pEst
      = holdPeriod (standardOf c.int.standard).rawPeriod (c.int.pEst + roundHalfAway (sdiff stamp t - c.int.pEst) 16) := by
  unfold updatePeriod
  dsimp only
  rw [closed]
  exact if_pos near

theorem updatePeriod_kept {stamp : Time} {c : Channel} (far : c.int.lastClosed = none ∨ ∃ t, c.int.lastClosed = some t
      ∧ 2 * ((standardOf c.int.standard).rawPeriod : Int) < sdiff stamp t) :
    (updatePeriod stamp c).int.pEst = c.int.pEst := by
  unfold updatePeriod
  dsimp only
  obtain closed | ⟨t, closed, far⟩ := far
  · rw [closed]
  · rw [closed]
    exact if_neg (by omega)

/-! ## The statement -/

/-- Settles O39: a stamp is given in one of three ways, and a closing picture moves the estimate only while its interval
is in reach. -/
theorem stampsAndPeriod : Obligations.StampsAndPeriod := by
  unfold Obligations.StampsAndPeriod
  refine ⟨fun mapped c d stamp given => ?_, fun stamp c d n hd hn => ?_⟩
  · obtain ⟨hstamp, hd⟩ := Prod.ext_iff.mp given
    dsimp only at hstamp hd
    have frame := giveStamp_frame mapped c
    have selector := giveStamp_selector mapped c
    rw [← hd] at frame selector
    refine ⟨fun pending n newest => ?_, fun pending none => ?_, fun running => ?_, by rw [selector], by rw [frame],
      by rw [selector], fun x n => ⟨slew_natAbs x n, fun h => slew_nonneg h n, fun h => slew_nonpos h n⟩⟩
    · have hs : stamp = shift n c.int.pEst := by rw [hstamp, giveStamp_pending pending newest]
      rw [giveStamp_pending pending newest, ← hs] at hd
      refine ⟨hs.trans (congrArg (n + ·) (BitVec.ofInt_natCast ..)), ?_⟩
      by_cases same : stamp = mapped
      · rw [if_pos (sdiff_eq_zero_iff.mpr same)] at hd
        rw [hd, if_pos same]
        exact ⟨rfl, rfl, (add_zero _).symm⟩
      · rw [if_neg (mt sdiff_eq_zero_iff.mp same)] at hd
        rw [hd, if_neg same]
        exact ⟨rfl, rfl, (countMany_get ..).trans (if_pos rfl)⟩
    · rw [giveStamp_first pending none] at hstamp hd
      rw [hd]
      exact ⟨hstamp, rfl, rfl⟩
    · rw [giveStamp_running running] at hstamp hd
      rw [hd]
      exact ⟨hstamp, rfl, rfl⟩
  · subst hd hn
    refine ⟨rfl, fun t closed near => ?_, updatePeriod_kept, rfl⟩
    rw [updatePeriod_moved closed near]
    have band := holdPeriod_mem (standardOf c.int.standard).rawPeriod
      (c.int.pEst + roundHalfAway (sdiff stamp t - c.int.pEst) 16)
    exact ⟨band.2, band.1, fun p hp low high => by rw [← hp, holdPeriod_of_mem low high]⟩

end Sys2Proof.Machine
end

section
/-! The candidates of a channel and their order (04/R54, R56, R58). -/

namespace Sys2Proof.Machine

/-! ## The order of keys (04/R56) -/

theorem keysBefore_cons (a b : Nat) (as bs : List Nat) :
    keysBefore (a :: as) (b :: bs) = true ↔ a < b ∨ a = b ∧ keysBefore as bs = true := by
  simp [keysBefore]

theorem keysBefore_asymm {as bs : List Nat} (h : keysBefore as bs = true) : keysBefore bs as = false := by
  induction as generalizing bs with
  | nil => cases h
  | cons a as ih =>
    cases bs with
    | nil => cases h
    | cons b bs =>
      rw [← Bool.not_eq_true, keysBefore_cons]
      rcases (keysBefore_cons ..).mp h with lt | ⟨rfl, rest⟩
      · omega
      · simp [ih rest]

theorem keysBefore_trans {as bs cs : List Nat} (h : keysBefore as bs = true) (g : keysBefore bs cs = true) :
    keysBefore as cs = true := by
  induction as generalizing bs cs with
  | nil => cases h
  | cons a as ih =>
    cases bs with
    | nil => cases h
    | cons b bs =>
      cases cs with
      | nil => cases g
      | cons c cs =>
        rw [keysBefore_cons] at h g ⊢
        rcases h with ab | ⟨rfl, as_bs⟩
        · omega
        · exact g.imp_right fun ⟨bc, bs_cs⟩ => ⟨bc, ih as_bs bs_cs⟩

theorem keysBefore_total {as bs : List Nat} (size : as.length = bs.length) (differ : as ≠ bs) :
    keysBefore as bs = true ∨ keysBefore bs as = true := by
  induction as generalizing bs with
  | nil => exact absurd (List.eq_nil_of_length_eq_zero size.symm).symm differ
  | cons a as ih =>
    cases bs with
    | nil => cases size
    | cons b bs =>
      simp only [keysBefore_cons]
      rcases Nat.lt_trichotomy a b with lt | rfl | gt
      · exact .inl (.inl lt)
      · have rest : as ≠ bs := fun e => differ (by rw [e])
        exact (ih (Nat.succ.inj size) rest).imp (fun h => .inr ⟨rfl, h⟩) (fun h => .inr ⟨rfl, h⟩)
      · exact .inr (.inl gt)

/-- The keys of two candidates, one after the other (04/R56). -/
theorem betterCandidate_iff (d e : Candidate) : betterCandidate d e = true ↔
    rankOf d < rankOf e ∨ rankOf d = rankOf e ∧ keysBefore (orderKeys d).tail (orderKeys e).tail = true :=
  keysBefore_cons ..

theorem betterCandidate_trans {c d e : Candidate} (h : betterCandidate c d = true) (g : betterCandidate d e = true) :
    betterCandidate c e = true := keysBefore_trans h g

/-- With one rank, internal copies go first (04/R56). -/
theorem betterCandidate_ranked {d e : Candidate} (rank : d.rank = e.rank) :
    betterCandidate d e = true ↔ keysBefore (orderKeys d).tail (orderKeys e).tail = true := by
  have ranks : rankOf d = rankOf e := by rw [rankOf, rank]; rfl
  rw [betterCandidate_iff, ranks]
  simp

/-- With one rank and kind, the station decides, and then the lane and the publishable (04/R56). -/
theorem betterCandidate_stationed {d e : Candidate} (rank : d.rank = e.rank)
    (kind : d.origin = .internal ↔ e.origin = .internal) {m n : StationNo} (hm : d.station = some m)
    (hn : e.station = some n) : betterCandidate d e = true ↔
      m < n ∨ m = n ∧ keysBefore ((orderKeys d).drop 3) ((orderKeys e).drop 3) = true := by
  rw [betterCandidate_ranked rank]
  simp only [orderKeys, List.tail_cons, List.drop_succ_cons, List.drop_zero, keysBefore_cons, hm, hn, Option.map_some,
    Option.getD_some, Fin.lt_def, Fin.ext_iff]
  cases hd : d.origin with
  | internal => simp [kind.mp hd]
  | lane i =>
    cases he : e.origin with
    | internal => exact absurd (kind.mpr he) (by rw [hd]; simp)
    | lane j => simp

/-- Candidates of different copies differ in a key. -/
theorem orderKeys_differ {d e : Candidate} (h : (d.origin, d.pub.val) ≠ (e.origin, e.pub.val)) :
    orderKeys d ≠ orderKeys e := by
  intro keys
  simp only [orderKeys, List.cons.injEq, and_true] at keys
  obtain ⟨-, kind, -, lane, pub⟩ := keys
  cases hd : d.origin with
  | internal =>
    cases he : e.origin with
    | internal => exact h (by rw [hd, he, pub])
    | lane j => simp [hd, he] at kind
  | lane i =>
    cases he : e.origin with
    | internal => simp [hd, he] at kind
    | lane j =>
      simp only [hd, he] at lane
      exact h (by rw [hd, he, pub, Fin.ext lane])

theorem betterCandidate_total {d e : Candidate} (h : (d.origin, d.pub.val) ≠ (e.origin, e.pub.val)) :
    betterCandidate d e = true ∨ betterCandidate e d = true := keysBefore_total rfl (orderKeys_differ h)

/-! ## The candidates (04/R54) -/

theorem candidates_copies (s : State) (k : Chan) : (candidates s k).map (fun d => (d.origin, d.pub.val))
    = (.internal, 0) :: (.internal, 2 - k.val)
      :: (List.finRange 7).flatMap (fun l => [(.lane l, 0), (.lane l, 1), (.lane l, 2)]) := by
  have output : (outputOf (otherChan k)).val = 2 - k.val := by decide +revert
  have lanes (l : LaneNo) : ((List.finRange 3).map fun p => laneCandidate s l p).map (fun d => (d.origin, d.pub.val))
      = [(.lane l, 0), (.lane l, 1), (.lane l, 2)] := rfl
  simp only [candidates, List.map_append, List.map_flatMap, lanes, ← output]
  rfl

theorem candidates_nodup (s : State) (k : Chan) : ((candidates s k).map fun d => (d.origin, d.pub.val)).Nodup := by
  rw [candidates_copies]
  decide +revert

theorem mem_candidates {s : State} {k : Chan} {d : Candidate} : d ∈ candidates s k ↔
    (d = internalCandidate s 0 ∨ d = internalCandidate s (outputOf (otherChan k))) ∨ ∃ l p, d = laneCandidate s l p := by
  simp [candidates, eq_comm, or_assoc]

/-- Two candidates of a channel that offer one copy are one. -/
theorem candidates_unique {s : State} {k : Chan} {d e : Candidate} (hd : d ∈ candidates s k) (he : e ∈ candidates s k)
    (origin : d.origin = e.origin) (pub : d.pub = e.pub) : d = e :=
  List.inj_on_of_nodup_map (candidates_nodup s k) hd he (by rw [origin, pub])

theorem candidates_pairwise (s : State) (k : Chan) :
    (candidates s k).Pairwise fun d e => betterCandidate d e = true ∨ betterCandidate e d = true :=
  (List.pairwise_map.mp (candidates_nodup s k)).imp betterCandidate_total

theorem pubFeedOf_output (g : StationConfig) (j : Chan) : pubFeedOf g (outputOf j) = (g.chans.get j).outFeed := by
  rcases (by decide +revert : j = 0 ∨ j = 1) with rfl | rfl <;> rfl

theorem pubRankOf_output (g : StationConfig) (j : Chan) : pubRankOf g (outputOf j) = (g.chans.get j).outRank := by
  rcases (by decide +revert : j = 0 ∨ j = 1) with rfl | rfl <;> rfl

theorem copyOf_eq_some {d : Candidate} {q : Copy} :
    copyOf d = some q ↔ d.origin = q.origin ∧ d.station = some q.station ∧ d.pub = q.pub := by
  obtain ⟨origin, station, pub⟩ := q
  simp only [copyOf, Option.map_eq_some_iff, Copy.mk.injEq]
  constructor
  · rintro ⟨n, known, rfl, rfl, rfl⟩
    exact ⟨rfl, known, rfl⟩
  · rintro ⟨rfl, known, rfl⟩
    exact ⟨station, known, rfl, rfl, rfl⟩

/-! ## Eligible candidates (04/R55) -/

theorem mem_eligibles {s : State} {k : Chan} {d : Candidate} :
    d ∈ eligibles s k ↔ d ∈ candidates s k ∧ eligible s k d = true := List.mem_filter

theorem offering_eq_some {s : State} {k : Chan} {q : Copy} {d : Candidate} :
    offering s k q = some d ↔ d ∈ eligibles s k ∧ copyOf d = some q := by
  constructor
  · intro h
    exact ⟨List.mem_of_find?_eq_some h, by simpa using List.find?_some h⟩
  · rintro ⟨mem, copy⟩
    have found : (offering s k q).isSome := List.find?_isSome.mpr ⟨d, mem, by simpa using copy⟩
    obtain ⟨e, he⟩ := Option.isSome_iff_exists.mp found
    obtain ⟨origin, -, pub⟩ := copyOf_eq_some.mp copy
    have copy' : copyOf e = some q := by simpa using List.find?_some he
    obtain ⟨origin', -, pub'⟩ := copyOf_eq_some.mp copy'
    rw [he, candidates_unique (mem_eligibles.mp (List.mem_of_find?_eq_some he)).1 (mem_eligibles.mp mem).1
      (origin'.trans origin.symm) (pub'.trans pub.symm)]

theorem eligible_ranked {s : State} {k : Chan} {d : Candidate} (h : d ∈ eligibles s k) : ∃ m, d.rank = some m := by
  obtain ⟨mem, elig⟩ := mem_eligibles.mp h
  have configured : ((chanConfig s k).bind (·.feed)).isSome := by
    simp only [eligible, Bool.and_eq_true] at elig
    exact elig.1.1.1.1.1.1.1
  have config : ∃ g, s.config = some g := by
    cases config : s.config with
    | none => simp [chanConfig, config] at configured
    | some g => exact ⟨g, rfl⟩
  obtain ⟨g, config⟩ := config
  have inside (p : PubIx) : (internalCandidate s p).rank = some (pubRankOf g p) := by simp [internalCandidate, config]
  rcases mem_candidates.mp mem with (rfl | rfl) | ⟨l, p, rfl⟩
  · exact ⟨_, inside _⟩
  · exact ⟨_, inside _⟩
  · exact ⟨_, rfl⟩

theorem rankOf_some {d : Candidate} {m : Rank} (h : d.rank = some m) : rankOf d = m.val := by
  rw [rankOf, h]
  rfl

/-! ## The best copy (04/R56) -/

theorem bestOf_eq_none {xs : List Candidate} (h : bestOf xs = none) : xs = [] := by
  cases xs with
  | nil => rfl
  | cons d rest =>
    unfold bestOf at h
    split at h <;> cases h

theorem bestOf_first {xs : List Candidate} (ordered : xs.Pairwise fun d e =>
      betterCandidate d e = true ∨ betterCandidate e d = true) {d : Candidate} (best : bestOf xs = some d) :
    d ∈ xs ∧ ∀ e ∈ xs, e ≠ d → betterCandidate d e = true := by
  induction xs generalizing d with
  | nil => cases best
  | cons x rest ih =>
    obtain ⟨against, ordered⟩ := List.pairwise_cons.mp ordered
    unfold bestOf at best
    split at best
    · next e he =>
      obtain ⟨mem, first⟩ := ih ordered he
      cases best
      by_cases better : betterCandidate e x = true
      · rw [if_pos better]
        refine ⟨List.mem_cons_of_mem x mem, fun y hy other => ?_⟩
        rcases List.mem_cons.mp hy with rfl | hy
        · exact better
        · exact first y hy other
      · rw [if_neg better]
        have ahead : betterCandidate x e = true := (against e mem).resolve_right better
        refine ⟨List.mem_cons_self, fun y hy other => ?_⟩
        have hy : y ∈ rest := (List.mem_cons.mp hy).resolve_left other
        by_cases same : y = e
        · rw [same]; exact ahead
        · exact betterCandidate_trans ahead (first y hy same)
    · next none =>
      cases best
      rw [bestOf_eq_none none]
      simp

theorem eligibles_pairwise (s : State) (k : Chan) : (eligibles s k).Pairwise fun d e =>
    betterCandidate d e = true ∨ betterCandidate e d = true := (candidates_pairwise s k).filter _

theorem revertTarget_lower {s : State} {k : Chan} {q t : Copy} (h : revertTarget s k q = some t) :
    ∃ c d, offering s k q = some c ∧ offering s k t = some d ∧ rankOf d < rankOf c := by
  unfold revertTarget at h
  split at h
  · next c hc =>
    obtain ⟨d, best, copy⟩ := Option.bind_eq_some_iff.mp h
    obtain ⟨mem, -⟩ := bestOf_first ((eligibles_pairwise s k).filter _) best
    obtain ⟨mem, lower⟩ := List.mem_filter.mp mem
    exact ⟨c, d, hc, offering_eq_some.mpr ⟨mem, copy⟩, by simpa using lower⟩
  · cases h

/-! ## The statement -/

theorem internalCandidate_advert {s : State} {k : Chan} {d : Candidate} (mem : d ∈ candidates s k)
    (internal : d.origin = .internal) : d = internalCandidate s d.pub := by
  rcases mem_candidates.mp mem with (rfl | rfl) | ⟨l, p, rfl⟩
  · rfl
  · rfl
  · cases internal

theorem laneCandidate_entry {s : State} {k : Chan} {d : Candidate} (mem : d ∈ candidates s k) {l : LaneNo}
    (lane : d.origin = .lane l) : d = laneCandidate s l d.pub := by
  rcases mem_candidates.mp mem with (rfl | rfl) | ⟨j, p, rfl⟩
  · cases lane
  · cases lane
  · cases lane; rfl

/-- Settles O35: a candidate is what its advert or its lane's entry says, and the keys of no two are the same. -/
theorem copyOrder : Obligations.CopyOrder := by
  unfold Obligations.CopyOrder
  refine ⟨fun s k => ⟨candidates_copies s k, fun d mem => ⟨fun internal => ?_, fun l x lane hx => ?_⟩⟩,
    fun d e => ⟨fun m n hm hn lt => ?_, fun rank internal lane => ?_, fun m n rank kind hm hn => ⟨fun lt => ?_,
      fun same i j hi hj => ⟨fun lt => ?_, fun here lt => ?_⟩, fun same internal lt => ?_⟩, keysBefore_asymm⟩,
    candidates_pairwise, fun s k d => bestOf_first (eligibles_pairwise s k), fun s k q t target => ?_⟩
  · rw [internalCandidate_advert mem internal]
    refine ⟨rfl, rfl, rfl, rfl, fun none => ?_, fun g config j => ⟨fun ingest => ?_, fun output => ?_⟩⟩
    · simp [internalCandidate, none]
    · have ingest : d.pub = 0 := ingest
      rw [ingest, internalCandidate, config]
      exact ⟨rfl, rfl⟩
    · have output : d.pub = outputOf j := output
      rw [output, internalCandidate, config]
      exact ⟨pubFeedOf_output g j, congrArg some (pubRankOf_output g j)⟩
  · rw [laneCandidate_entry mem lane] at hx ⊢
    rw [hx]
    exact ⟨rfl, rfl, rfl, rfl, rfl, rfl⟩
  · rw [betterCandidate_iff, rankOf_some hm, rankOf_some hn]
    exact .inl lt
  · rw [betterCandidate_ranked rank]
    cases he : e.origin with
    | internal => exact absurd he lane
    | lane l => simp [orderKeys, keysBefore_cons, internal, he]
  · rw [betterCandidate_stationed rank kind hm hn]
    exact .inl lt
  · rw [betterCandidate_stationed rank kind hm hn]
    simp only [orderKeys, List.drop_succ_cons, List.drop_zero, keysBefore_cons, hi, hj]
    exact .inr ⟨same, .inl lt⟩
  · rw [betterCandidate_stationed rank kind hm hn]
    simp only [orderKeys, List.drop_succ_cons, List.drop_zero, keysBefore_cons, hi, hj]
    exact .inr ⟨same, .inr ⟨congrArg _ here, .inl lt⟩⟩
  · rw [betterCandidate_stationed rank kind hm hn]
    simp only [orderKeys, List.drop_succ_cons, List.drop_zero, keysBefore_cons, internal, kind.mp internal]
    exact .inr ⟨same, .inr ⟨trivial, .inl lt⟩⟩
  · obtain ⟨c, d, hc, hd, lower⟩ := revertTarget_lower target
    obtain ⟨m, hm⟩ := eligible_ranked (offering_eq_some.mp hd).1
    obtain ⟨n, hn⟩ := eligible_ranked (offering_eq_some.mp hc).1
    rw [rankOf_some hm, rankOf_some hn] at lower
    exact ⟨c, d, m, n, hc, hd, hm, hn, lower⟩

end Sys2Proof.Machine
end

section
/-! What work on the ring leaves alone: which slots a sweep may empty, which counters it counts, and what of the Copy
Selector's records stands through it (05/R80, R81, R86 to R88, 07/R113, 08/R130). -/

namespace Sys2Proof.Machine

/-! ## Work on the ring -/

/-- One channel after work on its ring: COMPLETE and HISTORY slots may have become FREE, and the estimator and the render
record have been told; nothing else has changed but two counters of theirs. -/
structure RingWork (c d : Channel) : Prop where
  frame : d = { c with
    int := { c.int with slots := d.int.slots, committed := d.int.committed, retireRef := d.int.retireRef }
    meu := d.meu, ren := d.ren, tally := d.tally }
  tally : ∀ x, x ≠ .motionSkipped → x ≠ .gapHolds → d.tally.get (chanCtrIx x) = c.tally.get (chanCtrIx x)
  slots : ∀ i, slotOf d i = slotOf c i ∧ (i ∈ c.int.committed → i ∈ d.int.committed)
    ∨ slotOf d i = .empty ∧ ((slotOf c i).state = .complete ∨ (slotOf c i).state = .history)

theorem RingWork.refl (c : Channel) : RingWork c c := ⟨rfl, fun _ _ _ => rfl, fun _ => .inl ⟨rfl, id⟩⟩

theorem RingWork.trans {c d e : Channel} (h : RingWork c d) (g : RingWork d e) : RingWork c e := by
  refine ⟨by rw [g.frame, h.frame], fun x skip gap => (g.tally x skip gap).trans (h.tally x skip gap), fun i => ?_⟩
  rcases h.slots i with ⟨same, listed⟩ | ⟨empty, was⟩
  · rw [← same]
    exact (g.slots i).imp_left fun ⟨same', listed'⟩ => ⟨same', listed' ∘ listed⟩
  · rcases g.slots i with ⟨same', -⟩ | ⟨-, is⟩
    · exact .inr ⟨same'.trans empty, was⟩
    · rw [empty] at is
      exact absurd is (by decide)

theorem foldl_ringWork {α : Type} {f : Channel → α → Channel} (h : ∀ c a, RingWork c (f c a)) (xs : List α)
    (c : Channel) : RingWork c (xs.foldl f c) := by
  induction xs generalizing c with
  | nil => exact .refl c
  | cons a xs ih => exact (h c a).trans (ih _)

/-- Changes of the render record, the retirement reference and the two counters are work on the ring. -/
theorem RingWork.told {c : Channel} (r : Render) (m : Motion) (i : Option SlotNo) {x : ChanCtr}
    (hx : x = .motionSkipped ∨ x = .gapHolds) (n : Nat) :
    RingWork c (countMany { c with int := { c.int with retireRef := i }, ren := r, meu := m } x n) := by
  refine ⟨rfl, fun y skip gap => ?_, fun _ => .inl ⟨rfl, id⟩⟩
  rw [countMany_get, if_neg fun e : y = x => hx.elim (skip ∘ e.trans) (gap ∘ e.trans)]

theorem RingWork.noted {c : Channel} (r : Render) (m : Motion) (i : Option SlotNo) :
    RingWork c { c with int := { c.int with retireRef := i }, ren := r, meu := m } :=
  ⟨rfl, fun _ _ _ => rfl, fun _ => .inl ⟨rfl, id⟩⟩

theorem freeSlot_ringWork {i : SlotNo} {c : Channel}
    (h : (slotOf c i).state = .complete ∨ (slotOf c i).state = .history) : RingWork c (freeSlot i c) := by
  refine ⟨rfl, fun x skip _ => ?_, fun j => ?_⟩
  · exact (countMany_get ..).trans (if_neg skip)
  · by_cases here : j = i
    · subst here
      exact .inr ⟨Bank.get_set_same .., h⟩
    · refine .inl ⟨Bank.get_set_ne _ here _, fun listed => ?_⟩
      exact List.mem_filter.mpr ⟨listed, by simpa using here⟩

theorem retirable_complete {c : Channel} {i : SlotNo} (h : retirable c i = true) : (slotOf c i).state = .complete := by
  unfold retirable at h
  dsimp only at h
  split at h
  · simp only [Bool.and_eq_true, decide_eq_true_eq] at h
    exact h.1.1
  · cases h

theorem retireOne_ringWork (c : Channel) (i : SlotNo) : RingWork c (retireOne c i) := by
  unfold retireOne
  split
  · exact freeSlot_ringWork (.inl (retirable_complete ‹_›))
  · exact .refl c

theorem freeHistoryOne_ringWork (c : Channel) (i : SlotNo) : RingWork c (freeHistoryOne c i) := by
  unfold freeHistoryOne
  split
  · next h => exact freeSlot_ringWork (.inr h.1)
  · exact .refl c

theorem sweep_ringWork (c : Channel) : RingWork c (sweep c) :=
  (foldl_ringWork retireOne_ringWork _ c).trans (foldl_ringWork freeHistoryOne_ringWork _ _)

theorem pairUp_ringWork (before : List SlotNo) (b : SlotNo) (c : Channel) : RingWork c (pairUp before b c) := by
  unfold pairUp
  split
  · exact .noted _ _ _
  · exact .told _ _ _ (.inl rfl) 1

theorem weigh_ringWork (c : Channel) (a b : SlotNo) (r : Time) : RingWork c (weigh c a b r).2 := by
  unfold weigh
  split
  · exact .told _ _ _ (.inr rfl) 1
  · exact .refl c

theorem noteCommit_ringWork (i : SlotNo) (c : Channel) : RingWork c (noteCommit i c) := by
  unfold noteCommit
  split
  · split
    · split
      · exact RingWork.trans (.noted _ _ _) (sweep_ringWork _)
      · exact (weigh_ringWork ..).trans (.noted _ _ _)
    · exact .refl c
  · exact .refl c

/-! ## Commits (05/R80) -/

/-- The slot of a commit that is taken, with its stamp and the finish it begins (05/R80). -/
def committedSlot (stamp : Time) (plan : Option Finish) (x : Slot) : Slot := { x with
  committed := some stamp, state := if plan.isNone then .complete else .finishing, finish := plan }

/-- A channel that has committed a slot, before the estimator and the Render Engine hear of it. -/
def committing (env : Env) (i : SlotNo) (stamp : Time) (plan : Option Finish) (c : Channel) : Channel :=
  count { c with int := { c.int with
    slots := c.int.slots.modify i (committedSlot stamp plan), committed := c.int.committed ++ [i]
    lastCommitted := some stamp, newest := some (laterOf c.int.newest stamp), lastCommitTime := some env.now
    stallMark := false } } .committed

theorem commit_taken {env : Env} {i : SlotNo} {stamp : Time} {plan : Option Finish} {c : Channel}
    (later : ∀ t, c.int.lastCommitted = some t → 0 < sdiff stamp t) :
    RingWork (committing env i stamp plan c) (commit env i stamp plan c) := by
  have taken : c.int.lastCommitted.any (fun t => !Machine.later stamp t) = false := by
    cases last : c.int.lastCommitted with
    | none => rfl
    | some t => simpa using later_iff.mpr (later t last)
  unfold commit
  rw [if_neg (by rw [taken]; decide)]
  exact (pairUp_ringWork ..).trans (noteCommit_ringWork ..)

theorem commit_refused {env : Env} {i : SlotNo} {stamp : Time} {plan : Option Finish} {c : Channel} {t : Time}
    (last : c.int.lastCommitted = some t) (early : sdiff stamp t ≤ 0) : commit env i stamp plan c
      = count (onSlot i (fun x => { x with state := .history }) c) .stampOrder := by
  unfold commit
  rw [if_pos]
  rw [last]
  simpa [Machine.later] using early

/-! ## The records of the Copy Selector -/

/-- The counters of the Copy Selector's own decisions, which nothing else of a channel counts. -/
def selectorCounters : List ChanCtr := [.copyPassedOver, .copyReverted]

/-- What of a channel's records the ring, the detector and a standard leave alone, and the open slot, which a close
ends. -/
structure Ledger where
  openSlot : Option SlotNo
  switches : BitVec 8
  counts : List Count
  passed : Bool

def ledger (c : Channel) : Ledger :=
  ⟨c.int.openSlot, c.int.switchCount, selectorCounters.map fun x => c.tally.get (chanCtrIx x),
    c.flags.get (chanFlagIx .copyPassedOver)⟩

theorem ledger_count {c d : Channel} (h : (ledger d).counts = (ledger c).counts) {x : ChanCtr}
    (hx : x ∈ selectorCounters) : d.tally.get (chanCtrIx x) = c.tally.get (chanCtrIx x) := by
  have counts : (selectorCounters.map fun y => d.tally.get (chanCtrIx y))
      = selectorCounters.map fun y => c.tally.get (chanCtrIx y) := h
  exact List.map_inj_left.mp counts x hx

theorem countMany_ledger {x : ChanCtr} (h : x ∉ selectorCounters) (c : Channel) (n : Nat) :
    ledger (countMany c x n) = ledger c := by
  have counts : (selectorCounters.map fun y => (countMany c x n).tally.get (chanCtrIx y))
      = selectorCounters.map fun y => c.tally.get (chanCtrIx y) :=
    List.map_congr_left fun y hy => by rw [countMany_get, if_neg fun e : y = x => h (e ▸ hy)]
  exact congrArg (Ledger.mk c.int.openSlot c.int.switchCount · _) counts

theorem count_ledger {x : ChanCtr} (h : x ∉ selectorCounters) (c : Channel) : ledger (count c x) = ledger c :=
  countMany_ledger h c 1

theorem flag_ledger {f : ChanFlag} (h : f ≠ .copyPassedOver) (c : Channel) : ledger (flag c f) = ledger c := by
  have passed : (flag c f).flags.get (chanFlagIx .copyPassedOver) = c.flags.get (chanFlagIx .copyPassedOver) := by
    rw [flag_get, decide_eq_false h.symm, Bool.false_or]
  exact congrArg (Ledger.mk c.int.openSlot c.int.switchCount _) passed

theorem countFlag_ledger {x : ChanCtr} (h : x ∉ selectorCounters) {f : ChanFlag} (hf : f ≠ .copyPassedOver)
    (c : Channel) : ledger (countFlag c x f) = ledger c :=
  (flag_ledger hf _).trans (count_ledger h c)

theorem RingWork.ledger {c d : Channel} (h : RingWork c d) : ledger d = ledger c := by
  have counts : (selectorCounters.map fun x => d.tally.get (chanCtrIx x))
      = selectorCounters.map fun x => c.tally.get (chanCtrIx x) :=
    List.map_congr_left fun x hx => h.tally x (fun e => by subst e; revert hx; decide) (fun e => by subst e; revert hx; decide)
  unfold Machine.ledger
  rw [counts, h.frame]

theorem ledger_ite {c d e : Channel} {p : Prop} [Decidable p] (hd : ledger d = ledger c) (he : ledger e = ledger c) :
    ledger (if p then d else e) = ledger c := by
  split
  · exact hd
  · exact he

/-! ## Closing (05/R76 to R81) -/

theorem cadenceToVideo_ledger (c : Channel) : ledger (cadenceToVideo c) = ledger c :=
  ledger_ite (d := { c with cad := resetCadence c.cad }) rfl (countFlag_ledger (by decide) (by decide) _)

theorem commit_ledger (env : Env) (i : SlotNo) (stamp : Time) (plan : Option Finish) (c : Channel) :
    ledger (commit env i stamp plan c) = ledger c := by
  unfold commit
  split
  · exact count_ledger (by decide) _
  · exact ((pairUp_ringWork ..).trans (noteCommit_ringWork ..)).ledger.trans (count_ledger (by decide) _)

theorem abandonPairing_ledger (env : Env) (i : SlotNo) (c : Channel) : ledger (abandonPairing env i c) = ledger c := by
  unfold abandonPairing
  split
  · exact (sweep_ringWork _).ledger.trans ((commit_ledger ..).trans (count_ledger (by decide) c))
  · rfl

theorem closeEmpty_ledger (env : Env) (i : SlotNo) (k : RawPicture) (c : Channel) :
    ledger (closeEmpty env i k c) = ledger c := by
  have counted : ledger (count c .emptyPicture) = ledger c := count_ledger (by decide) c
  unfold closeEmpty
  dsimp only
  split
  · exact (abandonPairing_ledger env i (onSlot i _ (count c .emptyPicture))).trans counted
  · exact counted

theorem actOn_ledger (env : Env) (i : SlotNo) (ruling : Ruling) (c : Channel) :
    ledger (actOn env i ruling c) = ledger c := by
  cases ruling with
  | video stamp => exact commit_ledger ..
  | pairFirst => rfl
  | pairSecond stamp => exact commit_ledger ..
  | repeated => exact count_ledger (by decide) _

theorem judge_ledger (env : Env) (crop : Rect) (i : SlotNo) (k : RawPicture) (c : Channel) :
    ledger (judge env crop i k c) = ledger c := by
  have broken (b : Bool) (d : Channel) : ledger
      (if b = true then countFlag { d with cad := endLock d.cad } .cadenceBreaks .cadenceChange else d) = ledger d :=
    ledger_ite (countFlag_ledger (by decide) (by decide) _) rfl
  have locked (b : Bool) (d : Channel) :
      ledger (if b = true then countFlag d .cadenceLocks .cadenceChange else d) = ledger d :=
    ledger_ite (countFlag_ledger (by decide) (by decide) d) rfl
  exact (broken _ _).trans ((actOn_ledger ..).trans (locked _ _))

/-- A close ends the open slot, wherever a crop stands. -/
theorem closeOpen_ledger (env : Env) (c : Channel) : ledger (closeOpen env c)
    = { ledger c with openSlot := if c.int.crop.isSome then none else c.int.openSlot } := by
  cases opened : c.int.openSlot with
  | none =>
    rw [closeOpen_none env opened, ledger, opened]
    simp
  | some i =>
    unfold closeOpen
    rw [opened]
    cases cropped : c.int.crop with
    | none => rw [ledger, opened]; rfl
    | some crop =>
      dsimp only
      split
      · rfl
      split
      · exact closeEmpty_ledger ..
      · refine (sweep_ringWork _).ledger.trans ((judge_ledger ..).trans ?_)
        exact countMany_ledger (by decide) _ _

theorem closeOld_ledger (env : Env) (c : Channel) : ledger (closeOld env c)
    = { ledger c with openSlot := if c.int.crop.isSome then none else c.int.openSlot } := by
  unfold closeOld
  dsimp only
  refine (cadenceToVideo_ledger _).trans (Eq.trans ?_ (closeOpen_ledger env c))
  split
  · exact abandonPairing_ledger ..
  · rfl

/-! ## Adoption and flush (05/R71, R89) -/

theorem computeDelay_ledger (cfg : ChanConfig) (c : Channel) : ledger (computeDelay cfg c) = ledger c := by
  unfold computeDelay
  exact ledger_ite (flag_ledger (by decide) _) rfl

theorem adopt_ledger (env : Env) (code : StdCode) (c : Channel) : ledger (adopt env code c) = ledger c := by
  have clamped : ledger (adopted env code c) = ledger c := by
    unfold adopted
    exact ledger_ite rfl (flag_ledger (by decide) _)
  rw [adopt_eq, computeSteps_eq]
  exact (computeDelay_ledger ..).trans clamped

theorem abandonRender_ledger (c : Channel) : ledger (abandonRender c) = ledger c := by
  unfold abandonRender
  split
  · exact ledger_ite rfl (count_ledger (by decide) _)
  · rfl

theorem abandonJobs_ledger (c : Channel) : ledger (abandonJobs c) = ledger c := by
  unfold abandonJobs
  exact ledger_ite (count_ledger (by decide) _) rfl

theorem flush_ledger (now : Time) (c : Channel) : ledger (flush now c) = { ledger c with openSlot := none } := by
  have jobs : ledger (abandonJobs (abandonRender c)) = ledger c :=
    (abandonJobs_ledger _).trans (abandonRender_ledger c)
  rw [flush_eq]
  refine (count_ledger (by decide) _).trans ((cadenceToVideo_ledger _).trans ?_)
  exact congrArg (fun x : Ledger => { x with openSlot := none }) jobs

theorem changeStandard_ledger (env : Env) (code : StdCode) (c : Channel) :
    ledger (changeStandard env code c) = { ledger c with openSlot := none } :=
  (countFlag_ledger (by decide) (by decide) _).trans ((adopt_ledger ..).trans (flush_ledger ..))

end Sys2Proof.Machine
end

section
/-! The switch to a copy of the source standard, or to NONE, and the first standard a channel adopts (04/R53, R57, R60,
R61, R64, R65, 05/R71, 09/R146). -/

namespace Sys2Proof.Machine

/-! ## The switched channel (04/R64, R65) -/

/-- Step 4 of a switch: the standard of the copy offered, where there is one (04/R65). -/
def met (env : Env) (offer : Option Candidate) (c : Channel) : Channel :=
  match offer with
  | some d => meetStandard env d.standard c
  | none => c

/-- NO_COPY at a switch to NONE of a channel that selects (04/R64). -/
def noteNone (q : Option Copy) (c : Channel) : Channel := if q.isNone && activeState c.sup.state then flag c .noCopy else c

theorem switchChannel_eq (env : Env) (q : Option Copy) (offer : Option Candidate) (c : Channel) :
    switchChannel env q offer c = noteNone q (countFlag (admits q offer (met env offer (closeOld env (aimed env q c))))
      .copySwitch .copySwitch) := rfl

theorem noteNone_frame (q : Option Copy) (c : Channel) : noteNone q c = { c with flags := (noteNone q c).flags } := by
  unfold noteNone
  split <;> rfl

theorem noteNone_flag (q : Option Copy) (c : Channel) {f : ChanFlag} (other : f ≠ .noCopy) :
    (noteNone q c).flags.get (chanFlagIx f) = c.flags.get (chanFlagIx f) := by
  unfold noteNone
  split
  · rw [flag_get, decide_eq_false other, Bool.false_or]
  · rfl

theorem noteNone_noCopy {c : Channel} (active : activeState c.sup.state = true) :
    (noteNone none c).flags.get (chanFlagIx .noCopy) = true := by
  unfold noteNone
  rw [active]
  exact (flag_get ..).trans (by simp)

theorem aimCalls_calls (now : Time) (g : ChanConfig) (q : Option Copy) (x : Selector) :
    (aimCalls now g q x).callTarget = callStation q
      ∧ (aimCalls now g q x).refresh = (callStation q).map fun _ => shift now (g.refreshMs * 27000 : Nat) := by
  cases q with
  | none => exact ⟨rfl, rfl⟩
  | some q =>
    unfold aimCalls callStation
    cases origin : q.origin <;> simp [origin, ticksPerMs]

theorem cadenceToVideo_mode (c : Channel) : (cadenceToVideo c).cad.mode = none := by
  unfold cadenceToVideo
  dsimp only
  split <;> rfl

theorem adopt_mode (env : Env) (code : StdCode) (c : Channel) : (adopt env code c).cad.mode = c.cad.mode := by
  rw [adopt_frame]
  unfold adopted
  dsimp only
  split <;> rfl

/-- The delay in effect follows from the standard adopted and the families it lets be hunted (08/R126). -/
theorem adopt_delay (env : Env) (code : StdCode) (c : Channel) : (adopt env code c).ren.dEff = some (max env.cfg.delay
    ((standardOf env.cfg.target).rawPeriod + 2 * pMax code (huntedSet (adopt env code c).cad))) := by
  have delay (d : Channel) : (computeDelay env.cfg d).ren.dEff = some (max env.cfg.delay
      ((standardOf env.cfg.target).rawPeriod + 2 * pMax d.int.standard (huntedSet d.cad))) := by
    unfold computeDelay
    dsimp only
    split <;> rfl
  have standard : (adopted env code c).int.standard = code := by rw [adopted_int]
  have cad : (adopt env code c).cad = (adopted env code c).cad := by rw [adopt_frame]
  have ren : (adopt env code c).ren = (computeDelay env.cfg (adopted env code c)).ren := by
    rw [adopt_eq, computeSteps_eq]
  rw [ren, delay, standard, cad]

/-- What a switch reads of the channel that has met the standard of a copy that brings no other one. -/
structure Met (c d : Channel) : Prop where
  csl : d.csl = c.csl
  sup : d.sup = c.sup
  tally : d.tally = c.tally
  ledger : ledger d = ledger c
  mode : d.cad.mode = c.cad.mode

theorem adopt_met (env : Env) (code : StdCode) (c : Channel) : Met c (adopt env code c) := by
  obtain ⟨csl, sup, -, tally, -⟩ := adopt_rest env code c
  exact ⟨csl, sup, tally, adopt_ledger env code c, adopt_mode env code c⟩

theorem met_met (env : Env) {offer : Option Candidate} {c : Channel}
    (agree : c.int.standard = 0 ∨ ∀ d ∈ offer, d.standard = c.int.standard) : Met c (met env offer c) := by
  cases offer with
  | none => exact ⟨rfl, rfl, rfl, rfl, rfl⟩
  | some d =>
    by_cases first : c.int.standard = 0
    · rw [met, meetStandard, if_pos first]
      exact adopt_met env d.standard c
    · rw [met, meetStandard, if_neg first, if_pos (agree.resolve_left first d rfl)]
      exact ⟨rfl, rfl, rfl, rfl, rfl⟩

/-- A channel switched to a copy that brings no other standard, or to NONE, against the channel before it (04/R64). -/
structure SwitchedTo (env : Env) (q : Option Copy) (c d : Channel) : Prop where
  selection : d.csl.selection = q
  aim : d.int.aim = q
  revert : d.csl.revert = none
  deferred : d.csl.deferred = 0
  pending : d.csl.rebasePending = q.isSome
  target : d.csl.callTarget = callStation q
  refresh : d.csl.refresh = (callStation q).map fun _ => shift env.now (env.cfg.refreshMs * 27000 : Nat)
  openSlot : c.int.crop.isSome → d.int.openSlot = none
  mode : d.cad.mode = none
  switches : d.int.switchCount = c.int.switchCount + 1
  counted : d.tally.get (chanCtrIx .copySwitch) = c.tally.get (chanCtrIx .copySwitch) + 1
  flagged : d.flags.get (chanFlagIx .copySwitch) = true
  none : q = none → activeState c.sup.state = true → d.flags.get (chanFlagIx .noCopy) = true
  sup : d.sup = c.sup
  counts : (ledger d).counts = (ledger c).counts

theorem switchChannel_switchedTo (env : Env) (q : Option Copy) {offer : Option Candidate} {c : Channel}
    (agree : c.int.standard = 0 ∨ ∀ d ∈ offer, d.standard = c.int.standard) :
    SwitchedTo env q c (switchChannel env q offer c) := by
  have closed := closeOld_outside env (aimed env q c)
  have closedLedger := closeOld_ledger env (aimed env q c)
  have mode : (closeOld env (aimed env q c)).cad.mode = none := cadenceToVideo_mode _
  obtain ⟨target, refresh⟩ := aimCalls_calls env.now env.cfg q c.csl
  rw [switchChannel_eq]
  generalize closeOld env (aimed env q c) = old at closed closedLedger mode ⊢
  have standard : old.int.standard = c.int.standard := congrArg Outside.standard closed
  have was := met_met env (offer := offer) (c := old) (by rw [standard]; exact agree)
  generalize met env offer old = m at was ⊢
  have csl : m.csl = (aimed env q c).csl := was.csl.trans (congrArg Outside.csl closed)
  have sup : m.sup = c.sup := was.sup.trans (congrArg Outside.sup closed)
  have led := was.ledger.trans closedLedger
  have frame := noteNone_frame q (countFlag (admits q offer m) .copySwitch .copySwitch)
  generalize hd : noteNone q (countFlag (admits q offer m) .copySwitch .copySwitch) = d at frame ⊢
  have dcsl : d.csl = (admits q offer m).csl := (congrArg Channel.csl frame :)
  have dint : d.int = (admits q offer m).int := (congrArg Channel.int frame :)
  have dtally : d.tally = (countFlag (admits q offer m) .copySwitch .copySwitch).tally := (congrArg Channel.tally frame :)
  have dsup : d.sup = c.sup := (congrArg Channel.sup frame :).trans sup
  refine ⟨?_, by rw [dint]; rfl, ?_, ?_, by rw [dcsl]; rfl, ?_, ?_, fun cropped => ?_, ?_, ?_, ?_, ?_, fun none active => ?_,
    dsup, ?_⟩
  · rw [dcsl, admits, csl]; rfl
  · rw [dcsl, admits, csl]; rfl
  · rw [dcsl, admits, csl]; rfl
  · rw [dcsl, admits, csl]; exact target
  · rw [dcsl, admits, csl]; exact refresh
  · rw [dint]
    exact (congrArg Ledger.openSlot led).trans (if_pos cropped)
  · rw [(congrArg Channel.cad frame :)]
    exact was.mode.trans mode
  · rw [dint]
    exact congrArg (· + 1) (congrArg Ledger.switches led)
  · rw [dtally, countFlag_tally, if_pos rfl]
    exact congrArg (· + 1) ((congrArg (Bank.get · _) was.tally).trans (outside_report closed (by decide)))
  · rw [← hd, noteNone_flag _ _ (by decide), countFlag_flags]
    simp
  · rw [← hd, none]
    exact noteNone_noCopy (by rw [countFlag_sup, admits, sup]; exact active)
  · rw [ledger, dtally]
    exact (congrArg Ledger.counts (countFlag_ledger (x := .copySwitch) (f := .copySwitch) (by decide) (by decide)
      (admits q offer m))).trans (congrArg Ledger.counts led :)

/-- What a channel that knows no standard adopts at its first selection, against the channel before it (04/R65, 05/R71). -/
structure FirstAdopted (g : ChanConfig) (code : StdCode) (c d : Channel) : Prop where
  standard : d.int.standard = code
  crop : d.int.crop = some (cutTo g.crop (standardOf code).lines (standardOf code).samples)
  period : d.int.pEst = (standardOf code).rawPeriod
  clamped : d.flags.get (chanFlagIx .windowClamped) = (c.flags.get (chanFlagIx .windowClamped)
    || !decide (meetsFrame g.crop (standardOf code).lines (standardOf code).samples))
  steps : d.siz = withSteps d.int.crop c.siz
  delay : d.ren.dEff = some (max g.delay ((standardOf g.target).rawPeriod + 2 * pMax code (huntedSet d.cad)))

theorem switchChannel_adopts (env : Env) (q : Copy) (o : Candidate) {c : Channel} (first : c.int.standard = 0) :
    FirstAdopted env.cfg o.standard c (switchChannel env (some q) (some o) c) := by
  have closed := closeOld_outside env (aimed env (some q) c)
  rw [switchChannel_offered]
  generalize closeOld env (aimed env (some q) c) = old at closed ⊢
  have standard : old.int.standard = 0 := (congrArg Outside.standard closed).trans first
  have siz : old.siz = c.siz := congrArg Outside.siz closed
  have clamped : old.flags.get (chanFlagIx .windowClamped) = c.flags.get (chanFlagIx .windowClamped) :=
    outside_mark closed (by decide)
  rw [meetStandard, if_pos standard]
  obtain ⟨-, -, -, -, steps⟩ := adopt_rest env o.standard old
  have int := adopt_int env o.standard old
  have flag := adopt_clamped env o.standard old
  have delay := adopt_delay env o.standard old
  generalize adopt env o.standard old = m at steps int flag delay ⊢
  refine ⟨?_, ?_, ?_, ?_, ?_, ?_⟩
  · rw [countFlag_int, admits, int]
  · rw [countFlag_int, admits, int]
  · rw [countFlag_int, admits, int]
  · rw [countFlag_flags, decide_eq_false (by decide), Bool.false_or, admits, flag, clamped]
  · rw [countFlag_siz, countFlag_int, admits, steps, siz]
  · exact delay

theorem FirstAdopted.stepsOf {g : ChanConfig} {code : StdCode} {c d : Channel} (h : FirstAdopted g code c d) {pl : Rect}
    (placed : c.siz.placement = some pl) : ∃ crop, d.int.crop = some crop
      ∧ d.siz.vStep = some (crop.lineCount * 65536 / pl.lineCount)
      ∧ d.siz.hStep = some (crop.sampleCount * 65536 / pl.sampleCount) := by
  have steps := h.steps
  unfold withSteps at steps
  rw [h.crop, placed] at steps
  exact ⟨_, h.crop, by rw [steps], by rw [steps]⟩

/-! ## The switch at the station (04/R53, R60, R61) -/

/-- A switch is made of its channel and its calls. -/
theorem switchTo_state {k : Chan} {s : State} {g : ChanConfig} (config : chanConfig s k = some g) (q : Option Copy) :
    switchTo k q s = { s with chans := (switchTo k q s).chans, tx := (switchTo k q s).tx }
      ∧ chan (switchTo k q s) (otherChan k) = chan s (otherChan k)
      ∧ (switchTo k q s).tx
        = { s.tx with offers := s.tx.offers.modify k (· ++ (releaseCall s k ++ requestCall s k q)) } := by
  refine ⟨switchTo_within k q s, (switchTo_local k q).other (other_ne k) s, ?_⟩
  unfold switchTo
  dsimp only
  rw [onConfigured_some (s := { s with tx := holdCalls k (releaseCall s k ++ requestCall s k q) s.tx }) config]
  rfl

/-- A re-judgement that names another copy, of no other standard, or NONE makes the switch and nothing more. -/
theorem rejudge_switches {k : Chan} {s : State} (n : Nat) (active : isSelecting s k = true)
    (differs : choice s k ≠ selectionOf s k) (agree : (chan s k).int.standard = 0
      ∨ ∀ q ∈ choice s k, ∀ d ∈ offering s k q, d.standard = (chan s k).int.standard) :
    rejudge (n + 1) k s = switchTo k (choice s k) s := by
  have still : switchChanges (chan s k) ((choice s k).bind (offering s k)) = false := by
    unfold switchChanges
    split
    · next d offered =>
      obtain ⟨q, chosen, offered⟩ := Option.bind_eq_some_iff.mp offered
      rcases agree with first | agree
      · simp [first]
      · simp [agree q chosen d offered]
    · rfl
  rw [rejudge, if_neg (by rw [active]; decide), if_neg differs]
  simp only [still]
  rfl

/-! ## Calls (04/R61) -/

theorem releaseCall_eq {s : State} {k : Chan} {q : Copy} {target : StationNo} {f : FeedNo}
    (selected : selectionOf s k = some q) (called : (chan s k).csl.callTarget = some target)
    (feed : (chanConfig s k).bind (·.feed) = some f) :
    releaseCall s k = if q.origin = .internal then [] else [⟨target, f, 0⟩] := by
  have selected : (chan s k).csl.selection = some q := selected
  rw [releaseCall, selected, called, feed]

theorem mem_standingCalls {s : State} {k : Chan} {calls : List Call} {c : Call} : c ∈ standingCalls s k calls ↔ c ∈ calls
    ∧ ¬ (c.duration = 0 ∧ keepsDemand s (otherChan k) (selectionOf s (otherChan k)) c.target c.feed = true) := by
  rw [standingCalls, List.mem_filter, ← selectionOf, Bool.not_eq_true', ← Bool.not_eq_true, Bool.and_eq_true,
    decide_eq_true_eq]

/-! ## Both channels (notes/assumptions/15) -/

/-- Each channel comes out of the re-judgement of both as out of its own. -/
theorem chan_rejudgeBoth (k : Chan) (s : State) : chan (rejudgeBoth s) k = chan (rejudgeOne k s) k := by
  rcases (by decide +revert : k = 0 ∨ k = 1) with rfl | rfl
  · exact (rejudgeOne_local 1).other (by decide) _
  · have swap : rejudgeBoth s = rejudgeOne 0 (rejudgeOne 1 s) :=
      Local.comm (by decide) (rejudgeOne_local 1) (rejudgeOne_local 0) s
    rw [swap]
    exact (rejudgeOne_local 0).other (by decide) _

/-! ## The statement -/

/-- Settles O36: a re-judgement either updates the revert candidate or makes the switch, whose channel is the switched
one, and the two channels re-judge apart. -/
theorem rejudgement : Obligations.Rejudgement := by
  unfold Obligations.Rejudgement
  refine ⟨fun s k g config => ⟨rejudge_notSelecting _, fun active same => ⟨revertAfter s k, rejudge_agrees 2 active same⟩,
      fun active differs agree => ?_⟩, fun s u hu => ?_, fun s k q target f => releaseCall_eq, fun s k calls c => ?_⟩
  · obtain ⟨frame, other, tx⟩ := switchTo_state config (choice s k)
    have offered : (chan s k).int.standard = 0
        ∨ ∀ d ∈ (choice s k).bind (offering s k), d.standard = (chan s k).int.standard := by
      refine agree.imp_right fun agree d offered => ?_
      obtain ⟨q, chosen, offered⟩ := Option.bind_eq_some_iff.mp offered
      exact agree q chosen d offered
    have switched := switchChannel_switchedTo ⟨s.now, g⟩ (choice s k) offered
    rw [← chan_switchTo config] at switched
    refine ⟨_, _, rejudge_switches 2 active differs agree, rfl, frame, other, tx, switched.selection, switched.aim,
      switched.revert, switched.deferred, switched.pending, switched.target, switched.refresh, switched.openSlot,
      switched.mode, switched.switches, switched.counted, switched.flagged, fun none => switched.none none active,
      switched.sup, fun first q d st crop chosen offering hst hcrop => ?_⟩
    have adopted := switchChannel_adopts ⟨s.now, g⟩ q d first
    rw [← offering, ← Option.bind_some (f := Machine.offering s k), ← chosen, ← chan_switchTo config] at adopted
    subst hst hcrop
    refine ⟨adopted.standard, adopted.crop, adopted.period, adopted.clamped, fun pl placed => ?_, adopted.delay⟩
    obtain ⟨crop, cropped, steps⟩ := adopted.stepsOf placed
    cases cropped.symm.trans adopted.crop
    exact steps
  · rw [hu]
    exact ⟨rfl, chan_rejudgeBoth 0 s, chan_rejudgeBoth 1 s⟩
  · rw [mem_standingCalls, keepsDemand_iff]

end Sys2Proof.Machine
end

section
/-! A copy passed over: what the pass-over list and its counter and flag are left as by a re-judgement and by the end of a
command, and that neither selects a copy on the list (04/R53, R55, R62, R63). -/

namespace Sys2Proof.Machine

/-! ## The records of a pass-over -/

/-- The pass-over list of a channel, its counter and its flag. -/
def passes (c : Channel) : List PassOver × Count × Bool :=
  (c.csl.passOver, c.tally.get (chanCtrIx .copyPassedOver), c.flags.get (chanFlagIx .copyPassedOver))

theorem passes_eq {c d : Channel} (passOver : d.csl.passOver = c.csl.passOver)
    (counts : (ledger d).counts = (ledger c).counts) (passed : (ledger d).passed = (ledger c).passed) :
    passes d = passes c := by
  have counted := ledger_count counts (x := .copyPassedOver) (by decide)
  have flagged : d.flags.get (chanFlagIx .copyPassedOver) = c.flags.get (chanFlagIx .copyPassedOver) := passed
  rw [passes, passOver, counted, flagged]
  rfl

theorem passes_of_ledger {c d : Channel} (csl : d.csl = c.csl) (same : ledger d = ledger c) : passes d = passes c :=
  passes_eq (by rw [csl]) (by rw [same]) (by rw [same])

theorem meetStandard_passes (env : Env) (code : StdCode) (c : Channel) : passes (meetStandard env code c) = passes c := by
  unfold meetStandard
  split
  · obtain ⟨csl, -⟩ := adopt_rest env code c
    exact passes_of_ledger csl (adopt_ledger env code c)
  · split
    · rfl
    · have led := changeStandard_ledger env code c
      exact passes_eq (by rw [changeStandard_csl]) (by rw [led]) (by rw [led])

theorem met_passes (env : Env) (offer : Option Candidate) (c : Channel) : passes (met env offer c) = passes c := by
  cases offer with
  | none => rfl
  | some d => exact meetStandard_passes env d.standard c

theorem closeOld_passes (env : Env) (c : Channel) : passes (closeOld env c) = passes c := by
  have led := closeOld_ledger env c
  exact passes_eq (by rw [show (closeOld env c).csl = c.csl from congrArg Outside.csl (closeOld_outside env c)])
    (by rw [led]) (by rw [led])

theorem aimed_passes (env : Env) (q : Option Copy) (c : Channel) : passes (aimed env q c) = passes c := by
  rw [passes, aimed, aimCalls_passOver]
  rfl

theorem switchChannel_passes (env : Env) (q : Option Copy) (offer : Option Candidate) (c : Channel) :
    passes (switchChannel env q offer c) = passes c := by
  have counted (d : Channel) : passes (noteNone q (countFlag (admits q offer d) .copySwitch .copySwitch)) = passes d := by
    have led : ledger (noteNone q (countFlag (admits q offer d) .copySwitch .copySwitch)) = ledger (admits q offer d) :=
      (ledger_ite (flag_ledger (by decide) _) rfl).trans (countFlag_ledger (by decide) (by decide) _)
    have csl : (noteNone q (countFlag (admits q offer d) .copySwitch .copySwitch)).csl = (admits q offer d).csl := by
      rw [noteNone_frame, countFlag_csl]
    exact (passes_of_ledger csl led).trans rfl
  rw [switchChannel_eq, counted, met_passes, closeOld_passes, aimed_passes]

theorem leaveConverting_ledger (c : Channel) : ledger (leaveConverting c) = ledger c := by
  unfold leaveConverting
  exact ledger_ite ((sweep_ringWork _).ledger.trans (abandonRender_ledger c)) rfl

theorem startAcquiring_passes (env : Env) (c : Channel) : passes (startAcquiring env c) = passes c :=
  passes_of_ledger (inside_csl (startAcquiring_inside env c))
    ((computeDelay_ledger env.cfg _).trans (leaveConverting_ledger c))

theorem startLatched_passes (env : Env) (c : Channel) : passes (startLatched env c) = passes c := by
  have led : ledger (startLatched env c) = { ledger c with openSlot := none } :=
    (flush_ledger env.now _).trans
      (congrArg (fun x : Ledger => { x with openSlot := none }) (leaveConverting_ledger c))
  exact passes_eq (by rw [inside_csl (startLatched_inside env c)]) (by rw [led]) (by rw [led])

theorem countRelock_passes (c : Channel) : passes (countRelock c) = passes c :=
  passes_of_ledger rfl (count_ledger (by decide) _)

/-! ## Through a re-judgement (04/R53) -/

theorem onConfigured_passes {f : Env → Channel → Channel} (h : ∀ env c, passes (f env c) = passes c) (k : Chan)
    (s : State) : passes (chan (onConfigured k f s) k) = passes (chan s k) := by
  unfold onConfigured
  split
  · rw [chan_onChan, h]
  · rfl

theorem switchTo_passes (k : Chan) (q : Option Copy) (s : State) :
    passes (chan (switchTo k q s) k) = passes (chan s k) :=
  onConfigured_passes (fun env c => switchChannel_passes env q (q.bind (offering s k)) c) k
    { s with tx := holdCalls k (releaseCall s k ++ requestCall s k q) s.tx }

theorem enterLatched_passes (k : Chan) (s : State) : passes (chan (enterLatched k s) k) = passes (chan s k) := by
  have latched := onConfigured_passes startLatched_passes k s
  have counted (c : Channel) : passes (countFlag c .latches .channelLatched) = passes c :=
    passes_of_ledger rfl (countFlag_ledger (by decide) (by decide) c)
  unfold enterLatched
  dsimp only
  rw [chan_onChan, counted]
  split
  · exact (switchTo_passes k none _).trans latched
  · exact latched

theorem rejudge_succ (n : Nat) (k : Chan) (s : State) : rejudge (n + 1) k s =
    if !isSelecting s k then s
    else if choice s k = selectionOf s k then updateRevert k s
    else if switchChanges (chan s k) ((choice s k).bind (offering s k)) then relockReport n k (switchTo k (choice s k) s)
    else switchTo k (choice s k) s := rfl

theorem relockReport_passes {n : Nat} {k : Chan}
    (ih : ∀ s, passes (chan (rejudge n k s) k) = passes (chan s k)) (s : State) :
    passes (chan (relockReport n k s) k) = passes (chan s k) := by
  have counted : passes (chan (onChan k countRelock s) k) = passes (chan s k) := by
    rw [chan_onChan, countRelock_passes]
  unfold relockReport
  dsimp only
  split
  · exact (enterLatched_passes k _).trans counted
  · exact (ih _).trans ((onConfigured_passes startAcquiring_passes k _).trans counted)

theorem rejudge_passes (n : Nat) (k : Chan) (s : State) : passes (chan (rejudge n k s) k) = passes (chan s k) := by
  induction n generalizing s with
  | zero => rfl
  | succ n ih =>
    rw [rejudge_succ]
    split
    · rfl
    split
    · rw [updateRevert, chan_onChan]; rfl
    split
    · exact (relockReport_passes ih _).trans (switchTo_passes k _ s)
    · exact switchTo_passes k _ s

theorem rejudgeBoth_passes (s : State) (k : Chan) : passes (chan (rejudgeBoth s) k) = passes (chan s k) := by
  rw [chan_rejudgeBoth]
  exact rejudge_passes rejudgeDepth k s

theorem conclude_passes (s : State) (k : Chan) : passes (chan (conclude s) k) = passes (chan s k) := by
  have settled : ∀ k, passes (chan (settle s) k) = passes (chan s k) :=
    settleFor_carries (R := fun s t => ∀ k, passes (chan t k) = passes (chan s k)) (fun _ _ => rfl)
      (fun h g k => (g k).trans (h k)) (fun h k => congrArg (fun x => passes (Bank.get x k)) h.chans) rejudgeBoth_passes 8 s
  have chans : chan (conclude s) k = chan (settle s) k := congrArg (Bank.get · k) (conclude_chans s)
  rw [chans]
  exact settled k

/-! ## A copy on the list is not selected (04/R55, R57, R63) -/

/-- The pass-over list names a lane copy. -/
def Barred (q : Copy) (c : Channel) : Prop :=
  ∃ e ∈ c.csl.passOver, q.origin = .lane e.lane ∧ q.pub = e.pub ∧ q.station = e.station

theorem Barred.keep {q : Copy} {c d : Channel} (h : Barred q c) (same : passes d = passes c) : Barred q d := by
  have list : d.csl.passOver = c.csl.passOver := congrArg Prod.fst same
  obtain ⟨e, mem, named⟩ := h
  exact ⟨e, list ▸ mem, named⟩

theorem Barred.ineligible {q : Copy} {s : State} {k : Chan} (h : Barred q (chan s k)) : isEligible s k q = false := by
  rw [isEligible, Option.isSome_eq_false_iff, Option.isNone_iff_eq_none]
  by_contra offered
  obtain ⟨d, offered⟩ := Option.ne_none_iff_exists'.mp offered
  obtain ⟨mem, copy⟩ := offering_eq_some.mp offered
  obtain ⟨origin, station, pub⟩ := copyOf_eq_some.mp copy
  obtain ⟨e, listed, lane, samePub, sameStation⟩ := h
  have passed : passedOver (chan s k) d = true := by
    rw [passedOver, origin, lane]
    exact List.any_eq_true.mpr ⟨e, listed, by simp [pub, station, samePub, sameStation]⟩
  have elig := (mem_eligibles.mp mem).2
  simp [eligible, passed] at elig

theorem choice_eligible {s : State} {k : Chan} {q : Copy} (h : choice s k = some q) : isEligible s k q = true := by
  have best (h : (bestOf (eligibles s k)).bind copyOf = some q) : isEligible s k q = true := by
    obtain ⟨d, best, copy⟩ := Option.bind_eq_some_iff.mp h
    rw [isEligible, offering_eq_some.mpr ⟨(bestOf_first (eligibles_pairwise s k) best).1, copy⟩]
    rfl
  have auto (h : autoChoice s k = some q) : isEligible s k q = true := by
    unfold autoChoice at h
    split at h
    · split at h
      · next eligible => cases h; exact eligible
      · exact best h
    · exact best h
  unfold choice at h
  split at h
  · split at h
    · next eligible => cases h; exact eligible
    · exact auto h
  · exact auto h

theorem Barred.not_chosen {q : Copy} {s : State} {k : Chan} (h : Barred q (chan s k)) : choice s k ≠ some q :=
  fun chosen => absurd (choice_eligible chosen) (by rw [h.ineligible]; decide)

theorem switchChannel_selection (env : Env) (q : Option Copy) (offer : Option Candidate) (c : Channel) :
    (switchChannel env q offer c).csl.selection = q := by
  have closed : (closeOld env (aimed env q c)).csl.selection = q :=
    congrArg (·.csl.selection) (closeOld_outside env (aimed env q c))
  have same (d : Channel) : (met env offer d).csl = d.csl := by
    cases offer with
    | none => rfl
    | some o =>
      rw [met, meetStandard]
      split
      · exact (adopt_rest env o.standard d).1
      · split
        · rfl
        · exact changeStandard_csl ..
  rw [switchChannel_eq, noteNone_frame, countFlag_csl, admits, same]
  exact closed

theorem switchTo_selection {k : Chan} {s : State} {g : ChanConfig} (config : chanConfig s k = some g) (q : Option Copy) :
    selectionOf (switchTo k q s) k = q := by
  rw [selectionOf, chan_switchTo config]
  exact switchChannel_selection ..

/-- A switch selects its copy, unless the channel has no configured values and nothing acts on it. -/
theorem switchTo_avoids {k : Chan} {s : State} {p : Option Copy} {q : Copy} (other : p ≠ some q)
    (now : selectionOf s k ≠ some q) : selectionOf (switchTo k p s) k ≠ some q := by
  cases config : chanConfig s k with
  | some g => rw [switchTo_selection config]; exact other
  | none =>
    unfold switchTo onConfigured
    dsimp only
    rw [show chanConfig { s with tx := holdCalls k (releaseCall s k ++ requestCall s k p) s.tx } k = none from config]
    exact now

theorem enterLatched_avoids {k : Chan} {s : State} {q : Copy} (now : selectionOf s k ≠ some q) :
    selectionOf (enterLatched k s) k ≠ some q := by
  have latched : selectionOf (onConfigured k startLatched s) k ≠ some q := by
    unfold onConfigured
    split
    · rw [selectionOf, chan_onChan, inside_csl (startLatched_inside _ _)]; exact now
    · exact now
  unfold enterLatched
  dsimp only
  rw [selectionOf, chan_onChan, countFlag_csl]
  split
  · exact switchTo_avoids (by simp) latched
  · exact latched

/-- A copy on the pass-over list that is not the selection. -/
structure PassedOver (k : Chan) (q : Copy) (s : State) : Prop where
  barred : Barred q (chan s k)
  apart : selectionOf s k ≠ some q

theorem PassedOver.relockReport {n : Nat} {k : Chan} {q : Copy} (ih : ∀ {s}, PassedOver k q s → PassedOver k q (rejudge n k s))
    {s : State} (h : PassedOver k q s) : selectionOf (relockReport n k s) k ≠ some q := by
  have counted : PassedOver k q (onChan k countRelock s) :=
    ⟨h.barred.keep (by rw [chan_onChan, countRelock_passes]), by rw [selectionOf, chan_onChan]; exact h.apart⟩
  have acquired : selectionOf (onConfigured k startAcquiring (onChan k countRelock s)) k ≠ some q := by
    unfold onConfigured
    split
    · rw [selectionOf, chan_onChan, inside_csl (startAcquiring_inside _ _)]; exact counted.apart
    · exact counted.apart
  unfold Machine.relockReport
  dsimp only
  split
  · exact enterLatched_avoids counted.apart
  · exact (ih ⟨counted.barred.keep (onConfigured_passes startAcquiring_passes k _), acquired⟩).apart

theorem PassedOver.rejudge {n : Nat} {k : Chan} {q : Copy} {s : State} (h : PassedOver k q s) :
    PassedOver k q (rejudge n k s) := by
  refine ⟨h.barred.keep (rejudge_passes n k s), ?_⟩
  induction n generalizing s with
  | zero => exact h.apart
  | succ n ih =>
    have switched : PassedOver k q (switchTo k (choice s k) s) :=
      ⟨h.barred.keep (switchTo_passes k _ s), switchTo_avoids h.barred.not_chosen h.apart⟩
    rw [rejudge_succ]
    split
    · exact h.apart
    split
    · rw [updateRevert, selectionOf, chan_onChan]; exact h.apart
    split
    · exact switched.relockReport fun g => ⟨g.barred.keep (rejudge_passes n k _), ih g⟩
    · exact switched.apart

/-- A channel that selects gives up a copy on its pass-over list as it re-judges (04/R53, R62). -/
theorem rejudgeOne_passedOver {k : Chan} {q : Copy} {s : State} {g : ChanConfig} (config : chanConfig s k = some g)
    (active : isSelecting s k = true) (barred : Barred q (chan s k)) : PassedOver k q (rejudgeOne k s) := by
  refine ⟨barred.keep (rejudge_passes rejudgeDepth k s), ?_⟩
  have switched : PassedOver k q (switchTo k (choice s k) s) :=
    ⟨barred.keep (switchTo_passes k _ s), by rw [switchTo_selection config]; exact barred.not_chosen⟩
  rw [rejudgeOne, rejudgeDepth, rejudge_succ, if_neg (by rw [active]; decide)]
  split
  · next same =>
    rw [updateRevert, selectionOf, chan_onChan]
    exact fun selected => barred.not_chosen (same.trans selected)
  split
  · exact switched.relockReport PassedOver.rejudge
  · exact switched.apart

theorem PassedOver.of_chan {k : Chan} {q : Copy} {s t : State} (h : PassedOver k q s) (same : chan t k = chan s k) :
    PassedOver k q t := ⟨same ▸ h.barred, by rw [selectionOf, same]; exact h.apart⟩

theorem PassedOver.conclude {k : Chan} {q : Copy} {s : State} (h : PassedOver k q s) : PassedOver k q (conclude s) := by
  have settled : PassedOver k q (settle s) :=
    settleFor_carries (R := fun s t => PassedOver k q s → PassedOver k q t) (fun _ => id) (fun h g => g ∘ h)
      (fun step g => g.of_chan (congrArg (Bank.get · k) step.chans))
      (fun s g => (PassedOver.rejudge g).of_chan (chan_rejudgeBoth k s)) 8 s h
  exact settled.of_chan (congrArg (Bank.get · k) (conclude_chans s))

end Sys2Proof.Machine
end

section
/-! The timers of a Copy Selector, and the report of a beacon on the selected copy's lane (04/R58, R60, R62, R63). -/

namespace Sys2Proof.Machine

/-! ## The refresh and the pass-over timer (04/R60, R63) -/

theorem refreshExpired_due {k : Chan} {s : State} {g : ChanConfig} {d : Time} {q : Copy} {l : LaneNo} {f : FeedNo}
    (config : chanConfig s k = some g) (runs : (chan s k).csl.refresh = some d) (selected : selectionOf s k = some q)
    (origin : q.origin = .lane l) (feed : g.feed = some f) (due : 0 ≤ sdiff s.now d) : refreshExpired k s = { s with
      tx := { s.tx with offers := s.tx.offers.modify k (· ++ [⟨q.station, f, g.callDuration⟩]) }
      chans := s.chans.modify k fun c => { c with csl := { c.csl with
        refresh := some (shift d (g.refreshMs * 27000 : Nat)) } } } := by
  have call : requestCall s k (selectionOf s k) = [⟨q.station, f, g.callDuration⟩] := by
    simp [requestCall, selected, config, origin, feed]
  unfold refreshExpired
  rw [runs, config, call]
  exact if_pos (reached_iff.mpr due)

theorem removeExpired_eq (now : Time) (list : List PassOver) :
    removeExpired now list = list.filter fun e => sdiff now e.expiry < 0 := by
  unfold removeExpired
  refine List.filter_congr fun e _ => ?_
  rw [Bool.eq_iff_iff, Bool.not_eq_true', ← Bool.not_eq_true, reached_iff, decide_eq_true_eq]
  omega

theorem passOverExpired_due {k : Chan} {s : State} (expired : ∃ e ∈ (chan s k).csl.passOver, 0 ≤ sdiff s.now e.expiry) :
    passOverExpired k s = rejudgeOne k { s with chans := s.chans.modify k fun c => { c with csl := { c.csl with
      passOver := c.csl.passOver.filter fun e => sdiff s.now e.expiry < 0 } } } := by
  obtain ⟨e, mem, due⟩ := expired
  unfold passOverExpired
  dsimp only
  rw [if_pos (List.any_eq_true.mpr ⟨e, mem, reached_iff.mpr due⟩), removeExpired_eq]
  rfl

/-! ## The revert hold (04/R58) -/

/-- A revert candidate that is still the revert target keeps its hold through a re-judgement. -/
theorem updateRevert_held {k : Chan} {s : State} {g : ChanConfig} {q sel : Copy} {d : Time}
    (config : chanConfig s k = some g) (held : (chan s k).csl.revert = some (q, d)) (hold : g.revertSeconds ≠ 0)
    (selected : selectionOf s k = some sel) (free : (chan s k).csl.forced ≠ some sel)
    (target : revertTarget s k sel = some q) : updateRevert k s = s := by
  have selected : (chan s k).csl.selection = some sel := selected
  have kept : revertAfter s k = (chan s k).csl.revert := by
    simp [revertAfter, selected, config, hold, free, target, held]
  rw [updateRevert, kept]
  exact onChan_self k s

theorem revertDue_held {k : Chan} {s : State} {g : ChanConfig} {q : Copy} {d : Time} (config : chanConfig s k = some g)
    (held : (chan s k).csl.revert = some (q, d)) (hold : g.revertSeconds ≠ 0) (active : isSelecting s k = true)
    (due : 0 ≤ sdiff s.now (shift d (g.revertSeconds * 27000000 : Nat))) : revertDue k s = some q := by
  unfold revertDue
  rw [held, config]
  exact if_pos ⟨hold, active, reached_iff.mpr due⟩

/-- A revert hold that runs out with its candidate the revert target still switches to it (04/R58). -/
theorem revertExpired_held {k : Chan} {s : State} {q : Copy} (due : revertDue k s = some q) (held : rejudgeOne k s = s)
    (agree : (chan s k).int.standard = 0 ∨ ∀ o ∈ offering s k q, o.standard = (chan s k).int.standard) :
    revertExpired k s = onChan k (count · .copyReverted) (switchTo k (some q) s) := by
  have still : switchChanges (chan s k) (offering s k q) = false := by
    unfold switchChanges
    split
    · next o offered =>
      rcases agree with first | agree
      · simp [first]
      · simp [agree o offered]
    · rfl
  unfold revertExpired
  rw [due]
  dsimp only
  rw [held, if_pos due, still]
  rfl

/-! ## The report of a beacon on the selected copy's lane (04/R62) -/

/-- The DEFERRED beacons of a copy in a row, as its lane's entry now reads (04/R62). -/
def deferCount (l : LaneNo) (k : Chan) (q : Copy) (s : State) : Nat :=
  if ((lane s l).entry.entries.get q.pub).status = .deferred then min ((chan s k).csl.deferred + 1) 5 else 0

def withDeferred (n : Nat) (c : Channel) : Channel := { c with csl := { c.csl with deferred := n } }

/-- The channel that passes over a copy (04/R62, R63). -/
def passingOver (now : Time) (q : Copy) (l : LaneNo) (c : Channel) : Channel :=
  countFlag { c with csl := { c.csl with passOver := addPassOver now q l c.csl.passOver } } .copyPassedOver .copyPassedOver

theorem deferReport_eq {l : LaneNo} {k : Chan} {s : State} {q : Copy} (selected : selectionOf s k = some q)
    (origin : q.origin = .lane l) : deferReport l k s =
      if deferCount l k q s = 5 ∧ isEligible (onChan k (withDeferred (deferCount l k q s)) s) k q then
        onChan k (passingOver s.now q l) (onChan k (withDeferred (deferCount l k q s)) s)
      else onChan k (withDeferred (deferCount l k q s)) s := by
  unfold deferReport
  rw [selected]
  exact if_pos origin

theorem deferReport_deferred {l : LaneNo} {k : Chan} {s : State} {q : Copy} (selected : selectionOf s k = some q)
    (origin : q.origin = .lane l) : (chan (deferReport l k s) k).csl.deferred = deferCount l k q s := by
  rw [deferReport_eq selected origin]
  split
  · rw [chan_onChan, chan_onChan]; rfl
  · rw [chan_onChan]; rfl

/-- The fifth DEFERRED beacon of a copy still eligible passes it over (04/R62). -/
theorem deferReport_fifth {l : LaneNo} {k : Chan} {s : State} {q : Copy} (selected : selectionOf s k = some q)
    (origin : q.origin = .lane l) (fifth : deferCount l k q s = 5) (eligible : isEligible s k q = true) :
    chan (deferReport l k s) k = passingOver s.now q l (withDeferred 5 (chan s k)) := by
  have same : SameOffers k s (onChan k (withDeferred 5) s) := .of_within (onChan_within ..) (by rw [chan_onChan]; rfl)
  have still : isEligible (onChan k (withDeferred 5) s) k q = true := by rw [isEligible, same.offering]; exact eligible
  rw [deferReport_eq selected origin, fifth, if_pos ⟨rfl, still⟩, chan_onChan, chan_onChan]

theorem deferReport_other {l : LaneNo} {j k : Chan} (ne : k ≠ j) (s : State) :
    chan (deferReport l j s) k = chan s k := by
  cases selected : selectionOf s j with
  | none => rw [deferReport, selected]
  | some q =>
    by_cases origin : q.origin = .lane l
    · rw [deferReport_eq selected origin]
      split
      · rw [chan_onChan_ne ne, chan_onChan_ne ne]
      · rw [chan_onChan_ne ne]
    · rw [deferReport, selected]
      exact congrArg (chan · k) (if_neg origin)

/-- Of the reports to both channels, a channel hears its own, in a state that is to it as before both. -/
theorem deferReports_own (l : LaneNo) (k : Chan) (s : State) : ∃ t, WithinChannels s t ∧ chan t k = chan s k
    ∧ WithinChannels t (deferReport l 1 (deferReport l 0 s))
    ∧ chan (deferReport l 1 (deferReport l 0 s)) k = chan (deferReport l k t) k := by
  rcases (by decide +revert : k = 0 ∨ k = 1) with rfl | rfl
  · exact ⟨s, .refl s, rfl, (deferReport_within ..).trans (deferReport_within ..), deferReport_other (by decide) _⟩
  · exact ⟨deferReport l 0 s, deferReport_within .., deferReport_other (by decide) s, deferReport_within .., rfl⟩

/-- A notice of a time step asks for a rebase, and nothing else (04/R67). -/
theorem stepNotice_chan (l : LaneNo) (j k : Chan) (s : State) : ∃ b, chan (stepNotice l j s) k
    = { chan s k with csl := { (chan s k).csl with rebasePending := b } } := by
  unfold stepNotice
  split
  · by_cases here : k = j
    · subst here
      exact ⟨true, chan_onChan ..⟩
    · exact ⟨_, chan_onChan_ne here ..⟩
  · exact ⟨_, rfl⟩

theorem stepNotices_chan (p : Prop) [Decidable p] (l : LaneNo) (k : Chan) (s : State) :
    ∃ b, chan (if p then stepNotice l 1 (stepNotice l 0 s) else s) k
      = { chan s k with csl := { (chan s k).csl with rebasePending := b } } := by
  split
  · obtain ⟨b, first⟩ := stepNotice_chan l 0 k s
    obtain ⟨b', second⟩ := stepNotice_chan l 1 k (stepNotice l 0 s)
    exact ⟨b', by rw [second, first]⟩
  · exact ⟨_, rfl⟩

theorem followGeneration_chan (l : LaneNo) (before : Option Copy) (j k : Chan) (s : State) :
    ∃ n, chan (followGeneration l before j s) k
      = { chan s k with csl := { (chan s k).csl with sourceGeneration := n } } := by
  unfold followGeneration
  split
  · split
    · by_cases here : k = j
      · subst here
        exact ⟨_, chan_onChan ..⟩
      · exact ⟨_, chan_onChan_ne here ..⟩
    · exact ⟨_, rfl⟩
  · exact ⟨_, rfl⟩

theorem leftLive_chan (e : PeerEntry) (l : LaneNo) (k : Chan) (s : State) : chan (leftLive e l s) k = chan s k := by
  unfold leftLive
  split
  · split <;> rfl
  · rfl

/-- A channel after a taken beacon: it hears its report in a state `t` that is to it as before the beacon but for a notice
of a time step, re-judges, and follows the generation of its copy (02/R17, R26, 04/R53, R62, R64). -/
theorem takeBeacon_chan (l : LaneNo) (arrival : Time) (b : Beacon) (k : Chan) (s : State) :
    ∃ t u pending generation, WithinChannels (onLane l (absorbBeacon arrival b) s) t
      ∧ chan t k = { chan s k with csl := { (chan s k).csl with rebasePending := pending } }
      ∧ WithinChannels t u ∧ chan u k = chan (deferReport l k t) k ∧ chan (takeBeacon l arrival b s) k
        = { chan (rejudgeOne k u) k with
            csl := { (chan (rejudgeOne k u) k).csl with sourceGeneration := generation } } := by
  have noticed (t : State) :
      WithinChannels t (if stepsOn (lane s l).entry arrival b then stepNotice l 1 (stepNotice l 0 t) else t) :=
    .ite ((stepNotice_within ..).trans (stepNotice_within ..)) (.refl t)
  obtain ⟨pending, told⟩ := stepNotices_chan (stepsOn (lane s l).entry arrival b) l k (onLane l (absorbBeacon arrival b) s)
  have within := noticed (onLane l (absorbBeacon arrival b) s)
  unfold takeBeacon
  dsimp only
  rw [leftLive_chan]
  generalize (if stepsOn (lane s l).entry arrival b then
    stepNotice l 1 (stepNotice l 0 (onLane l (absorbBeacon arrival b) s)) else onLane l (absorbBeacon arrival b) s) = w
    at told within ⊢
  obtain ⟨t, heard, same, reported, own⟩ := deferReports_own l k w
  obtain ⟨m, first⟩ := followGeneration_chan l (selectionOf s 0) 0 k (rejudgeBoth (deferReport l 1 (deferReport l 0 w)))
  obtain ⟨n, second⟩ := followGeneration_chan l (selectionOf s 1) 1 k
    (followGeneration l (selectionOf s 0) 0 (rejudgeBoth (deferReport l 1 (deferReport l 0 w))))
  exact ⟨t, _, pending, n, within.trans heard, same.trans told, reported, own, by rw [second, first, chan_rejudgeBoth]⟩

theorem addPassOver_mem (now : Time) (q : Copy) (l : LaneNo) (list : List PassOver) :
    (⟨q.station, l, q.pub, shift now 54000000⟩ : PassOver) ∈ addPassOver now q l list :=
  List.mem_append_right _ (List.mem_singleton_self _)

theorem passingOver_passes (now : Time) (q : Copy) (l : LaneNo) (c : Channel) : passes (passingOver now q l c)
    = (addPassOver now q l c.csl.passOver, c.tally.get (chanCtrIx .copyPassedOver) + 1, true) := by
  unfold passes passingOver
  rw [countFlag_tally, countFlag_flags, countFlag_csl]
  simp

/-- The fifth DEFERRED beacon, to the end of its command: the copy stands on the pass-over list and is not the selection
(04/R62). -/
theorem takeBeacon_passesOver {l : LaneNo} {arrival : Time} {b : Beacon} {k : Chan} {s : State} {g : ChanConfig} {q : Copy}
    (config : chanConfig s k = some g) (selected : selectionOf s k = some q) (origin : q.origin = .lane l)
    (active : isSelecting s k = true) (deferred : (b.entries.get q.pub).status = .deferred)
    (fourth : (chan s k).csl.deferred = 4) (eligible : isEligible (onLane l (absorbBeacon arrival b) s) k q = true) :
    passes (chan (takeBeacon l arrival b s) k) = (addPassOver s.now q l (chan s k).csl.passOver,
      (chan s k).tally.get (chanCtrIx .copyPassedOver) + 1, true) ∧ PassedOver k q (takeBeacon l arrival b s) := by
  obtain ⟨t, u, pending, n, heard, before, reported, own, after⟩ := takeBeacon_chan l arrival b k s
  have now : t.now = s.now := heard.link.now
  have selected' : selectionOf t k = some q := by rw [selectionOf, before]; exact selected
  have eligible' : isEligible t k q = true := by
    have same : SameOffers k (onLane l (absorbBeacon arrival b) s) t := .of_within heard (by rw [before, chan_onLane])
    rw [isEligible, same.offering]
    exact eligible
  have fifth : deferCount l k q t = 5 := by
    obtain ⟨offset, steps, -, entry⟩ := absorbBeacon_entry arrival b (lane s l)
    have entries : (lane t l).entry.entries = b.entries := by
      rw [lane, heard.link.lanes, ← lane, lane_onLane, entry]
    rw [deferCount, entries, if_pos deferred, before, fourth]
    rfl
  have passed := deferReport_fifth selected' origin fifth eligible'
  rw [← own, before, now] at passed
  have barred : Barred q (chan u k) := by
    rw [passed]
    exact ⟨_, addPassOver_mem s.now q l _, origin, rfl, rfl⟩
  have config' : chanConfig u k = some g := (chanConfig_within (heard.trans reported) k).trans config
  have gone := rejudgeOne_passedOver config' (by rw [isSelecting, passed]; exact active) barred
  have records : passes (chan (takeBeacon l arrival b s) k) = passes (chan u k) := by
    rw [after]
    exact rejudge_passes rejudgeDepth k u
  refine ⟨?_, ⟨barred.keep records, ?_⟩⟩
  · rw [records, passed, passingOver_passes]
    rfl
  · rw [selectionOf, after]
    exact gone.apart

/-! ## The statement -/

/-- Settles O37: a timer that is due does what its rule says and no more, and a copy on the pass-over list is chosen by no
re-judgement that follows. -/
theorem selectorTimers : Obligations.SelectorTimers := by
  unfold Obligations.SelectorTimers
  intro dt s k g now config hnow
  subst hnow
  have config' : chanConfig (advance dt s) k = some g := config
  refine ⟨fun d q l f runs selected origin feed due => ?_, fun flight l words b q v check other selected origin active hv =>
    ⟨fun x hx => ?_, fun deferred fourth eligible => ?_⟩, fun expired => ?_,
    fun q sel d o held hold active due selected chosen free target offered agree => ?_⟩
  · exact congrArg (fun t => Host.Outcome.next (conclude t))
      (refreshExpired_due (s := advance dt s) config' runs selected origin feed due)
  · have selected' : selectionOf v k = some q := by rw [hv]; exact selected
    have count : deferCount l k q v
        = if (b.entries.get q.pub).status = .deferred then min ((chan s k).csl.deferred + 1) 5 else 0 := by
      obtain ⟨offset, steps, -, entry⟩ := absorbBeacon_entry (s.now + BitVec.ofNat 48 dt - BitVec.ofNat 48 flight) b
        (countLane (lane s l) .rxRecords)
      have entries : (lane v l).entry.entries = b.entries := by
        rw [hv]
        exact (congrArg (fun x : Lane => x.entry.entries) (Bank.get_modify_same ..)).trans (by rw [← lane, entry])
      rw [deferCount, entries, hv]
      rfl
    rw [← hx, deferReport_deferred selected' origin, count]
    exact ⟨fun e => if_neg e, fun e few => (if_pos e).trans (by omega)⟩
  · have taken : exec (.recordReceived dt l flight words) s = .next (conclude (takeBeacon l
        (s.now + BitVec.ofNat 48 dt - BitVec.ofNat 48 flight) b (onLane l (countLane · .rxRecords) (advance dt s)))) :=
      congrArg (fun t => Host.Outcome.next (conclude t)) (receive_taken check (s := advance dt s) other l flight)
    have heard : onLane l (absorbBeacon (s.now + BitVec.ofNat 48 dt - BitVec.ofNat 48 flight) b)
        (onLane l (countLane · .rxRecords) (advance dt s)) = v := by rw [onLane_onLane, hv]; rfl
    obtain ⟨records, gone⟩ := takeBeacon_passesOver (s := onLane l (countLane · .rxRecords) (advance dt s)) config' selected
      origin active deferred fourth (by rw [heard]; exact eligible)
    rw [← conclude_passes] at records
    obtain ⟨list, counted, flagged⟩ := by simpa only [passes, Prod.mk.injEq] using records
    refine ⟨_, taken, list, ?_, counted, flagged, gone.conclude.barred.ineligible, gone.conclude.apart⟩
    rw [list]
    exact addPassOver_mem ..
  · exact congrArg (fun t => Host.Outcome.next (conclude t)) (passOverExpired_due (s := advance dt s) expired)
  · have same : SameOffers k s (advance dt s) := ⟨rfl, rfl, rfl, fun _ => rfl⟩
    have target' : revertTarget (advance dt s) k sel = some q := by
      rw [revertTarget, same.offering, same.eligibles]; exact target
    have stays : rejudgeOne k (advance dt s) = advance dt s := by
      rw [rejudgeOne, rejudgeDepth, rejudge_agrees (s := advance dt s) 2 active (by
        rw [same.choice rfl rfl, chosen]; exact selected.symm)]
      exact updateRevert_held (s := advance dt s) config' held hold selected free target'
    have agree' : (chan (advance dt s) k).int.standard = 0
        ∨ ∀ o ∈ offering (advance dt s) k q, o.standard = (chan (advance dt s) k).int.standard := by
      refine agree.imp_right fun agree e he => ?_
      rw [same.offering, offered] at he
      cases he
      exact agree
    have switches := revertExpired_held (revertDue_held (s := advance dt s) config' held hold active due) stays agree'
    have switched := switchChannel_switchedTo ⟨(advance dt s).now, g⟩ (some q) agree'
    rw [← Option.bind_some (f := offering (advance dt s) k), ← chan_switchTo config'] at switched
    obtain ⟨frame, apart, -⟩ := switchTo_state config' (some q)
    refine ⟨_, congrArg (fun t => Host.Outcome.next (conclude t)) switches, ?_, ?_, ?_, ?_, ?_, ?_⟩
    · exact (show WithinChannels _ _ from frame).trans (onChan_within ..)
    · rw [selectionOf, chan_onChan]; exact switched.selection
    · rw [chan_onChan]; exact switched.revert
    · rw [chan_onChan_ne (other_ne k)]; exact apart
    · rw [chan_onChan, count, countMany_get, if_pos rfl, ledger_count switched.counts (by decide)]; rfl
    · rw [chan_onChan, count, countMany_get, if_neg (by decide)]; exact switched.counted

end Sys2Proof.Machine
end

section
/-! Where a raw picture is opened: its own slot, the slot of its partner, or the slot taken once a waiting field's pairing
is abandoned (05/R73, R74, R80, R81, 06/R102). -/

namespace Sys2Proof.Machine

/-! ## The lowest slot and the oldest (05/R73, R74) -/

theorem slotNumbers_find {p : SlotNo → Bool} {i : SlotNo} (found : p i = true) (lowest : ∀ j, j < i → p j = false) :
    slotNumbers.find? p = some i := by
  rw [slotNumbers, List.find?_eq_some_iff_getElem]
  refine ⟨found, i.val, by simp, by simp, fun j before => ?_⟩
  have first := lowest ⟨j, by omega⟩ before
  simpa using first

theorem slotNumbers_find_none {p : SlotNo → Bool} (h : ∀ i, p i = false) : slotNumbers.find? p = none :=
  List.find?_eq_none.mpr fun i _ => by simp [h i]

theorem pairingSlot_lowest {c : Channel} {i : SlotNo} (pairing : (slotOf c i).state = .pairing)
    (lowest : ∀ j, j < i → (slotOf c j).state ≠ .pairing) : pairingSlot c = some i :=
  slotNumbers_find (decide_eq_true pairing) fun j before => decide_eq_false (lowest j before)

theorem lowestFree_lowest {c : Channel} {i : SlotNo} (free : (slotOf c i).state = .free)
    (lowest : ∀ j, j < i → (slotOf c j).state ≠ .free) : lowestFree c = some i :=
  slotNumbers_find (decide_eq_true free) fun j before => decide_eq_false (lowest j before)

theorem lowestFree_none {c : Channel} (held : ∀ j, (slotOf c j).state ≠ .free) : lowestFree c = none :=
  slotNumbers_find_none fun j => decide_eq_false (held j)

/-- One slot against the oldest recyclable one so far (05/R74). -/
def olderOf (c : Channel) (best : Option SlotNo) (i : SlotNo) : Option SlotNo :=
  if recyclable c i then
    match best with
    | some b => if later (ageStamp (slotOf c b)) (ageStamp (slotOf c i)) then some i else some b
    | none => some i
  else best

theorem oldestRecyclable_eq (c : Channel) : oldestRecyclable c = slotNumbers.foldl (olderOf c) none := rfl

theorem olderOf_taken {c : Channel} {best : Option SlotNo} {i : SlotNo} (here : recyclable c i = true)
    (older : ∀ b, best = some b → later (ageStamp (slotOf c b)) (ageStamp (slotOf c i)) = true) :
    olderOf c best i = some i := by
  refine (if_pos here).trans ?_
  cases best with
  | none => rfl
  | some b => exact if_pos (older b rfl)

theorem olderOf_kept {c : Channel} {b i : SlotNo}
    (younger : recyclable c i = true → later (ageStamp (slotOf c b)) (ageStamp (slotOf c i)) = false) :
    olderOf c (some b) i = some b := by
  unfold olderOf
  split
  · next here => exact if_neg (by rw [younger here]; decide)
  · rfl

theorem olderOf_mem (c : Channel) (best : Option SlotNo) (i : SlotNo) {b : SlotNo} (h : olderOf c best i = some b) :
    best = some b ∨ b = i ∧ recyclable c i = true := by
  unfold olderOf at h
  split at h
  · next here =>
    split at h
    · split at h
      · cases h; exact .inr ⟨rfl, here⟩
      · exact .inl h
    · cases h; exact .inr ⟨rfl, here⟩
  · exact .inl h

theorem foldl_olderOf_mem {c : Channel} {xs : List SlotNo} {best : Option SlotNo} {b : SlotNo}
    (h : xs.foldl (olderOf c) best = some b) : best = some b ∨ b ∈ xs ∧ recyclable c b = true := by
  induction xs generalizing best with
  | nil => exact .inl h
  | cons x xs ih =>
    rcases ih h with first | ⟨mem, here⟩
    · exact (olderOf_mem c best x first).imp_right fun ⟨same, here⟩ =>
      ⟨same ▸ List.mem_cons_self, same ▸ here⟩
    · exact .inr ⟨List.mem_cons_of_mem x mem, here⟩

theorem oldestRecyclable_none {c : Channel} (held : ∀ j, recyclable c j = false) : oldestRecyclable c = none := by
  rw [oldestRecyclable_eq, Option.eq_none_iff_forall_ne_some]
  intro b found
  obtain found | ⟨-, here⟩ := foldl_olderOf_mem found
  · cases found
  · exact absurd here (by rw [held b]; decide)

/-- A slot as old as any is not passed by a later one (00/0.7.1). -/
theorem not_later_of_nonneg {a b : Time} (h : 0 ≤ sdiff b a) : later a b = false := by
  have opposite : a - b = -(b - a) := by bv_omega
  have negated : (-(b - a)).toInt ≤ 0 := by
    have minus : sdiff b a ≠ (BitVec.intMin 48).toInt := by rw [BitVec.toInt_intMin]; omega
    rw [BitVec.toInt_neg_of_ne_intMin fun e => minus (congrArg BitVec.toInt e)]
    have same : (b - a).toInt = sdiff b a := rfl
    omega
  rw [later, decide_eq_false_iff_not, sdiff, opposite]
  omega

theorem oldestRecyclable_oldest {c : Channel} {i : SlotNo} (here : recyclable c i = true)
    (oldest : ∀ j, recyclable c j = true →
      (i < j → 0 ≤ sdiff (ageStamp (slotOf c j)) (ageStamp (slotOf c i)))
      ∧ (j < i → 0 < sdiff (ageStamp (slotOf c j)) (ageStamp (slotOf c i)))) : oldestRecyclable c = some i := by
  obtain ⟨before, after, parts⟩ := List.append_of_mem (List.mem_finRange i)
  have sorted : (before ++ i :: after).Pairwise (· < ·) := parts ▸ List.pairwise_lt_finRange 12
  obtain ⟨-, tail, ahead⟩ := List.pairwise_append.mp sorted
  have met : olderOf c (before.foldl (olderOf c) none) i = some i := by
    refine olderOf_taken here fun b best => ?_
    obtain ⟨mem, earlier⟩ := (foldl_olderOf_mem best).resolve_left (by simp)
    exact later_iff.mpr ((oldest b earlier).2 (ahead b mem i List.mem_cons_self))
  have stays : ∀ xs : List SlotNo, (∀ j ∈ xs, i < j) → xs.foldl (olderOf c) (some i) = some i := by
    intro xs above
    induction xs with
    | nil => rfl
    | cons j xs ih =>
      have kept : olderOf c (some i) j = some i :=
        olderOf_kept fun later => not_later_of_nonneg ((oldest j later).1 (above j List.mem_cons_self))
      rw [List.foldl_cons, kept]
      exact ih fun j mem => above j (List.mem_cons_of_mem _ mem)
  rw [oldestRecyclable_eq, slotNumbers, parts, List.foldl_append, List.foldl_cons, met]
  exact stays after (List.pairwise_cons.mp tail).1

/-! ## An own slot (05/R73, R74) -/

theorem openOwn_free {c : Channel} {i : SlotNo} (free : (slotOf c i).state = .free)
    (lowest : ∀ j, j < i → (slotOf c j).state ≠ .free) (raw : RawPicture) :
    openOwn raw c = { c with int := { c.int with
      openSlot := some i, newest := some raw.stamp, refused := none
      slots := c.int.slots.set i { Slot.empty with state := .filling, raws := [raw] } } } := by
  rw [openOwn, takeSlot, lowestFree_lowest free lowest]
  rfl

theorem openOwn_full {c : Channel} (held : ∀ j, (slotOf c j).state ≠ .free) (kept : ∀ j, recyclable c j = false)
    (raw : RawPicture) : openOwn raw c = { c with
      int := { c.int with refused := some raw.sequence }, tally := addCount c.tally (chanCtrIx .ringFull) 1 } := by
  rw [openOwn, takeSlot, lowestFree_none held]
  dsimp only
  rw [oldestRecyclable_none kept]
  rfl

/-- The channel that has taken its oldest recyclable slot (05/R74). -/
def recycled (i : SlotNo) (c : Channel) : Channel :=
  countFlag { freeSlot i c with int := { (freeSlot i c).int with
    retireRef := if c.int.retireRef = some i then none else c.int.retireRef } } .ringOverrun .ringOverrun

theorem openOwn_recycled {c : Channel} {i : SlotNo} (held : ∀ j, (slotOf c j).state ≠ .free)
    (oldest : oldestRecyclable c = some i) (raw : RawPicture) : openOwn raw c = nowOpen i raw.stamp
      (onSlot i (fun _ => { Slot.empty with state := .filling, raws := [raw] }) (recycled i c)) := by
  rw [openOwn, takeSlot, lowestFree_none held]
  dsimp only
  rw [oldest]
  rfl

theorem recycled_tally {c : Channel} (i : SlotNo) {x : ChanCtr} (other : x ≠ .motionSkipped) :
    (recycled i c).tally.get (chanCtrIx x) = c.tally.get (chanCtrIx x) + if x = .ringOverrun then 1 else 0 := by
  have freed : (freeSlot i c).tally.get (chanCtrIx x) = c.tally.get (chanCtrIx x) :=
    (countMany_get ..).trans (if_neg other)
  rw [recycled, countFlag_tally, freed]

theorem recycled_open_int (i : SlotNo) (raw : RawPicture) (c : Channel) : (nowOpen i raw.stamp
      (onSlot i (fun _ => { Slot.empty with state := .filling, raws := [raw] }) (recycled i c))).int = { c.int with
    openSlot := some i, newest := some raw.stamp, refused := none
    committed := c.int.committed.filter (· ≠ i)
    retireRef := if c.int.retireRef = some i then none else c.int.retireRef
    slots := c.int.slots.set i { Slot.empty with state := .filling, raws := [raw] } } := by
  have slots : ((c.int.slots.set i .empty).modify i fun _ => { Slot.empty with state := .filling, raws := [raw] })
      = c.int.slots.set i { Slot.empty with state := .filling, raws := [raw] } := bank_set_set ..
  rw [← slots]
  rfl

/-! ## The partner of a waiting field (05/R73, 06/R102) -/

theorem secondOfPair_iff (f : Family) (p : Nat) :
    secondOfPair f p = true ↔ f = .film32 ∧ (p = 1 ∨ p = 4) ∨ f = .film22 ∧ p = 1 := by
  cases f <;> simp [secondOfPair]

theorem placesWithPartner_iff (d : Cadence) : placesWithPartner d = true ↔ ∃ f p, d.mode = some f
    ∧ (recordOf d f).next = some p ∧ (f = .film32 ∧ (p = 1 ∨ p = 4) ∨ f = .film22 ∧ p = 1) := by
  unfold placesWithPartner
  cases d.mode with
  | none => simp
  | some f => simp [Option.any_eq_true, secondOfPair_iff]

theorem waitsFor_iff {c : Channel} {i : SlotNo} {w : RawPicture} (waits : (slotOf c i).raws.head? = some w)
    (raw : RawPicture) : waitsFor c i raw = true
      ↔ (w.kind = .fieldTop ∧ raw.kind = .fieldBottom) ∨ (w.kind = .fieldBottom ∧ raw.kind = .fieldTop) := by
  unfold waitsFor
  rw [waits]
  cases hw : w.kind <;> cases hr : raw.kind <;> simp [parityOf, hw]

/-- The slot of a waiting field with its partner: the map of the partner's own lines is empty (05/R73). -/
def joined (raw : RawPicture) (x : Slot) : Slot := { x with
  state := .filling, raws := x.raws ++ [raw]
  received := x.received.filter fun key => some (Fin.ofNat 2 (key / 1024 % 2)) ≠ parityOf raw.kind }

theorem openPicture_joins {env : Env} {raw : RawPicture} {c : Channel} {i : SlotNo} (waits : pairingSlot c = some i)
    (partner : placesWithPartner c.cad = true) (opposite : waitsFor c i raw = true) : openPicture env raw c
      = { c with int := { c.int with
          openSlot := some i, newest := some raw.stamp, refused := none
          slots := c.int.slots.set i (joined raw (slotOf c i)) } } := by
  rw [openPicture, waits]
  exact if_pos ⟨partner, opposite⟩

theorem openPicture_apart {env : Env} {raw : RawPicture} {c : Channel} {i : SlotNo} (waits : pairingSlot c = some i)
    (apart : ¬ (placesWithPartner c.cad = true ∧ waitsFor c i raw = true)) :
    openPicture env raw c = openOwn raw (abandonPairing env i c) := by
  rw [openPicture, waits]
  exact if_neg apart

theorem openPicture_alone {env : Env} {raw : RawPicture} {c : Channel} (none : pairingSlot c = none) :
    openPicture env raw c = openOwn raw c := by
  rw [openPicture, none]

/-- The pairs of the other field stay received, and those of the new one are yet to come. -/
theorem joined_received {raw : RawPicture} (field : raw.kind = .fieldTop ∨ raw.kind = .fieldBottom) (x : Slot)
    (line : Nat) {pos : Nat} (inside : pos < 2048) : pairKey line pos ∈ (joined raw x).received ↔
      pairKey line pos ∈ x.received ∧ line % 2 ≠ (if raw.kind = .fieldTop then 0 else 1) := by
  have lines : pairKey line pos / 1024 = line := by unfold pairKey; omega
  have parity : some (Fin.ofNat 2 (line % 2)) ≠ parityOf raw.kind ↔ line % 2 ≠ (if raw.kind = .fieldTop then 0 else 1) := by
    rcases field with top | bottom
    · simp [top, parityOf, Fin.ext_iff]
    · simp [bottom, parityOf, Fin.ext_iff]
  rw [joined, List.mem_filter, decide_eq_true_eq, lines, parity]

/-! ## A pairing abandoned (05/R80, R81) -/

theorem abandonPairing_eq {env : Env} {i : SlotNo} {c : Channel} {w : RawPicture}
    (waits : (slotOf c i).raws.head? = some w) : abandonPairing env i c
      = sweep (commit env i w.stamp (some (.deinterlace none none)) (count c .pairAbandoned)) := by
  unfold abandonPairing
  split
  · next k rest raws =>
    rw [raws] at waits
    cases waits
    rfl
  · next raws =>
    rw [raws] at waits
    cases waits

/-- What stands through an abandoned pairing, whichever way its commit goes. -/
structure Abandoned (c a : Channel) : Prop where
  counted : a.tally.get (chanCtrIx .pairAbandoned) = c.tally.get (chanCtrIx .pairAbandoned) + 1
  csl : a.csl = c.csl
  cad : a.cad = c.cad
  sup : a.sup = c.sup
  port : a.port = c.port
  flags : a.flags = c.flags

theorem RingWork.abandoned {c b a : Channel} (h : RingWork b a)
    (counted : b.tally.get (chanCtrIx .pairAbandoned) = c.tally.get (chanCtrIx .pairAbandoned) + 1)
    (frame : b = { c with int := b.int, tally := b.tally }) : Abandoned c a := by
  refine ⟨(h.tally _ (by decide) (by decide)).trans counted, ?_, ?_, ?_, ?_, ?_⟩ <;> rw [h.frame, frame]

/-- The waiting field commits as VIDEO and is finished alone (05/R80, R81). -/
theorem abandonPairing_commits {env : Env} {i : SlotNo} {c : Channel} {w : RawPicture}
    (waits : (slotOf c i).raws.head? = some w) (later : ∀ t, c.int.lastCommitted = some t → 0 < sdiff w.stamp t) :
    Abandoned c (abandonPairing env i c)
      ∧ slotOf (abandonPairing env i c) i = committedSlot w.stamp (some (.deinterlace none none)) (slotOf c i)
      ∧ i ∈ (abandonPairing env i c).int.committed ∧ (abandonPairing env i c).int.lastCommitted = some w.stamp
      ∧ (abandonPairing env i c).tally.get (chanCtrIx .committed) = c.tally.get (chanCtrIx .committed) + 1 := by
  have work := (commit_taken (env := env) (i := i) (plan := some (.deinterlace none none)) (c := count c .pairAbandoned)
    later).trans (sweep_ringWork _)
  rw [← abandonPairing_eq waits] at work
  generalize abandonPairing env i c = a at work ⊢
  have slot : slotOf (committing env i w.stamp (some (.deinterlace none none)) (count c .pairAbandoned)) i
      = committedSlot w.stamp (some (.deinterlace none none)) (slotOf c i) := Bank.get_modify_same ..
  obtain ⟨same, listed⟩ := (work.slots i).resolve_right fun ⟨_, was⟩ => by
    rw [slot] at was
    exact absurd was (by simp [committedSlot])
  refine ⟨work.abandoned ?_ rfl, same.trans slot, listed (List.mem_append_right _ (List.mem_singleton_self i)), ?_, ?_⟩
  · exact (countMany_get ..).trans ((if_neg (by decide)).trans ((countMany_get ..).trans (if_pos rfl)))
  · rw [work.frame]
    rfl
  · rw [work.tally _ (by decide) (by decide)]
    refine (countMany_get ..).trans ((if_pos rfl).trans (congrArg (· + _) ?_))
    exact (countMany_get ..).trans (if_neg (by decide))

/-- A field not later than the last commit goes to HISTORY, and may be freed at once (05/R80, R88). -/
theorem abandonPairing_refused {env : Env} {i : SlotNo} {c : Channel} {w : RawPicture} {t : Time}
    (waits : (slotOf c i).raws.head? = some w) (last : c.int.lastCommitted = some t) (early : sdiff w.stamp t ≤ 0) :
    Abandoned c (abandonPairing env i c)
      ∧ ((slotOf (abandonPairing env i c) i).state = .history ∨ slotOf (abandonPairing env i c) i = .empty)
      ∧ (abandonPairing env i c).int.lastCommitted = c.int.lastCommitted
      ∧ (abandonPairing env i c).tally.get (chanCtrIx .stampOrder) = c.tally.get (chanCtrIx .stampOrder) + 1 := by
  have work := sweep_ringWork (commit env i w.stamp (some (.deinterlace none none)) (count c .pairAbandoned))
  rw [← abandonPairing_eq waits, commit_refused (c := count c .pairAbandoned) last early] at work
  generalize abandonPairing env i c = a at work ⊢
  have slot : (slotOf (count (onSlot i (fun x => { x with state := .history }) (count c .pairAbandoned)) .stampOrder) i).state
      = .history := congrArg Slot.state (Bank.get_modify_same ..)
  refine ⟨work.abandoned ?_ rfl, ?_, ?_, ?_⟩
  · exact (countMany_get ..).trans ((if_neg (by decide)).trans ((countMany_get ..).trans (if_pos rfl)))
  · exact (work.slots i).imp (fun h => by rw [h.1]; exact slot) (·.1)
  · rw [work.frame]
    rfl
  · rw [work.tally _ (by decide) (by decide)]
    refine (countMany_get ..).trans ((if_pos rfl).trans (congrArg (· + _) ?_))
    exact (countMany_get ..).trans (if_neg (by decide))

theorem abandonPairing_abandoned {env : Env} {i : SlotNo} {c : Channel} {w : RawPicture}
    (waits : (slotOf c i).raws.head? = some w) : Abandoned c (abandonPairing env i c) := by
  by_cases later : ∀ t, c.int.lastCommitted = some t → 0 < sdiff w.stamp t
  · exact (abandonPairing_commits waits later).1
  · push Not at later
    obtain ⟨t, last, early⟩ := later
    exact (abandonPairing_refused waits last early).1

end Sys2Proof.Machine
end

section
/-! A picture of the window, of the source standard or refused (04/R64, R68, 05/R72 to R74). -/

namespace Sys2Proof.Machine

/-! ## Admission (05/R72) -/

/-- The channel that hears a PICTURE record: an internal copy's record brings its generation where its kind fits
(04/R64). -/
def hearing (via : Origin) (r : PictureRecord) (c : Channel) : Channel :=
  match via with
  | .internal => { c with csl := { c.csl with
      sourceGeneration := if kindFits r.standard r.kind then r.generation else c.csl.sourceGeneration } }
  | .lane _ => c

theorem takePicture_unfit {env : Env} {mapped : Time} {via : Origin} {r : PictureRecord} {c : Channel}
    (unfit : kindFits r.standard r.kind = false) : takePicture env mapped via r c = { hearing via r c with
      int := { (hearing via r c).int with refused := some r.sequence }
      tally := addCount (hearing via r c).tally (chanCtrIx .kindMismatch) 1 } := by
  have heard : hearing via r c = c := by
    cases via with
    | lane l => rfl
    | internal => rw [hearing, unfit]; rfl
  rw [heard]
  unfold takePicture
  exact if_pos (by rw [unfit]; rfl)

theorem takePicture_fits {env : Env} {mapped : Time} {via : Origin} {r : PictureRecord} {c : Channel}
    (fits : kindFits r.standard r.kind = true) (own : r.standard = c.int.standard) : takePicture env mapped via r c
      = closeStampOpen env mapped r { hearing via r c with
          tally := addCount (hearing via r c).tally (chanCtrIx .picturesAdmitted) 1 } := by
  have heard : admitted via r c = { hearing via r c with
      tally := addCount (hearing via r c).tally (chanCtrIx .picturesAdmitted) 1 } := by
    unfold admitted hearing
    cases via with
    | lane l => rfl
    | internal => rw [fits]; rfl
  have int : (admitted via r c).int = c.int := by rw [admitted_frame]
  rw [← heard]
  unfold takePicture
  rw [if_neg (by rw [fits]; decide)]
  exact congrArg (closeStampOpen env mapped r) (if_neg (c := r.standard ≠ (admitted via r c).int.standard) (by
    rw [int]; exact not_not.mpr own))

theorem bringsChange_own {r : PictureRecord} {c : Channel}
    (h : kindFits r.standard r.kind = false ∨ r.standard = c.int.standard) : bringsChange r c = false := by
  unfold bringsChange
  rcases h with unfit | own
  · simp [unfit]
  · simp [own]

/-! ## Closed, stamped and opened (04/R68, 05/R72) -/

theorem closeStampOpen_early {env : Env} {mapped stamp : Time} {r : PictureRecord} {c d : Channel} {n : Time}
    (given : (stamp, d) = giveStamp mapped (closeOpen env c)) (newest : d.int.newest = some n) (early : sdiff stamp n ≤ 0) :
    closeStampOpen env mapped r c = { d with
      int := { d.int with refused := some r.sequence }, tally := addCount d.tally (chanCtrIx .stampOrder) 1 } := by
  unfold closeStampOpen
  dsimp only
  rw [← given]
  refine if_pos ?_
  rw [newest]
  simpa [later] using early

theorem closeStampOpen_later {env : Env} {mapped stamp : Time} {r : PictureRecord} {c d : Channel}
    (given : (stamp, d) = giveStamp mapped (closeOpen env c)) (ordered : ∀ n, d.int.newest = some n → 0 < sdiff stamp n) :
    closeStampOpen env mapped r c = openPicture env ⟨r.kind, r.sequence, stamp, d.int.switchCount, none⟩ d := by
  unfold closeStampOpen
  dsimp only
  rw [← given]
  refine if_neg ?_
  cases newest : d.int.newest with
  | none => simp
  | some n => simpa using later_iff.mpr (ordered n newest)

/-! ## The record's way to the channel (03/R50, 05/R70) -/

theorem pictureToChannel_taken {via : Origin} {r : PictureRecord} {k : Chan} {s : State} {g : ChanConfig}
    (config : chanConfig s k = some g) (heard : ofWindow ⟨s.now, g⟩ (chan s k) via r.origin r.pub r.feed = true)
    (still : bringsChange r (chan s k) = false) : pictureToChannel via r k s = { s with
      chans := s.chans.set k (takePicture ⟨s.now, g⟩ (mappedStamp s via r.stamp) via r (chan s k)) } := by
  unfold pictureToChannel
  rw [config]
  dsimp only
  rw [if_pos heard, still]
  rfl

/-- A record of the window that brings no other standard is taken by its channel alone, whichever way it comes. -/
theorem picture_taken {dt flight : Nat} {l : LaneNo} {words : List Word} {s v y : State} {k : Chan} {g : ChanConfig}
    {q : Copy} {r : PictureRecord} {b : Channel} {mapped : Time} {out : Channel → Prop} (config : chanConfig s k = some g)
    (feed : g.feed = some r.feed) (aim : (chan s k).int.aim = some q) (pub : q.pub = r.pub)
    (still : bringsChange r (chan s k) = false)
    (cases : q.origin = .lane l ∧ q.station = r.origin ∧ checkRecord words = .ok (.picture r)
        ∧ v = { advance dt s with
            lanes := s.lanes.modify l fun x => { x with tally := addCount x.tally (laneCtrIx .rxRecords) 1 } }
        ∧ ((∀ x, (chan s (otherChan k)).int.aim = some x → x.origin ≠ .lane l) ∧ y = v
          ∨ y = pictureToChannel (.lane l) r (otherChan k) v)
        ∧ b = chan s k ∧ mapped = r.stamp + (lane s l).entry.offset
        ∧ (∀ x, out x ↔ exec (.recordReceived dt l flight words) s = .next (conclude { y with chans := y.chans.set k x }))
      ∨ q.origin = .lane l ∧ q.station = r.origin ∧ v = s ∧ mapped = r.stamp + (lane s l).entry.offset ∧ b = chan s k
        ∧ (∀ x, out x ↔ pictureToChannel (.lane l) r k s = { s with chans := s.chans.set k x })
      ∨ q.origin = .internal ∧ v = s ∧ mapped = r.stamp
        ∧ b = { chan s k with csl := { (chan s k).csl with
            sourceGeneration := if kindFits r.standard r.kind then r.generation else (chan s k).csl.sourceGeneration } }
        ∧ (∀ x, out x ↔ pictureToChannel .internal r k s = { s with chans := s.chans.set k x })) :
    b = hearing q.origin r (chan s k) ∧ out (takePicture ⟨v.now, g⟩ mapped q.origin r (chan s k)) := by
  have taken {y : State} (same : chan y k = chan s k) (config : chanConfig y k = some g)
      (station : ∀ l, q.origin = .lane l → q.station = r.origin) : pictureToChannel q.origin r k y = { y with
        chans := y.chans.set k (takePicture ⟨y.now, g⟩ (mappedStamp y q.origin r.stamp) q.origin r (chan s k)) } := by
    rw [← same] at aim still
    rw [← same]
    exact pictureToChannel_taken config (ofWindow_aimed aim feed pub station) still
  obtain ⟨origin, station, ok, hv, hy, hb, hmapped, hout⟩ | ⟨origin, station, rfl, hmapped, hb, hout⟩
    | ⟨origin, rfl, hmapped, hb, hout⟩ := cases
  · obtain ⟨ends, mapped', now, same, offers, -⟩ := hears_picture (flight := flight)
      (out := fun u => exec (.recordReceived dt l flight words) s = .next (conclude u))
      (.inl ⟨origin, station, ok, hv, hy, hmapped, fun _ => .rfl⟩)
    have config' : chanConfig y k = some g := by rw [chanConfig, offers.config]; exact config
    refine ⟨by rw [hb, origin, hearing], ?_⟩
    rw [hout, ends, taken same config' fun _ _ => station, ← mapped', now]
  · refine ⟨by rw [hb, origin, hearing], ?_⟩
    have mapped' : mapped = mappedStamp v q.origin r.stamp := by rw [hmapped, origin]; rfl
    rw [hout, mapped', ← taken rfl config fun _ _ => station, origin]
  · refine ⟨by rw [hb, origin, hearing], ?_⟩
    have mapped' : mapped = mappedStamp v q.origin r.stamp := by rw [hmapped, origin]; rfl
    have none (l : LaneNo) (lane : q.origin = .lane l) : q.station = r.origin := by rw [origin] at lane; cases lane
    rw [hout, mapped', ← taken rfl config none, origin]

/-! ## The statement -/

/-- Settles O38: the record reaches its channel alone, is refused or admitted there, and an admitted one is opened in one
of the three ways of 05/R73. -/
theorem pictureReceived : Obligations.PictureReceived := by
  unfold Obligations.PictureReceived
  refine ⟨fun dt flight l words s v y k g q r b c d mapped stamp raw out config feed aim pub cases hc given hraw =>
    ⟨fun unfit => ?_, fun fits own => ?_⟩, fun raw c d hd => ⟨fun i free lowest => ?_, fun held => ⟨fun kept => ?_,
      fun i here oldest => ?_⟩⟩⟩
  · obtain ⟨hb, taken⟩ := picture_taken config feed aim pub (bringsChange_own (.inl unfit)) cases
    rw [takePicture_unfit unfit, ← hb] at taken
    exact taken
  · have int : b.int = (chan s k).int := by
      obtain ⟨-, -, -, -, -, hb, -⟩ | ⟨-, -, -, -, hb, -⟩ | ⟨-, -, -, hb, -⟩ := cases <;> rw [hb]
    rw [int] at own
    obtain ⟨hb, taken⟩ := picture_taken config feed aim pub (bringsChange_own (.inr own)) cases
    rw [takePicture_fits fits own, ← hb] at taken
    have frame : d = { c with csl := d.csl, tally := d.tally } := by
      obtain ⟨-, hd⟩ := Prod.ext_iff.mp given
      dsimp only at hd
      rw [hd]
      exact giveStamp_frame mapped c
    have dint : d.int = c.int := (congrArg Channel.int frame :)
    have slots (j : SlotNo) : slotOf d j = slotOf c j := by rw [slotOf, dint]; rfl
    have given' := given
    rw [hc] at given'
    refine ⟨fun closed => hc.trans (closeOpen_none _ closed), fun ⟨n, newest, early⟩ => ?_, fun ordered => ?_⟩
    · rw [closeStampOpen_early given' (by rw [dint]; exact newest) early] at taken
      exact taken
    · rw [closeStampOpen_later given' (by rw [dint]; exact ordered), dint, ← hraw] at taken
      refine ⟨fun none => ?_, fun i w partner opposite waiting lowest waits hpartner hopposite => ?_⟩
      · rw [openPicture_alone (pairingSlot_none fun j => by rw [slots]; exact none j)] at taken
        exact taken
      · have pairing : pairingSlot d = some i :=
          pairingSlot_lowest (by rw [slots]; exact waiting) fun j before => by rw [slots]; exact lowest j before
        have waits' : (slotOf d i).raws.head? = some w := by rw [slots]; exact waits
        have kind : raw.kind = r.kind := by rw [hraw]
        have rawStamp : raw.stamp = stamp := by rw [hraw]
        have partner' : placesWithPartner d.cad = true ↔ partner := by
          rw [placesWithPartner_iff, hpartner, (congrArg Channel.cad frame :)]
        have opposite' : waitsFor d i raw = true ↔ opposite := by rw [waitsFor_iff waits', hopposite, kind]
        refine ⟨fun isPartner isOpposite => ⟨joined raw (slotOf d i), ?_, ?_, fun line pos inside => ?_⟩, fun apart => ?_⟩
        · rw [openPicture_joins pairing (partner'.mpr isPartner) (opposite'.mpr isOpposite), rawStamp] at taken
          exact taken
        · rw [slots]
          rfl
        · have field : raw.kind = .fieldTop ∨ raw.kind = .fieldBottom := by
            rw [kind]
            exact (hopposite.mp isOpposite).elim (.inr ·.2) (.inl ·.2)
          rw [joined_received field _ line inside, slots, kind]
        · rw [openPicture_apart pairing (by rw [partner', opposite']; exact apart)] at taken
          have last : d.int.lastCommitted = c.int.lastCommitted := by rw [dint]
          have abandoned : Abandoned d (abandonPairing ⟨v.now, g⟩ i d) := abandonPairing_abandoned waits'
          refine ⟨_, taken, abandoned.counted, abandoned.csl, abandoned.cad, abandoned.sup, abandoned.port, abandoned.flags,
            fun later => ?_, fun ⟨t, held, early⟩ => ?_⟩
          · rw [← slots]
            exact (abandonPairing_commits waits' (last ▸ later)).2
          · rw [← last]
            exact (abandonPairing_refused waits' (last.trans held) early).2
  · rw [hd]
    exact openOwn_free free lowest raw
  · rw [hd]
    exact openOwn_full held kept raw
  · rw [hd, openOwn_recycled held (oldestRecyclable_oldest here oldest)]
    refine ⟨recycled_open_int i raw c, rfl, rfl, rfl, rfl, rfl, rfl, rfl, rfl, ?_, ?_⟩
    · exact (recycled_tally i (by decide)).trans (by rw [if_pos rfl])
    · exact (recycled_tally i (by decide)).trans (by rw [if_neg (by decide), add_zero])

end Sys2Proof.Machine
end

section
/-! The ring of a channel as one law, with the slot that receives lines or is being closed named apart from the field that
holds it; and what freeing, sweeping, a commit and a slot's own change leave of it (05/R73, R80, R85 to R88, 07/R114). -/

namespace Sys2Proof.Machine

/-! ## The law -/

/-- A slot that receives lines, or waits for its partner. -/
abbrev Gathers (x : Slot) : Prop := x.state = .filling ∨ x.state = .pairing

/-- The slots of a ring of which `o` is FILLING, and that nothing referenced is gone: pictureRingLaw but for the detector's
part, whichever slot the intake names as its open one. -/
structure RingHeld (o : Option SlotNo) (c : Channel) : Prop where
  slots : ∀ i, slotLaw (slotOf c i)
  filling : ∀ i, o = some i ↔ (slotOf c i).state = .filling
  alone : ∀ i j, Gathers (slotOf c i) → Gathers (slotOf c j) → i = j
  distinct : c.int.committed.Nodup
  listed : ∀ i, i ∈ c.int.committed ↔ (slotOf c i).committed.isSome
  cropped : c.int.standard = 0 ↔ c.int.crop = none
  vacant : c.int.standard = 0 → ∀ i, (slotOf c i).state = .free
  short : c.int.history.length ≤ 2
  history : ∀ e ∈ c.int.history, entryHeld c e
  finish : ∀ i, ∀ e ∈ finishEntries (slotOf c i).finish, entryHeld c e
  retire : ∀ r ∈ c.int.retireRef, r ∈ c.int.committed
  render : ∀ r ∈ c.ren.record, r.state ≠ .done → r.a ∈ c.int.committed ∧ ∀ b ∈ r.b, b ∈ c.int.committed
  job : ∀ j ∈ c.meu.job, isComplete c j.pair.a = true ∧ isComplete c j.pair.b = true
  pairs : ∀ q ∈ c.meu.pending, q.a ∈ c.int.committed ∧ q.b ∈ c.int.committed

/-- A second field receives its lines in its partner's slot only as the detector's next position has it (06/R102). -/
def Partnered (c : Channel) : Prop :=
  ∀ i, (slotOf c i).state = .filling → (slotOf c i).raws.length = 2 → placesWithPartner c.cad = true

/-- The ring law of one channel. -/
structure RingKept (c : Channel) : Prop where
  held : RingHeld c.int.openSlot c
  partnered : Partnered c

theorem ringKept_iff (c : Channel) : RingKept c ↔ ringLaw c ∧ referencesLaw c := by
  constructor
  · rintro ⟨⟨h1, h2, h3, h4, h5, h6, h7, h8, h9, h10, h11, h12, h13, h14⟩, p⟩
    exact ⟨⟨h1, h2, p, h3, h4, h5, h6, h7⟩, h8, h9, h10, h11, h12, h13, h14⟩
  · rintro ⟨⟨h1, h2, p, h3, h4, h5, h6, h7⟩, h8, h9, h10, h11, h12, h13, h14⟩
    exact ⟨⟨h1, h2, h3, h4, h5, h6, h7, h8, h9, h10, h11, h12, h13, h14⟩, p⟩

/-- What the law reads of a channel, but for the open slot and the detector. -/
def ringParts (c : Channel) :=
  (c.int.slots, c.int.committed, c.int.standard, c.int.crop, c.int.history, c.int.retireRef, c.ren.record, c.meu)

theorem RingHeld.congr {o : Option SlotNo} {c d : Channel} (h : RingHeld o c) (same : ringParts d = ringParts c) :
    RingHeld o d := by
  simp only [ringParts, Prod.mk.injEq] at same
  obtain ⟨slots, committed, standard, crop, history, retire, record, motion⟩ := same
  have slot (i : SlotNo) : slotOf d i = slotOf c i := by rw [slotOf, slots]; rfl
  have held (e : HistoryEntry) : entryHeld d e ↔ entryHeld c e := by simp only [entryHeld, slot]
  obtain ⟨h1, h2, h3, h4, h5, h6, h7, h8, h9, h10, h11, h12, h13, h14⟩ := h
  constructor <;> simp only [slot, held, isComplete, committed, standard, crop, history, retire, record, motion]
  all_goals assumption

/-- What the law of one channel reads. -/
def ringView (c : Channel) := (ringParts c, c.int.openSlot, c.cad)

theorem RingKept.congr {c d : Channel} (h : RingKept c) (same : ringView d = ringView c) : RingKept d := by
  have parts : ringParts d = ringParts c := congrArg (·.1) same
  have opened : d.int.openSlot = c.int.openSlot := congrArg (·.2.1) same
  have cad : d.cad = c.cad := congrArg (·.2.2) same
  have slots : d.int.slots = c.int.slots := congrArg (·.1) parts
  refine ⟨opened ▸ h.held.congr parts, fun i => ?_⟩
  rw [slotOf, slots, cad]
  exact h.partnered i

theorem RingHeld.kept {c : Channel} (h : RingHeld none c) (closed : c.int.openSlot = none) : RingKept c :=
  ⟨closed ▸ h, fun i filling => nomatch (h.filling i).mpr filling⟩

/-! ## What the law says of a slot -/

section held
variable {o : Option SlotNo} {c : Channel} (h : RingHeld o c) {i : SlotNo}
include h

theorem RingHeld.uncommitted (s : (slotOf c i).state ≠ .finishing) (t : (slotOf c i).state ≠ .complete) :
    (slotOf c i).committed = none := by
  obtain ⟨-, -, -, -, committed, -⟩ := h.slots i
  simpa [s, t] using committed

theorem RingHeld.unfinished (s : (slotOf c i).state ≠ .finishing) : (slotOf c i).finish = none := by
  obtain ⟨-, -, -, finish, -⟩ := h.slots i
  simpa [s] using finish

theorem RingHeld.tableless (s : (slotOf c i).state ≠ .complete) : (slotOf c i).table = none := by
  obtain ⟨-, -, -, -, -, table⟩ := h.slots i
  exact Option.not_isSome_iff_eq_none.mp (mt table s)

theorem RingHeld.gathering (g : Gathers (slotOf c i)) : (slotOf c i).committed = none ∧ (slotOf c i).finish = none
    ∧ (slotOf c i).table = none ∧ (slotOf c i).raws ≠ [] ∧ (slotOf c i).raws.length ≤ 2 := by
  have state (s : SlotState) (other : s ≠ .filling ∧ s ≠ .pairing) : (slotOf c i).state ≠ s := fun e => by
    rw [Gathers, e] at g
    exact g.elim other.1 other.2
  obtain ⟨-, raws, -⟩ := h.slots i
  exact ⟨h.uncommitted (state _ (by decide)) (state _ (by decide)), h.unfinished (state _ (by decide)),
    h.tableless (state _ (by decide)), raws (state _ (by decide))⟩

theorem RingHeld.standard (held : (slotOf c i).state ≠ .free) : c.int.standard ≠ 0 := fun zero => held (h.vacant zero i)

theorem RingHeld.committed_of_complete (complete : (slotOf c i).state = .complete) : i ∈ c.int.committed := by
  obtain ⟨-, -, -, -, committed, -⟩ := h.slots i
  exact (h.listed i).mpr (committed.mpr (.inr complete))

end held

/-! ## Freeing (05/R74, R86 to R88) -/

/-- A slot that carries no mark is named by no reference that the law keeps. -/
theorem unreferenced {c : Channel} {i : SlotNo} (h : referenced c i = false) :
    (∀ r ∈ c.ren.record, r.state ≠ .done → r.a ≠ i ∧ r.b ≠ some i) ∧ (∀ j ∈ c.meu.job, j.pair.a ≠ i ∧ j.pair.b ≠ i)
      ∧ (∀ e ∈ c.int.history, e.slot ≠ i) ∧ ∀ j, ∀ e ∈ finishEntries (slotOf c j).finish, e.slot ≠ i := by
  simp only [referenced, Bool.or_eq_false_iff] at h
  obtain ⟨⟨⟨render, motion⟩, history⟩, finish⟩ := h
  refine ⟨fun r hr busy => ?_, fun j hj => ?_, fun e he => ?_, fun j e he => ?_⟩
  · rw [renderMark, Option.mem_def.mp hr] at render
    simpa [busy] using render
  · rw [motionMark, Option.mem_def.mp hj] at motion
    simpa using motion
  · simpa using List.any_eq_false.mp history e he
  · have mark := List.any_eq_false.mp finish j (List.mem_finRange j)
    simp only [decide_eq_true_eq] at mark
    intro named
    refine mark ?_
    unfold finishEntries at he
    unfold finishReads
    split at he
    · exact List.mem_map.mpr ⟨e, he, named⟩
    · cases he

theorem slotOf_freeSlot (c : Channel) (i j : SlotNo) :
    slotOf (freeSlot i c) j = if j = i then .empty else slotOf c j := Bank.get_set ..

theorem RingHeld.freed {o : Option SlotNo} {c : Channel} (h : RingHeld o c) {i : SlotNo}
    (unmarked : referenced c i = false) (done : (slotOf c i).state = .complete ∨ (slotOf c i).state = .history)
    (other : c.int.retireRef ≠ some i) : RingHeld o (freeSlot i c) := by
  obtain ⟨render, job, history, finish⟩ := unreferenced unmarked
  have there {j : SlotNo} (ne : j ≠ i) : slotOf (freeSlot i c) j = slotOf c j := by rw [slotOf_freeSlot, if_neg ne]
  have slot {P : Slot → Prop} (j : SlotNo) (empty : P .empty) (held : P (slotOf c j)) : P (slotOf (freeSlot i c) j) := by
    rw [slotOf_freeSlot]
    split
    · exact empty
    · exact held
  have entry {e : HistoryEntry} (ne : e.slot ≠ i) (held : entryHeld c e) : entryHeld (freeSlot i c) e := by
    rw [entryHeld, there ne]
    exact held
  have keeps {j : SlotNo} (ne : j ≠ i) (mem : j ∈ c.int.committed) : j ∈ (freeSlot i c).int.committed :=
    List.mem_filter.mpr ⟨mem, decide_eq_true ne⟩
  have gathers {j : SlotNo} (g : Gathers (slotOf (freeSlot i c) j)) : Gathers (slotOf c j) := by
    rw [slotOf_freeSlot] at g
    split at g
    · exact absurd g (by decide)
    · exact g
  exact {
    slots := fun j => slot (P := slotLaw) j (by decide) (h.slots j)
    filling := fun j => by
      rw [h.filling, slotOf_freeSlot]
      split
      · next here =>
        subst here
        rcases done with e | e <;> rw [e] <;> decide
      · rfl
    alone := fun j l gj gl => h.alone j l (gathers gj) (gathers gl)
    distinct := h.distinct.filter _
    listed := fun j => by
      rw [slotOf_freeSlot]
      refine List.mem_filter.trans ?_
      split
      · next here => simp [here, Slot.empty]
      · next there => rw [h.listed]; simp [there]
    cropped := h.cropped
    vacant := fun zero j => slot (P := (·.state = .free)) j rfl (h.vacant zero j)
    short := h.short
    history := fun e he => entry (history e he) (h.history e he)
    finish := fun j e he => by
      have was : e ∈ finishEntries (slotOf c j).finish := by
        rw [slotOf_freeSlot] at he
        split at he
        · cases he
        · exact he
      exact entry (finish j e was) (h.finish j e was)
    retire := fun r hr => keeps (fun same => other (same ▸ hr)) (h.retire r hr)
    render := fun r hr busy => by
      obtain ⟨a, b⟩ := h.render r hr busy
      obtain ⟨na, nb⟩ := render r hr busy
      exact ⟨keeps na a, fun l hl => keeps (fun same => nb (same ▸ hl)) (b l hl)⟩
    job := fun j hj => by
      obtain ⟨na, nb⟩ := job j hj
      rw [isComplete, isComplete, there na, there nb]
      exact h.job j hj
    pairs := fun q hq => by
      obtain ⟨mem, named⟩ := List.mem_filter.mp hq
      obtain ⟨a, b⟩ := h.pairs q mem
      simp only [Bool.not_eq_true', Bool.or_eq_false_iff, decide_eq_false_iff_not] at named
      exact ⟨keeps named.2 a, keeps named.1 b⟩ }

theorem retirable_iff {c : Channel} {i : SlotNo} : retirable c i = true ↔ ∃ r tr t, c.int.retireRef = some r
    ∧ (slotOf c r).committed = some tr ∧ (slotOf c i).committed = some t ∧ (slotOf c i).state = .complete
    ∧ later tr t = true ∧ referenced c i = false := by
  unfold retirable
  cases retire : c.int.retireRef with
  | none => simp
  | some r =>
    cases reference : (slotOf c r).committed <;> cases own : (slotOf c i).committed <;>
      simp [reference, own, and_assoc]

/-- The reference itself is not retired: it is not later than itself (05/R87). -/
theorem retirable_not_reference {c : Channel} {i : SlotNo} (h : retirable c i = true) : c.int.retireRef ≠ some i := by
  obtain ⟨r, tr, t, retire, reference, own, -, later, -⟩ := retirable_iff.mp h
  intro same
  obtain rfl := Option.some.inj (retire.symm.trans same)
  obtain rfl := Option.some.inj (reference.symm.trans own)
  simp [Machine.later] at later

theorem RingHeld.retireOne {o : Option SlotNo} {c : Channel} (h : RingHeld o c) (i : SlotNo) :
    RingHeld o (retireOne c i) := by
  unfold Machine.retireOne
  split
  · next ripe =>
    obtain ⟨-, -, -, -, -, -, complete, -, unmarked⟩ := retirable_iff.mp ripe
    exact h.freed unmarked (.inl complete) (retirable_not_reference ripe)
  · exact h

theorem RingHeld.freeHistoryOne {o : Option SlotNo} {c : Channel} (h : RingHeld o c) (i : SlotNo) :
    RingHeld o (freeHistoryOne c i) := by
  unfold Machine.freeHistoryOne
  split
  · next kept =>
    obtain ⟨state, unmarked⟩ := kept
    refine h.freed (by simpa using unmarked) (.inr state) fun reference => ?_
    have committed := (h.listed i).mp (h.retire i reference)
    rw [h.uncommitted (by rw [state]; decide) (by rw [state]; decide)] at committed
    cases committed
  · exact h

theorem RingHeld.foldl {α : Type} {f : Channel → α → Channel} {o : Option SlotNo}
    (one : ∀ c a, RingHeld o c → RingHeld o (f c a)) (xs : List α) {c : Channel} (h : RingHeld o c) :
    RingHeld o (xs.foldl f c) := by
  induction xs generalizing c with
  | nil => exact h
  | cons x xs ih => exact ih (one c x h)

/-- Work on the ring frees only what carries no mark (05/R86 to R88). -/
theorem RingHeld.sweep {o : Option SlotNo} {c : Channel} (h : RingHeld o c) : RingHeld o (sweep c) :=
  RingHeld.foldl (fun _ i held => held.freeHistoryOne i) _ (RingHeld.foldl (fun _ i held => held.retireOne i) _ h)

theorem RingWork.partnered {c d : Channel} (work : RingWork c d) (h : Partnered c) : Partnered d := by
  have cad : d.cad = c.cad := by rw [work.frame]
  intro i
  rw [cad]
  rcases work.slots i with ⟨same, -⟩ | ⟨empty, -⟩
  · rw [same]; exact h i
  · rw [empty]; exact nofun

theorem RingWork.openSlot {c d : Channel} (work : RingWork c d) : d.int.openSlot = c.int.openSlot := by rw [work.frame]
theorem RingWork.cad {c d : Channel} (work : RingWork c d) : d.cad = c.cad := by rw [work.frame]
theorem RingWork.standard {c d : Channel} (work : RingWork c d) : d.int.standard = c.int.standard := by rw [work.frame]

theorem RingWork.kept {c d : Channel} (work : RingWork c d) (h : Partnered c) (held : RingHeld c.int.openSlot d) :
    RingKept d where
  held := by rwa [work.openSlot]
  partnered := work.partnered h

theorem RingKept.sweep {c : Channel} (h : RingKept c) : RingKept (sweep c) :=
  (sweep_ringWork c).kept h.partnered h.held.sweep

/-! ## A slot changes -/

/-- A channel with one slot's new contents, and its committed list. -/
def withSlot (i : SlotNo) (x : Slot) (l : List SlotNo) (c : Channel) : Channel :=
  { c with int := { c.int with slots := c.int.slots.set i x, committed := l } }

theorem slotOf_withSlot (i j : SlotNo) (x : Slot) (l : List SlotNo) (c : Channel) :
    slotOf (withSlot i x l c) j = if j = i then x else slotOf c j := Bank.get_set ..

/-- The raw pictures that references of a slot may name are still there once it holds `y`. -/
def KeepsEntries (x y : Slot) : Prop :=
  ∀ n, x.state ≠ .free → n < x.raws.length → (x.state = .filling → n + 1 < x.raws.length) →
    y.state ≠ .free ∧ n < y.raws.length ∧ (y.state = .filling → n + 1 < y.raws.length)

/-- An uncommitted slot takes new contents, and is listed where they are committed: every change of a slot by the intake
but those of its finish and its end. -/
theorem RingHeld.replaced {o : Option SlotNo} {c : Channel} (h : RingHeld o c) {i : SlotNo} {x : Slot} {l : List SlotNo}
    (standard : c.int.standard ≠ 0) (before : (slotOf c i).committed = none) (only : o = none ∨ o = some i)
    (law : slotLaw x) (keeps : KeepsEntries (slotOf c i) x) (finish : ∀ e ∈ finishEntries x.finish, entryHeld c e)
    (alone : Gathers x → ∀ j, j ≠ i → ¬ Gathers (slotOf c j))
    (list : x.committed = none ∧ l = c.int.committed ∨ x.committed.isSome ∧ l = c.int.committed ++ [i]) :
    RingHeld (if x.state = .filling then some i else none) (withSlot i x l c) := by
  have here : slotOf (withSlot i x l c) i = x := by rw [slotOf_withSlot, if_pos rfl]
  have there {j : SlotNo} (ne : j ≠ i) : slotOf (withSlot i x l c) j = slotOf c j := by
    rw [slotOf_withSlot, if_neg ne]
  have absent : i ∉ c.int.committed := by rw [h.listed, before]; decide
  have grows {j : SlotNo} (mem : j ∈ c.int.committed) : j ∈ l := by
    rcases list with ⟨-, rfl⟩ | ⟨-, rfl⟩
    · exact mem
    · exact List.mem_append_left _ mem
  have entry {e : HistoryEntry} (held : entryHeld c e) : entryHeld (withSlot i x l c) e := by
    obtain ⟨used, index, first⟩ := held
    by_cases e' : e.slot = i
    · rw [entryHeld, e', here]
      rw [e'] at used index first
      exact keeps _ used index first
    · rw [entryHeld, there e']
      exact ⟨used, index, first⟩
  have complete {j : SlotNo} (held : isComplete c j = true) : isComplete (withSlot i x l c) j = true := by
    have ne : j ≠ i := fun e => by
      rw [isComplete, e, decide_eq_true_eq] at held
      exact absent (h.committed_of_complete held)
    rw [isComplete, there ne]
    exact held
  exact {
    slots := fun j => by
      by_cases e : j = i
      · rw [e, here]; exact law
      · rw [there e]; exact h.slots j
    filling := fun j => by
      by_cases e : j = i
      · rw [e, here]; simp
      · have rest : (slotOf c j).state ≠ .filling := fun f => by
          rcases only with closed | own
          · exact nomatch closed.symm.trans ((h.filling j).mpr f)
          · exact e (Option.some.inj (((h.filling j).mpr f).symm.trans own))
        rw [there e]
        simp [rest, Ne.symm e]
    alone := fun j m gj gm => by
      by_cases ej : j = i <;> by_cases em : m = i
      · rw [ej, em]
      · rw [ej, here] at gj
        rw [there em] at gm
        exact absurd gm (alone gj m em)
      · rw [em, here] at gm
        rw [there ej] at gj
        exact absurd gj (alone gm j ej)
      · rw [there ej] at gj
        rw [there em] at gm
        exact h.alone j m gj gm
    distinct := by
      rcases list with ⟨-, rfl⟩ | ⟨-, rfl⟩
      · exact h.distinct
      · exact List.nodup_append.mpr ⟨h.distinct, List.nodup_singleton i, fun a ha b hb e => by
          rw [List.mem_singleton.mp hb] at e
          exact absent (e ▸ ha)⟩
    listed := fun j => by
      show j ∈ l ↔ _
      by_cases e : j = i
      · rw [e, here]
        rcases list with ⟨none, rfl⟩ | ⟨some, rfl⟩
        · simp [absent, none]
        · simp [some]
      · rw [there e, ← h.listed]
        rcases list with ⟨-, rfl⟩ | ⟨-, rfl⟩
        · rfl
        · simp [e]
    cropped := h.cropped
    vacant := fun zero => absurd zero standard
    short := h.short
    history := fun e he => entry (h.history e he)
    finish := fun j e he => by
      by_cases ej : j = i
      · rw [ej, here] at he
        exact entry (finish e he)
      · rw [there ej] at he
        exact entry (h.finish j e he)
    retire := fun r hr => grows (h.retire r hr)
    render := fun r hr busy => ⟨grows (h.render r hr busy).1, fun b hb => grows ((h.render r hr busy).2 b hb)⟩
    job := fun j hj => ⟨complete (h.job j hj).1, complete (h.job j hj).2⟩
    pairs := fun q hq => ⟨grows (h.pairs q hq).1, grows (h.pairs q hq).2⟩ }

/-- The slot that gathers a picture takes new contents. -/
theorem RingHeld.gathered {o : Option SlotNo} {c : Channel} (h : RingHeld o c) {i : SlotNo} {x : Slot} {l : List SlotNo}
    (gathers : Gathers (slotOf c i)) (law : slotLaw x) (keeps : KeepsEntries (slotOf c i) x)
    (finish : ∀ e ∈ finishEntries x.finish, entryHeld c e)
    (list : x.committed = none ∧ l = c.int.committed ∨ x.committed.isSome ∧ l = c.int.committed ++ [i]) :
    RingHeld (if x.state = .filling then some i else none) (withSlot i x l c) := by
  have only : o = none ∨ o = some i := by
    cases o with
    | none => exact .inl rfl
    | some j => exact .inr (congrArg some (h.alone j i (.inl ((h.filling j).mp rfl)) gathers))
  have held : (slotOf c i).state ≠ .free := fun e => by rw [Gathers, e] at gathers; exact absurd gathers (by decide)
  exact h.replaced (h.standard held) (h.gathering gathers).1 only law keeps finish
    (fun _ j ne g => ne (h.alone j i g gathers)) list

/-- A committed slot that is or becomes COMPLETE keeps its raw pictures and its stamp. -/
theorem RingHeld.completed {o : Option SlotNo} {c : Channel} (h : RingHeld o c) {i : SlotNo} {x : Slot}
    (before : (slotOf c i).state = .finishing ∨ (slotOf c i).state = .complete) (complete : x.state = .complete)
    (raws : x.raws = (slotOf c i).raws) (stamp : x.committed = (slotOf c i).committed) (finish : x.finish = none) :
    RingHeld o (withSlot i x c.int.committed c) := by
  have here : slotOf (withSlot i x c.int.committed c) i = x := by rw [slotOf_withSlot, if_pos rfl]
  have there {j : SlotNo} (ne : j ≠ i) : slotOf (withSlot i x c.int.committed c) j = slotOf c j := by
    rw [slotOf_withSlot, if_neg ne]
  have state (s : SlotState) (other : s ≠ .finishing ∧ s ≠ .complete) : (slotOf c i).state ≠ s := fun e => by
    rw [e] at before
    exact before.elim other.1 other.2
  obtain ⟨-, filled, -, -, committed, -⟩ := h.slots i
  have still {j : SlotNo} (g : Gathers (slotOf (withSlot i x c.int.committed c) j)) : Gathers (slotOf c j) := by
    by_cases e : j = i
    · rw [e, here, Gathers, complete] at g
      exact absurd g (by decide)
    · rwa [there e] at g
  have entry {e : HistoryEntry} (held : entryHeld c e) : entryHeld (withSlot i x c.int.committed c) e := by
    by_cases e' : e.slot = i
    · have index := held.2.1
      rw [e'] at index
      rw [entryHeld, e', here, complete, raws]
      exact ⟨nofun, index, nofun⟩
    · rw [entryHeld, there e']
      exact held
  have done {j : SlotNo} (held : isComplete c j = true) : isComplete (withSlot i x c.int.committed c) j = true := by
    by_cases e : j = i
    · rw [isComplete, e, here]; exact decide_eq_true complete
    · rw [isComplete, there e]; exact held
  exact {
    slots := fun j => by
      by_cases e : j = i
      · rw [e, here]
        simp only [slotLaw, complete, raws, stamp, finish]
        exact ⟨nofun, fun _ => filled (state _ (by decide)), nofun, by decide, by simp [committed, before], fun _ => trivial⟩
      · rw [there e]; exact h.slots j
    filling := fun j => by
      by_cases e : j = i
      · rw [h.filling, e, here, complete]
        exact ⟨fun f => absurd f (state _ (by decide)), nofun⟩
      · rw [there e]; exact h.filling j
    alone := fun j m gj gm => h.alone j m (still gj) (still gm)
    distinct := h.distinct
    listed := fun j => by
      by_cases e : j = i
      · rw [e, here, stamp]; exact h.listed i
      · rw [there e]; exact h.listed j
    cropped := h.cropped
    vacant := fun zero => absurd zero (h.standard (state _ (by decide)))
    short := h.short
    history := fun e he => entry (h.history e he)
    finish := fun j e he => by
      by_cases ej : j = i
      · rw [ej, here, finish] at he
        cases he
      · rw [there ej] at he
        exact entry (h.finish j e he)
    retire := h.retire
    render := h.render
    job := fun j hj => ⟨done (h.job j hj).1, done (h.job j hj).2⟩
    pairs := h.pairs }

/-! ## References told anew -/

theorem RingHeld.retireAt {o : Option SlotNo} {c : Channel} (h : RingHeld o c) {i : SlotNo} (mem : i ∈ c.int.committed) :
    RingHeld o { c with int := { c.int with retireRef := some i } } := by
  obtain ⟨h1, h2, h3, h4, h5, h6, h7, h8, h9, h10, -, h12, h13, h14⟩ := h
  exact ⟨h1, h2, h3, h4, h5, h6, h7, h8, h9, h10, fun r hr => Option.some.inj hr ▸ mem, h12, h13, h14⟩

theorem RingHeld.rendering {o : Option SlotNo} {c : Channel} (h : RingHeld o c) {x : Option RenderRecord}
    (read : ∀ r ∈ x, r.state ≠ .done → r.a ∈ c.int.committed ∧ ∀ b ∈ r.b, b ∈ c.int.committed) :
    RingHeld o (withRecord x c) := by
  obtain ⟨h1, h2, h3, h4, h5, h6, h7, h8, h9, h10, h11, -, h13, h14⟩ := h
  exact ⟨h1, h2, h3, h4, h5, h6, h7, h8, h9, h10, h11, read, h13, h14⟩

theorem RingHeld.estimating {o : Option SlotNo} {c : Channel} (h : RingHeld o c) {m : Motion}
    (job : ∀ j ∈ m.job, isComplete c j.pair.a = true ∧ isComplete c j.pair.b = true)
    (pairs : ∀ q ∈ m.pending, q.a ∈ c.int.committed ∧ q.b ∈ c.int.committed) : RingHeld o { c with meu := m } := by
  obtain ⟨h1, h2, h3, h4, h5, h6, h7, h8, h9, h10, h11, h12, -, -⟩ := h
  exact ⟨h1, h2, h3, h4, h5, h6, h7, h8, h9, h10, h11, h12, job, pairs⟩

end Sys2Proof.Machine
end

section
/-! What the intake's own work leaves of a ring: commits, closes, abandoned pairings and openings (05/R73 to R81). -/

namespace Sys2Proof.Machine

/-! ## What a sweep keeps (05/R86 to R88) -/

/-- A slot stays through a sweep under what makes it neither retirable nor a HISTORY slot to free, and no freeing ends. -/
theorem sweep_keeps {c : Channel} {i : SlotNo} (Q : Channel → Prop) (start : Q c) (freed : ∀ d j, Q d → Q (freeSlot j d))
    (stays : ∀ d, Q d → slotOf d i = slotOf c i →
      retirable d i = false ∧ ¬ ((slotOf d i).state = .history ∧ referenced d i = false)) :
    slotOf (sweep c) i = slotOf c i := by
  have free {d : Channel} {j : SlotNo} (h : Q d ∧ slotOf d i = slotOf c i) (other : i ≠ j) :
      Q (freeSlot j d) ∧ slotOf (freeSlot j d) i = slotOf c i :=
    ⟨freed d j h.1, by rw [slotOf_freeSlot, if_neg other, h.2]⟩
  have retire (d : Channel) (j : SlotNo) (h : Q d ∧ slotOf d i = slotOf c i) :
      Q (retireOne d j) ∧ slotOf (retireOne d j) i = slotOf c i := by
    unfold retireOne
    split
    · next ripe => exact free h fun same => by rw [← same, (stays d h.1 h.2).1] at ripe; cases ripe
    · exact h
  have history (d : Channel) (j : SlotNo) (h : Q d ∧ slotOf d i = slotOf c i) :
      Q (freeHistoryOne d j) ∧ slotOf (freeHistoryOne d j) i = slotOf c i := by
    unfold freeHistoryOne
    split
    · next kept => exact free h fun same => (stays d h.1 h.2).2 (by rw [same]; simpa using kept)
    · exact h
  have fold {α : Type} {f : Channel → α → Channel}
      (one : ∀ d a, Q d ∧ slotOf d i = slotOf c i → Q (f d a) ∧ slotOf (f d a) i = slotOf c i) (xs : List α) {d : Channel}
      (h : Q d ∧ slotOf d i = slotOf c i) : Q (xs.foldl f d) ∧ slotOf (xs.foldl f d) i = slotOf c i := by
    induction xs generalizing d with
    | nil => exact h
    | cons x xs ih => exact ih (one d x h)
  exact (fold history slotNumbers (fold retire c.int.committed ⟨start, rfl⟩)).2

theorem sweep_keeps_reference {c : Channel} {i : SlotNo} (reference : c.int.retireRef = some i)
    (committed : (slotOf c i).state ≠ .history) : slotOf (sweep c) i = slotOf c i := by
  refine sweep_keeps (·.int.retireRef = some i) reference (fun _ _ => id) fun d same slot => ⟨?_, ?_⟩
  · exact Bool.eq_false_iff.mpr fun ripe => retirable_not_reference ripe same
  · rw [slot]
    exact fun h => committed h.1

theorem sweep_keeps_history {c : Channel} {i : SlotNo} (mark : historyMark c i = true) :
    slotOf (sweep c) i = slotOf c i := by
  refine sweep_keeps (historyMark · i = true) mark (fun _ _ => id) fun d marked _ => ?_
  have held : referenced d i = true := by simp [referenced, marked]
  simp [retirable_iff, Bool.eq_false_iff, held]

/-! ## Commits (05/R80) -/

theorem weigh_parts (c : Channel) (a b : SlotNo) (r : Time) : ringParts (weigh c a b r).2 = ringParts c := by
  unfold weigh
  split <;> rfl

section held
variable {o : Option SlotNo} {c : Channel} (h : RingHeld o c) {i : SlotNo}
include h

theorem RingHeld.pairUp (mem : i ∈ c.int.committed) {before : List SlotNo} (was : ∀ j ∈ before, j ∈ c.int.committed) :
    RingHeld o (pairUp before i c) := by
  unfold Machine.pairUp
  split
  · next a last =>
    refine h.estimating h.job fun q hq => ?_
    rcases List.mem_append.mp hq with mem' | new
    · exact h.pairs q mem'
    · rw [List.mem_singleton.mp new]
      exact ⟨was a (List.mem_of_getLast? last), mem⟩
  · exact h.congr rfl

theorem RingHeld.noteCommit (mem : i ∈ c.int.committed) : RingHeld o (noteCommit i c) := by
  unfold Machine.noteCommit
  split
  · next r record =>
    split
    · next waits =>
      obtain ⟨waiting, awaits⟩ := waits
      have reads := h.render r record (by rw [waiting]; decide)
      split
      · refine RingHeld.sweep (RingHeld.retireAt (c := withRecord (some { r with a := i }) c) (h.rendering ?_) mem)
        exact fun x hx _ => by cases hx; exact ⟨mem, reads.2⟩
      · have weighed := h.congr (weigh_parts c r.a i r.point)
        have listed : (weigh c r.a i r.point).2.int.committed = c.int.committed := congrArg (·.2.1) (weigh_parts ..)
        refine weighed.rendering fun x hx _ => ?_
        cases hx
        rw [listed]
        exact ⟨reads.1, fun b hb => Option.some.inj hb ▸ mem⟩
    · exact h
  · exact h

end held

theorem slotOf_noteCommit {c : Channel} {i : SlotNo} (held : (slotOf c i).state ≠ .history) :
    slotOf (noteCommit i c) i = slotOf c i := by
  unfold noteCommit
  split
  · split
    · split
      · exact sweep_keeps_reference rfl held
      · next r _ _ _ =>
        have slots : (weigh c r.a i r.point).2.int.slots = c.int.slots := congrArg (·.1) (weigh_parts ..)
        show (weigh c r.a i r.point).2.int.slots.get i = _
        rw [slots]
        rfl
    · rfl
  · rfl

theorem slotOf_pairUp (before : List SlotNo) (b : SlotNo) (c : Channel) (i : SlotNo) :
    slotOf (pairUp before b c) i = slotOf c i := by
  unfold pairUp
  split <;> rfl

/-- Whether a commit is refused: its stamp is not later than the last (05/R80). -/
def refuses (c : Channel) (stamp : Time) : Bool := c.int.lastCommitted.any fun t => !later stamp t

theorem commit_eq (env : Env) (i : SlotNo) (stamp : Time) (plan : Option Finish) (c : Channel) :
    commit env i stamp plan c = if refuses c stamp then count (onSlot i (fun x => { x with state := .history }) c) .stampOrder
      else noteCommit i (pairUp c.int.committed i (committing env i stamp plan c)) := rfl

/-- A slot that has been closed: kept, and receiving lines no more. -/
structure Settled (x y : Slot) : Prop where
  raws : y.raws = x.raws
  kept : y.state ≠ .free
  still : y.state ≠ .filling

theorem slotOf_committing (env : Env) (i : SlotNo) (stamp : Time) (plan : Option Finish) (c : Channel) (j : SlotNo) :
    slotOf (committing env i stamp plan c) j = if j = i then committedSlot stamp plan (slotOf c i) else slotOf c j :=
  Bank.get_modify ..

theorem committedSlot_state (stamp : Time) (plan : Option Finish) (x : Slot) :
    (committedSlot stamp plan x).state = .complete ∨ (committedSlot stamp plan x).state = .finishing := by
  unfold committedSlot
  split
  · exact .inl rfl
  · exact .inr rfl

/-- The slot of a commit, taken or refused. -/
theorem slotOf_commit (env : Env) (i : SlotNo) (stamp : Time) (plan : Option Finish) (c : Channel) :
    slotOf (commit env i stamp plan c) i
      = if refuses c stamp then { slotOf c i with state := .history } else committedSlot stamp plan (slotOf c i) := by
  rw [commit_eq]
  split
  · exact Bank.get_modify_same ..
  · have slot : slotOf (pairUp c.int.committed i (committing env i stamp plan c)) i = committedSlot stamp plan (slotOf c i) := by
      rw [slotOf_pairUp, slotOf_committing, if_pos rfl]
    rw [slotOf_noteCommit, slot]
    rw [slot]
    rcases committedSlot_state stamp plan (slotOf c i) with e | e <;> rw [e] <;> decide

theorem commit_settled (env : Env) (i : SlotNo) (stamp : Time) (plan : Option Finish) (c : Channel) :
    Settled (slotOf c i) (slotOf (commit env i stamp plan c) i) := by
  rw [slotOf_commit]
  split
  · exact ⟨rfl, nofun, nofun⟩
  · rcases committedSlot_state stamp plan (slotOf c i) with e | e <;> exact ⟨rfl, by rw [e]; decide, by rw [e]; decide⟩

/-- No slot gathers a picture. -/
def Idle (c : Channel) : Prop := ∀ i, ¬ Gathers (slotOf c i)

theorem RingWork.idle {c d : Channel} (work : RingWork c d) (h : Idle c) : Idle d := by
  intro i
  rcases work.slots i with ⟨same, -⟩ | ⟨empty, -⟩
  · rw [same]; exact h i
  · rw [empty]; decide

theorem not_gathers {x : Slot} {s : SlotState} (state : x.state = s) (other : s ≠ .filling ∧ s ≠ .pairing) : ¬ Gathers x := by
  rw [Gathers, state]
  exact fun e => e.elim other.1 other.2

section held
variable {o : Option SlotNo} {c : Channel} (h : RingHeld o c) {i : SlotNo} (gathers : Gathers (slotOf c i))
include h gathers

theorem RingHeld.others (j : SlotNo) (ne : j ≠ i) : ¬ Gathers (slotOf c j) := fun g => ne (h.alone j i g gathers)

theorem RingHeld.history_slot : RingHeld none (onSlot i (fun x => { x with state := .history }) c) := by
  obtain ⟨committed, finish, table, raws, two⟩ := h.gathering gathers
  refine h.gathered (x := { slotOf c i with state := .history }) (l := c.int.committed) gathers ?_ ?_ ?_ (.inl ⟨committed, rfl⟩)
  · simp [slotLaw, committed, finish, table, raws, two]
  · exact fun n _ index _ => ⟨nofun, index, nofun⟩
  · simp [finish, finishEntries]

theorem RingHeld.committing {plan : Option Finish} (reads : ∀ e ∈ finishEntries plan, entryHeld c e) (env : Env)
    (stamp : Time) : RingHeld none (committing env i stamp plan c) := by
  obtain ⟨-, -, table, raws, two⟩ := h.gathering gathers
  have state := committedSlot_state stamp plan (slotOf c i)
  have held := h.gathered (x := committedSlot stamp plan (slotOf c i)) (l := c.int.committed ++ [i]) gathers
    (by cases plan <;> simp [slotLaw, committedSlot, table, raws, two])
    (fun n _ index _ => ⟨by rcases state with e | e <;> rw [e] <;> decide, index,
      fun f => by rcases state with e | e <;> rw [e] at f <;> cases f⟩)
    reads (.inr ⟨rfl, rfl⟩)
  rw [if_neg (by rcases state with e | e <;> rw [e] <;> decide)] at held
  exact held.congr rfl

theorem RingHeld.commit {plan : Option Finish} (reads : ∀ e ∈ finishEntries plan, entryHeld c e) (env : Env)
    (stamp : Time) : RingHeld none (commit env i stamp plan c) := by
  rw [commit_eq]
  split
  · exact (h.history_slot gathers).congr rfl
  · have mem : i ∈ (Machine.committing env i stamp plan c).int.committed :=
      List.mem_append_right _ (List.mem_singleton_self i)
    have listed : (Machine.pairUp c.int.committed i (Machine.committing env i stamp plan c)).int.committed
        = (Machine.committing env i stamp plan c).int.committed := by unfold Machine.pairUp; split <;> rfl
    exact ((h.committing gathers reads env stamp).pairUp mem fun j hj => List.mem_append_left _ hj).noteCommit (listed ▸ mem)

theorem RingHeld.commit_idle (env : Env) (stamp : Time) (plan : Option Finish) : Idle (Machine.commit env i stamp plan c) := by
  have others := h.others gathers
  rw [commit_eq]
  split
  · intro j
    rw [show slotOf (count (onSlot i (fun x => { x with state := .history }) c) .stampOrder) j = _ from Bank.get_modify ..]
    split
    · exact not_gathers (s := .history) rfl (by decide)
    · exact others j ‹_›
  · refine ((pairUp_ringWork ..).trans (noteCommit_ringWork ..)).idle fun j => ?_
    rw [slotOf_committing]
    split
    · rcases committedSlot_state stamp plan (slotOf c i) with e | e <;> exact not_gathers e (by decide)
    · exact others j ‹_›

theorem RingHeld.abandonPairing (env : Env) : RingHeld none (abandonPairing env i c) ∧ Idle (abandonPairing env i c) := by
  obtain ⟨-, -, -, raws, -⟩ := h.gathering gathers
  obtain ⟨w, rest, list⟩ := List.exists_cons_of_ne_nil raws
  rw [abandonPairing_eq (w := w) (by rw [list]; rfl)]
  have counted : RingHeld o (count c .pairAbandoned) := h.congr rfl
  exact ⟨(counted.commit gathers (by simp [finishEntries]) env _).sweep,
    (sweep_ringWork _).idle (counted.commit_idle gathers env _ _)⟩

end held

/-! ## Closing (05/R76 to R81) -/

theorem Settled.trans {x y z : Slot} (h : Settled x y) (g : Settled y z) : Settled x z := ⟨g.raws.trans h.raws, g.kept, g.still⟩

section closing
variable {c : Channel} {i : SlotNo} (h : RingHeld (some i) c)
include h

theorem RingHeld.open_filling : (slotOf c i).state = .filling := (h.filling i).mp rfl

/-- Lines, marks and counts of the slot that receives lines. -/
theorem RingHeld.filled {x : Slot} (state : x.state = .filling) (raws : x.raws.length = (slotOf c i).raws.length)
    (committed : x.committed = none) (finish : x.finish = none) (table : x.table = none) :
    RingHeld (some i) (withSlot i x c.int.committed c) := by
  have filling := h.open_filling
  obtain ⟨-, -, -, filled, two⟩ := h.gathering (.inl filling)
  have held := h.gathered (x := x) (l := c.int.committed) (.inl filling)
    (by simpa [slotLaw, state, committed, finish, table, raws, ← List.length_pos_iff_ne_nil] using
      ⟨List.length_pos_iff_ne_nil.mpr filled, two⟩)
    (fun n _ index first => by rw [raws, state]; exact ⟨nofun, index, fun _ => first filling⟩)
    (by simp [finish, finishEntries]) (.inl ⟨committed, rfl⟩)
  rwa [if_pos state] at held

/-- The plan of a finish reads the entries of the history (05/R83). -/
theorem RingHeld.finishPlan (x : Slot) : ∀ e ∈ finishEntries (finishPlan c x), entryHeld c e := by
  have field {n : Nat} {p : Parity} {sw : BitVec 8} {e : HistoryEntry} (entry : fieldEntry c c.int.history[n]? p sw = some e) :
      e ∈ c.int.history := by
    unfold fieldEntry at entry
    simp only [Option.bind_eq_bind, Option.bind_eq_some_iff] at entry
    obtain ⟨e', named, r, -, same⟩ := entry
    split at same
    · cases same; exact List.mem_of_getElem? named
    · cases same
  intro e mem
  unfold Machine.finishPlan at mem
  split at mem
  · split at mem
    · cases mem
    · unfold deinterlacePlan at mem
      split at mem
      · simp only [finishEntries, List.mem_append, Option.mem_toList] at mem
        rcases mem with m | m <;> exact h.history e (field m)
      · cases mem
  · cases mem

end closing

theorem RingHeld.advanceHistory {d : Channel} {i : SlotNo} {n : Nat} (g : RingHeld none d) (kept : (slotOf d i).state ≠ .free)
    (still : (slotOf d i).state ≠ .filling) (index : n < (slotOf d i).raws.length) :
    RingHeld none (advanceHistory i n d) := by
  obtain ⟨h1, h2, h3, h4, h5, h6, h7, h8, h9, h10, h11, h12, h13, h14⟩ := g
  refine ⟨h1, h2, h3, h4, h5, h6, h7, ?_, fun e he => ?_, h10, h11, h12, h13, h14⟩
  · exact List.length_take_le ..
  · rcases List.mem_cons.mp (List.mem_of_mem_take he) with rfl | old
    · exact ⟨kept, index, fun f => absurd f still⟩
    · exact h9 e old

/-- A second field of a pair is ruled as the second, or by itself (06/R104, R105). -/
theorem rulingAt_second {f : Family} {p : Nat} (second : secondOfPair f p = true) (anchor raw : Time) (pEst : Nat)
    (own : Bool) : rulingAt f p anchor raw pEst own ≠ .pairFirst := by
  rcases (secondOfPair_iff f p).mp second with ⟨rfl, rfl | rfl⟩ | ⟨rfl, rfl⟩ <;> cases own <;> simp [rulingAt]

theorem cadenceStep_placed {d : Cadence} (placed : placesWithPartner d = true) (rf : RepeatFlag) (cf : CombFlag)
    (raw : Time) (pEst : Nat) (own : Bool) : (cadenceStep d rf cf raw pEst own).ruling ≠ .pairFirst := by
  obtain ⟨f, p, mode, next, position⟩ := (placesWithPartner_iff d).mp placed
  have second := (secondOfPair_iff f p).mpr position
  unfold cadenceStep
  rw [mode]
  dsimp only
  unfold lockedStep
  rw [next]
  dsimp only
  split
  · rw [breakRuling, if_pos second]
    exact rulingAt_second second _ _ _ _
  · exact rulingAt_second second _ _ _ _

section closing
variable {c : Channel} {i : SlotNo} (h : RingHeld (some i) c)
include h

theorem RingHeld.actOn (env : Env) {ruling : Ruling} (pairs : ruling = .pairFirst → (slotOf c i).raws.length = 1) :
    RingHeld none (actOn env i ruling c) ∧ Settled (slotOf c i) (slotOf (actOn env i ruling c) i) := by
  have gathers : Gathers (slotOf c i) := .inl h.open_filling
  cases ruling with
  | video stamp => exact ⟨h.commit gathers (h.finishPlan _) env stamp, commit_settled ..⟩
  | pairSecond stamp => exact ⟨h.commit gathers (by simp [finishEntries]) env stamp, commit_settled ..⟩
  | repeated => exact ⟨(h.history_slot gathers).congr rfl, by
      rw [show slotOf (Machine.actOn env i .repeated c) i = _ from Bank.get_modify_same ..]
      exact ⟨rfl, nofun, nofun⟩⟩
  | pairFirst =>
    obtain ⟨committed, finish, table, raws, -⟩ := h.gathering gathers
    have one := pairs rfl
    have held := h.gathered (x := { slotOf c i with state := .pairing }) (l := c.int.committed) gathers
      (by simp [slotLaw, committed, finish, table, raws, one])
      (fun n _ index _ => ⟨nofun, index, nofun⟩) (by simp [finish, finishEntries]) (.inl ⟨committed, rfl⟩)
    refine ⟨held, ?_⟩
    rw [show slotOf (Machine.actOn env i .pairFirst c) i = _ from Bank.get_modify_same ..]
    exact ⟨rfl, nofun, nofun⟩

theorem RingHeld.measure (env : Env) (crop : Rect) (k : RawPicture) : RingHeld (some i) (measure env crop i k c).2.2 := by
  obtain ⟨committed, finish, table, -, -⟩ := h.gathering (.inl h.open_filling)
  exact (h.filled (x := { slotOf c i with raws := (slotOf c i).raws.modify ((slotOf c i).raws.length - 1) fun r => { r with
      flags := some ((Machine.measure env crop i k c).1, (Machine.measure env crop i k c).2.1) } })
    h.open_filling (List.length_modify ..) committed finish table).congr rfl

theorem RingHeld.judge (partnered : Partnered c) (env : Env) (crop : Rect) (k : RawPicture) :
    RingHeld none (judge env crop i k c)
      ∧ (slotOf (judge env crop i k c) i).raws.length = (slotOf c i).raws.length
      ∧ (slotOf (judge env crop i k c) i).state ≠ .free ∧ (slotOf (judge env crop i k c) i).state ≠ .filling := by
  have measured := h.measure env crop k
  have length : (slotOf (Machine.measure env crop i k c).2.2 i).raws.length = (slotOf c i).raws.length := by
    rw [show slotOf (Machine.measure env crop i k c).2.2 i = _ from Bank.get_modify_same ..]
    exact List.length_modify ..
  have placed : placesWithPartner (Machine.measure env crop i k c).2.2.cad = placesWithPartner c.cad := rfl
  unfold Machine.judge
  generalize Machine.measure env crop i k c = m at measured length placed
  obtain ⟨rf, cf, c1⟩ := m
  dsimp only at measured length placed ⊢
  generalize step : cadenceStep c1.cad rf cf k.stamp c1.int.pEst ((slotOf c1 i).raws.length = 1) = st
  have pairs : st.ruling = .pairFirst → (slotOf c1 i).raws.length = 1 := by
    intro first
    obtain ⟨-, -, -, filled, two⟩ := measured.gathering (.inl measured.open_filling)
    by_contra other
    have both : (slotOf c1 i).raws.length = 2 := by have := List.length_pos_iff_ne_nil.mpr filled; omega
    have second := partnered i h.open_filling (length ▸ both)
    exact cadenceStep_placed (placed.trans second) _ _ _ _ _ (step ▸ first)
  have acted {d : Channel} (parts : ringParts d = ringParts c1) :
      RingHeld none (Machine.actOn env i st.ruling d) ∧ Settled (slotOf c1 i) (slotOf (Machine.actOn env i st.ruling d) i) := by
    have slot : slotOf d i = slotOf c1 i := congrArg (fun p => p.1.get i) parts
    rw [← slot]
    exact (measured.congr parts).actOn env (slot ▸ pairs)
  have conclude {d e : Channel} (g : RingHeld none d ∧ Settled (slotOf c1 i) (slotOf d i)) (parts : ringParts e = ringParts d) :
      RingHeld none e ∧ (slotOf e i).raws.length = (slotOf c i).raws.length
        ∧ (slotOf e i).state ≠ .free ∧ (slotOf e i).state ≠ .filling := by
    have slot : slotOf e i = slotOf d i := congrArg (fun p => p.1.get i) parts
    rw [slot, ← length, ← g.2.raws]
    exact ⟨g.1.congr parts, rfl, g.2.kept, g.2.still⟩
  have locked : ringParts (if st.lockedNow = true then countFlag { c1 with cad := st.cad } .cadenceLocks .cadenceChange
      else { c1 with cad := st.cad }) = ringParts c1 := by split <;> rfl
  have broken (d : Channel) (x : Cadence) : ringParts { (if st.broke = true then
      countFlag { d with cad := endLock d.cad } .cadenceBreaks .cadenceChange else d) with cad := x } = ringParts d := by
    split <;> rfl
  exact conclude (acted locked) (broken _ _)

theorem RingHeld.closeEmpty (env : Env) (k : RawPicture) : RingHeld none (closeEmpty env i k c) := by
  have gathers : Gathers (slotOf c i) := .inl h.open_filling
  obtain ⟨committed, finish, table, filled, two⟩ := h.gathering gathers
  have counted : RingHeld (some i) (count c .emptyPicture) := h.congr rfl
  unfold Machine.closeEmpty
  dsimp only
  split
  · next first second rest raws =>
    have held := counted.gathered (x := { slotOf c i with raws := [first], state := .pairing }) (l := c.int.committed) gathers
      (by simp [slotLaw, committed, finish, table])
      (fun n _ index one => by
        have room : n + 1 < (slotOf c i).raws.length := one h.open_filling
        exact ⟨nofun, by rw [List.length_singleton]; omega, nofun⟩)
      (by simp [finish, finishEntries]) (.inl ⟨committed, rfl⟩)
    refine (RingHeld.abandonPairing held ?_ env).1.congr rfl
    rw [slotOf_withSlot, if_pos rfl]
    exact .inr rfl
  · next short =>
    have one : (slotOf c i).raws.length < 2 := by
      by_contra long
      match list : (slotOf c i).raws with
      | [] => exact filled list
      | [_] => rw [list] at long; exact long (Nat.lt_succ_self 1)
      | first :: second :: rest => exact short first second rest list
    refine (counted.gathered (x := Slot.empty) (l := c.int.committed) gathers (by decide)
      (fun n _ index first => ?_) (by simp [Slot.empty, finishEntries]) (.inl ⟨rfl, rfl⟩)).congr rfl
    have room : n + 1 < (slotOf c i).raws.length := first h.open_filling
    omega

end closing

end Sys2Proof.Machine
end

section
/-! What the rest of the intake leaves of a ring: closes, openings, admissions, flushes, standards and switches (04/R64,
R65, 05/R71 to R77, R89). -/

namespace Sys2Proof.Machine

/-! ## Closing (05/R76, R77) -/

/-- The channel whose open picture is being closed. -/
def shut (c : Channel) : Channel := { c with int := { c.int with openSlot := none } }

def presentLines (crop : Rect) (k : RawPicture) (x : Slot) : List Nat :=
  (ownLines crop k.kind).filter (linePresent x.received crop)

def missingLines (crop : Rect) (k : RawPicture) (x : Slot) : List Nat :=
  (ownLines crop k.kind).filter fun l => !linePresent x.received crop l

/-- The slot of a closed picture, its missing lines filled and counted (05/R77). -/
def filledIn (crop : Rect) (k : RawPicture) (x : Slot) : Slot := { x with
  planes := fillMissing crop (presentLines crop k x) (missingLines crop k x) x.planes
  missing := x.missing + (missingLines crop k x).length }

/-- The channel that has filled its closed picture, before the detector measures it (05/R77, R78). -/
def filling (crop : Rect) (i : SlotNo) (k : RawPicture) (c : Channel) : Channel :=
  updatePeriod k.stamp (countMany (withSlot i (filledIn crop k (slotOf c i)) c.int.committed (shut c)) .missingLine
    (missingLines crop k (slotOf c i)).length)

theorem slotOf_filling (crop : Rect) (i : SlotNo) (k : RawPicture) (c : Channel) (j : SlotNo) :
    slotOf (filling crop i k c) j = if j = i then filledIn crop k (slotOf c i) else slotOf c j :=
  slotOf_withSlot i j _ c.int.committed (shut c)

theorem filling_raws (crop : Rect) (i : SlotNo) (k : RawPicture) (c : Channel) :
    (slotOf (filling crop i k c) i).raws = (slotOf c i).raws := by
  rw [slotOf_filling, if_pos rfl]
  rfl

section close
variable {c : Channel} {i : SlotNo} {crop : Rect} {k : RawPicture} (opened : c.int.openSlot = some i)
  (cropped : c.int.crop = some crop) (last : (slotOf c i).raws.getLast? = some k)
include opened cropped last

theorem closeOpen_empty (env : Env) (absent : presentLines crop k (slotOf c i) = []) :
    closeOpen env c = closeEmpty env i k (shut c) := by
  unfold closeOpen
  rw [opened, cropped]
  dsimp only
  rw [last]
  exact if_pos absent

theorem closeOpen_filled (env : Env) (lines : presentLines crop k (slotOf c i) ≠ []) :
    closeOpen env c = sweep (advanceHistory i ((slotOf c i).raws.length - 1) (judge env crop i k (filling crop i k c))) := by
  rw [← filling_raws crop i k c]
  unfold closeOpen
  rw [opened, cropped]
  dsimp only
  rw [last]
  exact if_neg lines

end close

section kept
variable {c : Channel} (h : RingKept c)
include h

/-- Without a standard no slot is open. -/
theorem RingKept.closed_of_cropless (cropless : c.int.crop = none) : c.int.openSlot = none := by
  have zero := h.held.cropped.mpr cropless
  by_contra some
  obtain ⟨i, opened⟩ := Option.ne_none_iff_exists'.mp some
  have filling := (h.held.filling i).mp opened
  rw [h.held.vacant zero i] at filling
  cases filling

theorem RingKept.closeOpen_closed (env : Env) : (closeOpen env c).int.openSlot = none := by
  have opened := congrArg Ledger.openSlot (closeOpen_ledger env c)
  refine opened.trans ?_
  split
  · rfl
  · next cropless =>
    exact h.closed_of_cropless (Option.not_isSome_iff_eq_none.mp cropless)

theorem RingKept.shut {i : SlotNo} (opened : c.int.openSlot = some i) : RingHeld (some i) (shut c) :=
  (opened ▸ h.held).congr rfl

theorem RingKept.filling {i : SlotNo} (opened : c.int.openSlot = some i) (crop : Rect) (k : RawPicture) :
    RingHeld (some i) (filling crop i k c) := by
  have held := h.shut opened
  obtain ⟨committed, finish, table, -, -⟩ := held.gathering (.inl held.open_filling)
  exact (held.filled (x := filledIn crop k (slotOf c i)) held.open_filling rfl committed finish table).congr rfl

theorem RingKept.filling_partnered (i : SlotNo) (crop : Rect) (k : RawPicture) :
    Partnered (Machine.filling crop i k c) := by
  intro j state two
  rw [slotOf_filling] at state two
  split at state
  · next here => rw [if_pos here] at two; exact h.partnered i state two
  · next there => rw [if_neg there] at two; exact h.partnered j state two

theorem RingKept.closeOpen_held (env : Env) : RingHeld none (closeOpen env c) := by
  cases opened : c.int.openSlot with
  | none =>
    rw [closeOpen_none env opened]
    exact opened ▸ h.held
  | some i =>
    cases cropped : c.int.crop with
    | none => exact absurd opened (by rw [h.closed_of_cropless cropped]; nofun)
    | some crop =>
      have shut := h.shut opened
      obtain ⟨-, -, -, raws, -⟩ := shut.gathering (.inl shut.open_filling)
      have last : (slotOf c i).raws.getLast? = some ((slotOf c i).raws.getLast raws) := List.getLast?_eq_some_getLast raws
      by_cases lines : presentLines crop ((slotOf c i).raws.getLast raws) (slotOf c i) = []
      · rw [closeOpen_empty opened cropped last env lines]
        exact shut.closeEmpty env _
      · rw [closeOpen_filled opened cropped last env lines]
        obtain ⟨judged, length, kept, still⟩ :=
          (h.filling opened crop ((slotOf c i).raws.getLast raws)).judge (h.filling_partnered i crop _) env crop
            ((slotOf c i).raws.getLast raws)
        refine (judged.advanceHistory kept still ?_).sweep
        rw [length, filling_raws]
        exact Nat.sub_lt (List.length_pos_iff_ne_nil.mpr raws) Nat.one_pos

theorem RingKept.closeOpen (env : Env) : RingKept (closeOpen env c) := (h.closeOpen_held env).kept (h.closeOpen_closed env)

end kept

/-! ## Lines (05/R75) -/

theorem writeGroups_frame (crop : Rect) (f : Nat) (gs : List SampleGroup) (x : Nat) (s : Slot) :
    writeGroups crop f gs x s = { s with
      planes := (writeGroups crop f gs x s).planes, received := (writeGroups crop f gs x s).received } := by
  induction gs generalizing x s with
  | nil => rfl
  | cons g rest ih =>
    unfold writeGroups
    split
    · exact ih ..
    · exact ih ..

section kept
variable {c : Channel} (h : RingKept c)
include h

theorem RingKept.linesWritten {i : SlotNo} (opened : c.int.openSlot = some i) (crop : Rect) (f : Nat)
    (gs : List SampleGroup) (x : Nat) : RingKept (onSlot i (writeGroups crop f gs x) c) := by
  have held : RingHeld (some i) c := opened ▸ h.held
  obtain ⟨committed, finish, table, -, -⟩ := held.gathering (.inl held.open_filling)
  have frame := writeGroups_frame crop f gs x (slotOf c i)
  have slot : slotOf (onSlot i (writeGroups crop f gs x) c) i = writeGroups crop f gs x (slotOf c i) := Bank.get_modify_same ..
  have written := (held.filled (x := writeGroups crop f gs x (slotOf c i)) (by rw [frame]; exact held.open_filling)
    (by rw [frame]) (by rw [frame]; exact committed) (by rw [frame]; exact finish) (by rw [frame]; exact table))
  refine ⟨?_, fun j state two => ?_⟩
  · exact (written.congr rfl : RingHeld (some i) _) |> fun w => by
      rw [show (onSlot i (writeGroups crop f gs x) c).int.openSlot = some i from opened]; exact w
  · have same : j = i := Option.some.inj (((written.congr rfl).filling j).mpr state).symm
    subst same
    rw [slot, frame] at two
    exact h.partnered j held.open_filling two

theorem RingKept.takeLines (env : Env) (r : LinesRecord) : RingKept (takeLines env r c) := by
  have dropped : RingKept (if c.int.refused = some r.sequence then c else count c .stray) := by
    split
    · exact h
    · exact h.congr rfl
  unfold Machine.takeLines
  dsimp only
  split
  · next i crop opened cropped =>
    split
    · split
      · split
        · exact (h.linesWritten opened ..).closeOpen env
        · exact h.linesWritten opened ..
      · exact dropped
    · exact dropped
  · exact dropped

end kept

/-! ## Opening (05/R73, R74) -/

theorem RingHeld.nowOpen {c : Channel} {i : SlotNo} (h : RingHeld (some i) c)
    (partner : (slotOf c i).raws.length = 2 → placesWithPartner c.cad = true) (t : Time) : RingKept (nowOpen i t c) := by
  refine ⟨h.congr rfl, fun j state two => ?_⟩
  obtain rfl : i = j := Option.some.inj ((h.filling j).mpr state)
  exact partner two

/-- A slot that holds nothing takes the new raw picture. -/
theorem RingHeld.opened {c : Channel} (h : RingHeld none c) (idle : Idle c) (standard : c.int.standard ≠ 0) {i : SlotNo}
    (free : (slotOf c i).state = .free) (k : RawPicture) : RingKept (Machine.nowOpen i k.stamp
      (onSlot i (fun _ => { Slot.empty with state := .filling, raws := [k] }) c)) := by
  have held := h.replaced (i := i) (x := { Slot.empty with state := .filling, raws := [k] }) (l := c.int.committed) standard
    (h.uncommitted (by rw [free]; decide) (by rw [free]; decide)) (.inl rfl) (by simp [slotLaw, Slot.empty])
    (fun _ used => absurd free used) (by simp [Slot.empty, finishEntries]) (fun _ j _ => idle j) (.inl ⟨rfl, rfl⟩)
  rw [if_pos rfl] at held
  refine RingHeld.nowOpen (held.congr rfl) (fun two => ?_) _
  rw [slotOf_withSlot, if_pos rfl] at two
  cases two

theorem recyclable_iff {c : Channel} {i : SlotNo} : recyclable c i = true
    ↔ ((slotOf c i).state = .complete ∨ (slotOf c i).state = .history) ∧ referenced c i = false := by
  simp [recyclable]

theorem RingHeld.recycled {c : Channel} (h : RingHeld none c) {i : SlotNo} (ripe : recyclable c i = true) :
    RingHeld none (recycled i c) := by
  obtain ⟨state, unmarked⟩ := recyclable_iff.mp ripe
  have moved : RingHeld none { c with int := { c.int with
      retireRef := if c.int.retireRef = some i then none else c.int.retireRef } } := by
    obtain ⟨h1, h2, h3, h4, h5, h6, h7, h8, h9, h10, h11, h12, h13, h14⟩ := h
    refine ⟨h1, h2, h3, h4, h5, h6, h7, h8, h9, h10, fun r hr => ?_, h12, h13, h14⟩
    dsimp only at hr
    split at hr
    · cases hr
    · exact h11 r hr
  refine (moved.freed (i := i) unmarked state ?_).congr rfl
  dsimp only
  split
  · nofun
  · next other => exact other

theorem slotOf_recycled (i j : SlotNo) (c : Channel) : slotOf (recycled i c) j = if j = i then .empty else slotOf c j :=
  slotOf_freeSlot c i j

theorem RingKept.openOwn {c : Channel} (h : RingKept c) (closed : c.int.openSlot = none) (idle : Idle c)
    (standard : c.int.standard ≠ 0) (k : RawPicture) : RingKept (openOwn k c) := by
  have held : RingHeld none c := closed ▸ h.held
  unfold Machine.openOwn
  split
  · next i d taken =>
    unfold takeSlot at taken
    split at taken
    · next lowest =>
      cases taken
      exact held.opened idle standard (by simpa using List.find?_some lowest) k
    · split at taken
      · next i oldest =>
        cases taken
        have ripe : recyclable c i = true := by
          obtain found | ⟨-, here⟩ := foldl_olderOf_mem (best := none) ((oldestRecyclable_eq c).symm.trans oldest)
          · cases found
          · exact here
        refine RingHeld.opened (c := recycled i c) (held.recycled ripe) (fun j => ?_) standard ?_ k
        · rw [slotOf_recycled]
          split
          · decide
          · exact idle j
        · rw [slotOf_recycled, if_pos rfl]; rfl
      · cases taken
  · exact h.congr rfl

theorem RingKept.openPicture {c : Channel} (h : RingKept c) (closed : c.int.openSlot = none)
    (standard : c.int.standard ≠ 0) (env : Env) (k : RawPicture) : RingKept (openPicture env k c) := by
  have held : RingHeld none c := closed ▸ h.held
  have quiet (j : SlotNo) : (slotOf c j).state ≠ .filling := fun f => nomatch (held.filling j).mpr f
  cases waits : pairingSlot c with
  | none =>
    rw [openPicture_alone waits]
    refine h.openOwn closed (fun j => ?_) standard k
    have apart := List.find?_eq_none.mp waits j (List.mem_finRange j)
    exact fun g => g.elim (quiet j) (by simpa using apart)
  | some i =>
    have pairing : (slotOf c i).state = .pairing := by simpa using List.find?_some waits
    by_cases joins : placesWithPartner c.cad = true ∧ waitsFor c i k = true
    · obtain ⟨placed, opposite⟩ := joins
      rw [openPicture_joins waits placed opposite]
      obtain ⟨committed, finish, table, raws, -⟩ := held.gathering (.inr pairing)
      obtain ⟨-, -, one, -⟩ := held.slots i
      have one := one pairing
      have joined := held.gathered (x := joined k (slotOf c i)) (l := c.int.committed) (.inr pairing)
        (by simp [slotLaw, Machine.joined, committed, finish, table, one])
        (fun n _ index _ => ⟨nofun, by simp [Machine.joined]; omega, fun _ => by simp [Machine.joined]; omega⟩)
        (by simp [Machine.joined, finish, finishEntries]) (.inl ⟨committed, rfl⟩)
      rw [if_pos (show (Machine.joined k (slotOf c i)).state = .filling from rfl)] at joined
      exact (joined.nowOpen (fun _ => placed) k.stamp).congr rfl
    · rw [openPicture_apart waits joins]
      obtain ⟨ring, idle⟩ := held.abandonPairing (.inr pairing) env
      have still : (Machine.abandonPairing env i c).int.openSlot = none :=
        (congrArg Ledger.openSlot (abandonPairing_ledger env i c)).trans closed
      have same : (Machine.abandonPairing env i c).int.standard = c.int.standard :=
        congrArg Outside.standard (abandonPairing_outside env i c)
      exact (ring.kept still).openOwn still idle (same ▸ standard) k

/-! ## Flushes and standards (04/R65, 05/R71, R89) -/

theorem RingKept.closed {c : Channel} (h : RingKept c) (free : ∀ i, (slotOf c i).state = .free) : c.int.openSlot = none := by
  by_contra some
  obtain ⟨i, opened⟩ := Option.ne_none_iff_exists'.mp some
  have filling := (h.held.filling i).mp opened
  rw [free i] at filling
  cases filling

/-- A ring that holds nothing, and to whose pictures nothing refers. -/
structure RingEmpty (c : Channel) : Prop where
  slots : ∀ i, slotOf c i = .empty
  openSlot : c.int.openSlot = none
  committed : c.int.committed = []
  history : c.int.history = []
  retire : c.int.retireRef = none
  render : ∀ r ∈ c.ren.record, r.state = .done
  motion : c.meu = ⟨[], none⟩

theorem RingEmpty.kept {c : Channel} (h : RingEmpty c) (cropped : c.int.standard = 0 ↔ c.int.crop = none) : RingKept c := by
  obtain ⟨slots, openSlot, committed, history, retire, render, motion⟩ := h
  have state (i : SlotNo) : (slotOf c i).state = .free := by rw [slots i]; rfl
  refine RingHeld.kept ?_ openSlot
  exact {
    slots := fun i => by rw [slots i]; decide
    filling := fun i => by rw [state i]; simp
    alone := fun i _ g => absurd g (by rw [slots i]; decide)
    distinct := by rw [committed]; exact .nil
    listed := fun i => by rw [committed, slots i]; exact ⟨nofun, nofun⟩
    cropped := cropped
    vacant := fun _ => state
    short := by rw [history]; decide
    history := fun e he => by rw [history] at he; cases he
    finish := fun i e he => by rw [slots i] at he; cases he
    retire := fun r hr => by rw [retire] at hr; cases hr
    render := fun r hr busy => absurd (render r hr) busy
    job := fun j hj => by rw [motion] at hj; cases hj
    pairs := fun q hq => by rw [motion] at hq; cases hq }

theorem abandonRender_done (c : Channel) : ∀ r ∈ (abandonRender c).ren.record, r.state = .done := by
  intro r record
  unfold abandonRender at record
  split at record
  · next r' before =>
    split at record
    · next done => rw [before] at record; cases record; exact done
    · cases record
  · next before => rw [before] at record; cases record

theorem flush_ren (now : Time) (c : Channel) : (flush now c).ren = (abandonRender c).ren := by
  rw [flush_eq]
  show (cadenceToVideo (emptiedRing now c)).ren = _
  rw [cadenceToVideo_frame]
  show (abandonJobs (abandonRender c)).ren = _
  rw [abandonJobs_frame]

theorem flush_ringEmpty (now : Time) (c : Channel) : RingEmpty (flush now c) := by
  have int := flush_int now c
  exact {
    slots := fun i => by rw [slotOf, int]; exact Bank.get_fill ..
    openSlot := by rw [int]; rfl
    committed := by rw [int]; rfl
    history := by rw [int]; rfl
    retire := by rw [int]; rfl
    render := by rw [flush_ren]; exact abandonRender_done c
    motion := flush_meu now c }

theorem RingKept.flush {c : Channel} (h : RingKept c) (now : Time) : RingKept (flush now c) := by
  refine (flush_ringEmpty now c).kept ?_
  rw [flush_int]
  exact h.held.cropped

theorem adopt_record (env : Env) (code : StdCode) (c : Channel) : (adopt env code c).ren.record = c.ren.record := by
  have delayed (d : Channel) : (computeDelay env.cfg d).ren.record = d.ren.record := by
    unfold computeDelay
    dsimp only
    split <;> rfl
  rw [adopt_eq, computeSteps_eq]
  refine (delayed _).trans ?_
  unfold adopted
  dsimp only
  split <;> rfl

theorem giveStamp_view (mapped : Time) (c : Channel) : ringView (giveStamp mapped c).2 = ringView c := by
  rw [giveStamp_frame]
  simp only [ringView, ringParts]

section kept
variable {c : Channel} (h : RingKept c)
include h

theorem RingKept.countFlag (x : ChanCtr) (f : ChanFlag) : RingKept (countFlag c x f) := h.congr rfl

theorem RingKept.count (x : ChanCtr) : RingKept (count c x) := h.congr rfl

theorem RingKept.adopt (free : ∀ i, (slotOf c i).state = .free) {code : StdCode} (standard : code ≠ 0) (env : Env) :
    RingKept (adopt env code c) := by
  have closed := h.closed free
  have int := adopt_int env code c
  have record := adopt_record env code c
  obtain ⟨-, -, meu, -, -⟩ := adopt_rest env code c
  have held : RingHeld none c := closed ▸ h.held
  obtain ⟨h1, h2, h3, h4, h5, -, -, h8, h9, h10, h11, h12, h13, h14⟩ := held
  have adopted : RingHeld none { c with int := (Machine.adopt env code c).int } := by
    rw [int]
    exact ⟨h1, h2, h3, h4, h5, ⟨fun zero => absurd zero standard, nofun⟩, fun zero => absurd zero standard,
      h8, h9, h10, h11, h12, h13, h14⟩
  refine (adopted.congr ?_).kept (by rw [int]; exact closed)
  simp only [ringParts, record, meu]

theorem RingKept.changeStandard {code : StdCode} (standard : code ≠ 0) (env : Env) : RingKept (changeStandard env code c) := by
  have free (i : SlotNo) : (slotOf (Machine.flush env.now c) i).state = .free := by
    rw [(flush_ringEmpty env.now c).slots i]; rfl
  rw [changeStandard_eq]
  exact ((h.flush env.now).adopt free standard env).countFlag _ _

theorem RingKept.meetStandard {code : StdCode} (standard : code ≠ 0) (env : Env) : RingKept (meetStandard env code c) := by
  unfold Machine.meetStandard
  split
  · next zero => exact h.adopt (h.held.vacant zero) standard env
  · split
    · exact h
    · exact h.changeStandard standard env

/-! ## Admission (05/R72) -/

theorem RingKept.closeStampOpen (standard : c.int.standard ≠ 0) (env : Env) (mapped : Time) (p : PictureRecord) :
    RingKept (closeStampOpen env mapped p c) := by
  have closed := h.closeOpen_closed env
  have same : (Machine.closeOpen env c).int.standard = c.int.standard := congrArg Outside.standard (closeOpen_outside env c)
  have frame := giveStamp_frame mapped (Machine.closeOpen env c)
  have stamped : RingKept (giveStamp mapped (Machine.closeOpen env c)).2 := (h.closeOpen env).congr (giveStamp_view ..)
  unfold Machine.closeStampOpen
  dsimp only
  split
  · exact stamped.congr rfl
  · exact stamped.openPicture (by rw [frame]; exact closed) (by rw [frame]; exact same ▸ standard) env _

theorem RingKept.takePicture (env : Env) (mapped : Time) (via : Origin) {p : PictureRecord} (standard : p.standard ≠ 0) :
    RingKept (takePicture env mapped via p c) := by
  have heard : RingKept (Machine.count (match via with
      | .internal => { c with csl := { c.csl with sourceGeneration := p.generation } }
      | .lane _ => c) .picturesAdmitted) := by
    cases via <;> exact h.congr rfl
  unfold Machine.takePicture
  split
  · exact h.congr rfl
  · dsimp only
    generalize Machine.count _ .picturesAdmitted = d at heard
    split
    · refine (heard.changeStandard standard env).closeStampOpen ?_ env mapped p
      rw [changeStandard_int]
      exact standard
    · next same => exact heard.closeStampOpen (by rw [← not_ne_iff.mp same]; exact standard) env mapped p

/-! ## Switches (04/R64) -/

theorem RingKept.cadenceToVideo (closed : c.int.openSlot = none) : RingKept (cadenceToVideo c) := by
  have held : RingHeld none c := closed ▸ h.held
  have frame := cadenceToVideo_frame c
  exact (held.congr (by rw [frame]; rfl)).kept (by rw [frame]; exact closed)

theorem RingKept.closeOld (env : Env) : RingKept (closeOld env c) := by
  have closed := h.closeOpen_closed env
  have kept := h.closeOpen env
  unfold Machine.closeOld
  dsimp only
  split
  · next i waits =>
    have pairing : (slotOf (Machine.closeOpen env c) i).state = .pairing := by simpa using List.find?_some waits
    have still : (abandonPairing env i (Machine.closeOpen env c)).int.openSlot = none :=
      (congrArg Ledger.openSlot (abandonPairing_ledger ..)).trans closed
    exact RingKept.cadenceToVideo (((kept.held.abandonPairing (.inr pairing) env).1).kept still) still
  · exact kept.cadenceToVideo closed

theorem RingKept.switchChannel (env : Env) (q : Option Copy) {offer : Option Candidate}
    (standard : ∀ d ∈ offer, d.standard ≠ 0) : RingKept (switchChannel env q offer c) := by
  have aimed : RingKept (aimed env q c) := h.congr rfl
  have met : RingKept (met env offer (Machine.closeOld env (Machine.aimed env q c))) := by
    cases offer with
    | none => exact aimed.closeOld env
    | some d => exact (aimed.closeOld env).meetStandard (standard d rfl) env
  rw [switchChannel_eq, noteNone_frame]
  exact met.congr rfl

end kept

end Sys2Proof.Machine
end

section
/-! What the finish, the Motion Estimator, the Render Engine, the output port and the Channel Supervisor leave of a ring
(05/R82, R86 to R90, 07/R115, R122, 08, 10/R158, R168 to R173, 12/R196). -/

namespace Sys2Proof.Machine

theorem chooseAB_committed {c : Channel} {r : Time} {a : SlotNo} {b : Option SlotNo} {early : Bool}
    (chosen : chooseAB c r = some (a, b, early)) : a ∈ c.int.committed ∧ ∀ i ∈ b, i ∈ c.int.committed := by
  unfold chooseAB at chosen
  split at chosen
  · cases chosen
  · next first rest list =>
    dsimp only at chosen
    split at chosen
    · cases chosen
      exact ⟨by rw [list]; exact List.mem_cons_self, nofun⟩
    · next last =>
      cases chosen
      refine ⟨List.mem_of_mem_filter (List.mem_of_getLast? last), fun i hi => ?_⟩
      exact List.dropWhile_subset _ (List.drop_subset _ _ (List.mem_of_mem_head? hi))

theorem weigh_view (c : Channel) (a b : SlotNo) (r : Time) : ringView (weigh c a b r).2 = ringView c := by
  unfold weigh
  split <;> rfl

section kept
variable {c : Channel} (h : RingKept c)
include h

theorem RingKept.branch {d : Channel} {p : Prop} [Decidable p] (g : RingKept d) : RingKept (if p then c else d) := by
  split
  · exact h
  · exact g

theorem RingKept.withPort (p : Port) : RingKept { c with port := p } := h.congr rfl

theorem RingKept.withSup (x : Supervisor) : RingKept { c with sup := x } := h.congr rfl

theorem RingKept.emptyBuffer (b : BufNo) : RingKept (emptyBuffer b c) := h.congr rfl

/-! ## References told anew -/

theorem RingKept.retireAt {i : SlotNo} (mem : i ∈ c.int.committed) :
    RingKept { c with int := { c.int with retireRef := some i } } := ⟨h.held.retireAt mem, h.partnered⟩

theorem RingKept.rendering {x : Option RenderRecord}
    (read : ∀ r ∈ x, r.state ≠ .done → r.a ∈ c.int.committed ∧ ∀ b ∈ r.b, b ∈ c.int.committed) :
    RingKept (withRecord x c) := ⟨h.held.rendering read, h.partnered⟩

/-- A record that reads what the one before read (08/R129). -/
theorem RingKept.rerecorded {r q : RenderRecord} (record : c.ren.record = some r) (busy : r.state ≠ .done)
    (a : q.a = r.a) (b : q.b = r.b) : RingKept (withRecord (some q) c) := by
  refine h.rendering fun x hx _ => ?_
  cases hx
  rw [a, b]
  exact h.held.render r record busy

theorem RingKept.computeDelay (cfg : ChanConfig) : RingKept (computeDelay cfg c) := by
  unfold Machine.computeDelay
  dsimp only
  split <;> exact h.congr rfl

/-! ## The finish (05/R82) -/

theorem RingKept.finishSlot (env : Env) (i : SlotNo) : RingKept (finishSlot env i c) := by
  unfold Machine.finishSlot
  split
  · next finishing =>
    have held := h.held.completed (i := i) (x := { slotOf c i with
      state := .complete, finish := none, planes := finishedPlanes env c (slotOf c i) }) (.inl finishing) rfl rfl rfl rfl
    refine RingKept.sweep ⟨held.congr rfl, fun j state two => ?_⟩
    rw [show slotOf (onSlot i _ c) j = _ from Bank.get_modify ..] at state two
    split at state
    · cases state
    · next there => rw [if_neg there] at two; exact h.partnered j state two
  · exact h

/-! ## Motion jobs (07/R115, R122) -/

theorem RingKept.startJob (env : Env) : RingKept (startJob env c) := by
  unfold Machine.startJob
  split
  · next q rest crop _ pending _ =>
    dsimp only
    split
    · next complete =>
      exact ⟨h.held.estimating (fun j hj => by cases hj; exact ⟨complete.2, complete.1⟩)
        fun p hp => h.held.pairs p (by rw [pending]; exact List.mem_cons_of_mem q hp), h.partnered⟩
    · exact h
  · exact h

theorem RingKept.tabled {j : Job} (job : c.meu.job = some j) (t : VectorTable) :
    RingKept (onSlot j.pair.b (fun s => { s with table := some t }) { c with meu := { c.meu with job := none } }) := by
  obtain ⟨-, complete⟩ := h.held.job j job
  have complete : (slotOf c j.pair.b).state = .complete := of_decide_eq_true complete
  have idle : RingHeld c.int.openSlot { c with meu := { c.meu with job := none } } := h.held.estimating nofun h.held.pairs
  have held := idle.completed (i := j.pair.b) (x := { slotOf c j.pair.b with table := some t }) (.inr complete)
    complete rfl rfl (h.held.unfinished (by rw [complete]; decide))
  refine ⟨held.congr rfl, fun i state two => ?_⟩
  rw [show slotOf (onSlot j.pair.b _ _) i = _ from Bank.get_modify ..] at state two
  split at state
  · exact nomatch state.symm.trans complete
  · next there => rw [if_neg there] at two; exact h.partnered i state two

theorem RingKept.endJob : RingKept (endJob c) := by
  unfold Machine.endJob
  split
  · next j job =>
    have marked : RingKept (if (tableOf j).cut = true then Machine.count c .motionCuts else c) := (h.count _).branch h
    have same : (if (tableOf j).cut = true then Machine.count c .motionCuts else c).meu = c.meu := by split <;> rfl
    dsimp only
    generalize (if (tableOf j).cut = true then Machine.count c .motionCuts else c) = d at marked same
    exact (marked.tabled (same ▸ job) _).sweep.count _
  · exact h

/-! ## The render (08) -/

theorem RingKept.formRecord (env : Env) (d : Nat) (t : Time) : RingKept (formRecord env d c t) := by
  unfold Machine.formRecord
  dsimp only
  split
  · exact h.count _
  · next a b early chosen =>
    obtain ⟨ha, hb⟩ := chooseAB_committed chosen
    have marked : RingKept (if early = true then Machine.count c .early else c) := (h.count _).branch h
    have listed : (if early = true then Machine.count c .early else c).int.committed = c.int.committed := by split <;> rfl
    generalize (if early = true then Machine.count c .early else c) = c1 at marked listed
    rw [← listed] at ha hb
    cases b with
    | none => exact RingKept.sweep (RingKept.retireAt (marked.rendering fun r hr _ => by cases hr; exact ⟨ha, nofun⟩) ha)
    | some i =>
      have weighed : RingKept (weigh c1 a i (shift t (-(d : Int)))).2 := marked.congr (weigh_view ..)
      have same : (weigh c1 a i (shift t (-(d : Int)))).2.int.committed = c1.int.committed := congrArg (·.1.2.1) (weigh_view ..)
      dsimp only
      generalize (weigh c1 a i (shift t (-(d : Int)))).2 = c2 at weighed same
      rw [← same] at ha hb
      exact RingKept.sweep (RingKept.retireAt (weighed.rendering fun r hr _ => by cases hr; exact ⟨ha, hb⟩) ha)

theorem RingKept.makeSelection (env : Env) : RingKept (makeSelection env c) := by
  unfold Machine.makeSelection
  split
  · split
    · next t d _ _ _ =>
      exact RingKept.formRecord (c := { c with ren := { c.ren with selected := true } }) (h.congr rfl) env d t
    · exact h
  · exact h

theorem RingKept.startRender {r : RenderRecord} (record : c.ren.record = some r) (busy : r.state ≠ .done) (m : RenderMode) :
    RingKept (startRender r m c) := by
  have begun (w : Nat) : RingKept (withRecord (some { r with state := .rendering, mode := some m, weight := some w }) c) :=
    h.rerecorded record busy rfl rfl
  unfold Machine.startRender
  dsimp only
  split
  · exact (begun _).count _
  · exact begun _

theorem RingKept.beginRender : RingKept (beginRender c) := by
  unfold Machine.beginRender
  split
  · next r record =>
    split
    · next waits =>
      have busy : r.state ≠ .done := by rw [waits.1]; decide
      split
      · split
        · exact (h.count _).startRender record busy _
        · exact h.startRender record busy _
      · split
        · split <;> exact (h.count _).startRender record busy _
        · exact h
    · exact h
  · exact h

theorem RingKept.takeConcealPoint (env : Env) : RingKept (takeConcealPoint env c) := by
  unfold Machine.takeConcealPoint
  split
  · next r record =>
    split
    · next waits =>
      exact (h.rerecorded (q := { r with concealed := true }) record (by rw [waits.1]; decide) rfl rfl).beginRender
    · exact h
  · exact h

theorem RingKept.completeRender (target : StdCode) : RingKept (completeRender target c) := by
  unfold Machine.completeRender
  split
  · next r record =>
    split
    · refine RingKept.count (RingKept.sweep ((h.withPort _).rendering fun x hx busy => ?_)) _
      cases hx
      exact absurd rfl busy
    · exact h
  · exact h

theorem RingKept.disposeRecord : RingKept (disposeRecord c).2 := by
  unfold Machine.disposeRecord
  split
  · next r _ =>
    have dropped : RingKept (withRecord none c) := h.rendering nofun
    split
    · exact dropped
    · dsimp only
      exact ((dropped.emptyBuffer r.buffer).count _).sweep
  · exact h

theorem RingKept.abandonRender : RingKept (abandonRender c) := by
  unfold Machine.abandonRender
  split
  · next r _ =>
    have dropped : RingKept (withRecord none c) := h.rendering nofun
    split
    · exact h
    · exact (dropped.emptyBuffer r.buffer).count _
  · exact h

/-! ## The scan start (10/R158, R165, 05/R87) -/

theorem RingKept.timeScan (std : StdCode) (t : Time) : RingKept (timeScan std t c) := by
  unfold Machine.timeScan
  exact (((h.withPort _).count _).branch (h.withPort _)).branch (h.withPort _)

theorem RingKept.ownReference : RingKept (ownReference c) := by
  unfold Machine.ownReference
  split
  · exact h
  · split
    · split
      · next chosen => exact (h.retireAt (chooseAB_committed chosen).1).sweep
      · exact h
    · exact h

theorem RingKept.chooseSource (running : Bool) (m : SafeMode) (handed : Option BufNo) :
    RingKept (chooseSource running m handed c) := by
  unfold Machine.chooseSource
  dsimp only
  refine RingKept.count (RingKept.withPort ?_ _) _
  split
  · exact (h.withPort _).branch ((h.emptyBuffer _).withPort _)
  · exact (h.count _).branch (h.withPort _)

/-! ## The supervisor (10/R168 to R173) -/

theorem RingKept.leaveConverting : RingKept (leaveConverting c) := by
  unfold Machine.leaveConverting
  split
  · exact h.abandonRender.sweep
  · exact h

theorem RingKept.startAcquiring (env : Env) : RingKept (startAcquiring env c) := by
  have left := h.leaveConverting
  unfold Machine.startAcquiring
  generalize Machine.leaveConverting c = d at left
  refine RingKept.computeDelay ?_ env.cfg
  exact left.congr rfl

theorem RingKept.enterConverting (env : Env) : RingKept (enterConverting env c) := h.congr rfl

theorem RingKept.enterHoldover (env : Env) : RingKept (enterHoldover env c) := by
  have left := h.leaveConverting
  unfold Machine.enterHoldover
  exact (left.withSup _).countFlag _ _

theorem RingKept.startLatched (env : Env) : RingKept (startLatched env c) := by
  have left := h.leaveConverting
  unfold Machine.startLatched
  exact (left.withSup _).flush env.now

theorem RingKept.stallReport (env : Env) : RingKept (stallReport env c) := by
  unfold Machine.stallReport
  split
  · exact h.enterHoldover env
  · exact h

end kept

/-! ## Empty rings (12/R190, R196) -/

theorem powerOn_kept {c : Channel} (int : c.int = .powerOn) (ren : c.ren = .powerOn) (meu : c.meu = .powerOn) : RingKept c :=
  RingEmpty.kept
    { slots := fun i => by rw [slotOf, int]; exact Bank.get_fill ..
      openSlot := by rw [int]; rfl
      committed := by rw [int]; rfl
      history := by rw [int]; rfl
      retire := by rw [int]; rfl
      render := fun r hr => by rw [ren] at hr; cases hr
      motion := meu }
    (by rw [int]; decide)

end Sys2Proof.Machine
end

section
/-! The ring law through re-judgements, settling and the records that reach a channel (03/R45, R50, 04/R53, R64, 05/R72,
R75, 10/R172, R173). -/

namespace Sys2Proof.Machine

/-- Both channels keep the ring law. -/
def Rings (s : State) : Prop := ∀ k, RingKept (chan s k)

theorem rings_iff (s : State) : Rings s ↔ pictureRingLaw s := forall_congr' fun k => ringKept_iff (chan s k)

theorem Rings.of_chans {s t : State} (h : Rings s) (same : t.chans = s.chans) : Rings t := fun k => by
  rw [chan, same]
  exact h k

theorem Rings.onChan {s : State} (h : Rings s) {k : Chan} {f : Channel → Channel} (kept : RingKept (f (chan s k))) :
    Rings (onChan k f s) := by
  intro j
  by_cases e : j = k
  · rw [e, chan_onChan]; exact kept
  · rw [chan_onChan_ne e]; exact h j

theorem Rings.onConfigured {s : State} (h : Rings s) (k : Chan) {f : Env → Channel → Channel}
    (kept : ∀ env c, RingKept c → RingKept (f env c)) : Rings (onConfigured k f s) := by
  unfold Machine.onConfigured
  split
  · exact h.onChan (kept _ _ (h k))
  · exact h

theorem Rings.ite {s t : State} {p : Prop} [Decidable p] (hs : Rings s) (ht : Rings t) : Rings (if p then s else t) := by
  split
  · exact hs
  · exact ht

theorem Rings.foldl {α : Type} {f : State → α → State} (one : ∀ s a, Rings s → Rings (f s a)) (xs : List α) {s : State}
    (h : Rings s) : Rings (xs.foldl f s) := by
  induction xs generalizing s with
  | nil => exact h
  | cons x xs ih => exact ih (one s x h)

/-! ## Re-judgement and settling (04/R53, R64, 10/R168 to R173) -/

/-- A copy on offer has a standard (04/R55). -/
theorem offering_standard {s : State} {k : Chan} {q : Copy} {d : Candidate} (offered : offering s k q = some d) :
    d.standard ≠ 0 := by
  have fits := (mem_eligibles.mp (offering_eq_some.mp offered).1).2
  simp only [eligible, Bool.and_eq_true, decide_eq_true_eq] at fits
  obtain ⟨⟨⟨-, standard⟩, -⟩, -⟩ := fits
  exact standard

section rings
variable {s : State} (h : Rings s)
include h

theorem Rings.switchTo (k : Chan) (q : Option Copy) : Rings (switchTo k q s) := by
  refine Rings.onConfigured (s := { s with tx := holdCalls k (releaseCall s k ++ requestCall s k q) s.tx }) h k
    fun env c kept => kept.switchChannel env q fun d offered => ?_
  obtain ⟨q', -, offered⟩ := Option.bind_eq_some_iff.mp offered
  exact offering_standard offered

theorem Rings.countRelock (k : Chan) : Rings (Machine.onChan k countRelock s) := h.onChan ((h k).congr rfl)

theorem Rings.enterLatched (k : Chan) : Rings (enterLatched k s) := by
  have started : Rings (Machine.onConfigured k startLatched s) := h.onConfigured k fun env _ kept => kept.startLatched env
  have cleared := (started.switchTo k none).ite (p := (selectionOf (Machine.onConfigured k startLatched s) k).isSome) started
  exact cleared.onChan ((cleared k).countFlag _ _)

theorem Rings.startAcquiring (k : Chan) : Rings (Machine.onConfigured k startAcquiring s) :=
  h.onConfigured k fun env _ kept => kept.startAcquiring env

theorem Rings.updateRevert (k : Chan) : Rings (updateRevert k s) := h.onChan ((h k).congr rfl)

end rings

theorem Rings.rejudge (n : Nat) (k : Chan) {s : State} (h : Rings s) : Rings (rejudge n k s) := by
  induction n generalizing s with
  | zero => exact h
  | succ n ih =>
    have switched := h.switchTo k (choice s k)
    unfold Machine.rejudge
    refine .ite h (.ite (h.updateRevert k) (.ite ?_ switched))
    have counted := switched.countRelock k
    exact .ite (counted.enterLatched k) (ih (counted.startAcquiring k))

section rings
variable {s : State} (h : Rings s)
include h

theorem Rings.rejudgeOne (k : Chan) : Rings (rejudgeOne k s) := h.rejudge rejudgeDepth k

theorem Rings.rejudgeBoth : Rings (rejudgeBoth s) := (h.rejudgeOne 0).rejudgeOne 1

theorem Rings.enterAcquiring (k : Chan) : Rings (enterAcquiring k s) := (h.startAcquiring k).rejudgeOne k

theorem Rings.standardReport (k : Chan) : Rings (standardReport k s) := by
  have counted := h.countRelock k
  unfold Machine.standardReport
  exact .ite (.ite (counted.enterLatched k) (counted.enterAcquiring k)) h

theorem Rings.settle : Rings (settle s) :=
  settleFor_carries (R := fun s t => Rings s → Rings t) (fun _ => id) (fun f g => g ∘ f)
    (fun step kept => kept.of_chans step.chans) (fun _ kept => kept.rejudgeBoth) 8 s h

theorem Rings.conclude : Rings (conclude s) := h.settle.of_chans (conclude_chans s)

/-! ## Records (03/R45, R50, 05/R72, R75) -/

theorem Rings.pictureToChannel (via : Origin) {r : PictureRecord} (standard : r.standard ≠ 0) (k : Chan) :
    Rings (pictureToChannel via r k s) := by
  unfold Machine.pictureToChannel
  split
  · exact h
  · next g _ =>
    have taken : Rings (Machine.onChan k (takePicture ⟨s.now, g⟩ (mappedStamp s via r.stamp) via r) s) :=
      h.onChan ((h k).takePicture _ _ via standard)
    exact .ite (.ite (taken.standardReport k) taken) h

theorem Rings.linesToChannel (via : Origin) (r : LinesRecord) (k : Chan) : Rings (linesToChannel via r k s) := by
  unfold Machine.linesToChannel
  split
  · exact h
  · next g _ =>
    have taken : Rings (Machine.onChan k (takeLines ⟨s.now, g⟩ r) s) := h.onChan ((h k).takeLines _ r)
    exact .ite taken h

theorem Rings.publishPicture (p : PubIx) {r : PictureRecord} (standard : r.standard ≠ 0) : Rings (publishPicture p r s) := by
  unfold Machine.publishPicture
  refine Rings.foldl (fun t k kept => kept.pictureToChannel .internal standard k) (listeners p) ?_
  split
  · next i _ =>
    refine h.of_chans ?_
    unfold pictureOnSlot
    dsimp only
    split
    · exact (vacate_step i true _).chans
    · split <;> rfl
  · exact h

theorem Rings.publishLines (p : PubIx) (r : LinesRecord) : Rings (publishLines p r s) := by
  unfold Machine.publishLines
  refine Rings.foldl (fun t k kept => kept.linesToChannel .internal r k) (listeners p) ?_
  split
  · next i _ =>
    refine h.of_chans ?_
    unfold linesOnSlot
    dsimp only
    split
    · split
      · split
        · exact (vacate_step ..).chans
        · rfl
      · rfl
    · rfl
  · exact h

/-! ## The supervisor and the Copy Selector by their timers -/

theorem Rings.stalled (k : Chan) : Rings (stalled k s) := by
  refine h.onConfigured k fun env c kept => ?_
  have noted : RingKept (noteStall c) := kept.congr rfl
  exact (noted.stallReport env).branch kept

theorem Rings.acquisitionTimer (k : Chan) : Rings (acquisitionTimer k s) := .ite (h.onChan ((h k).congr rfl)) h

theorem Rings.decayTimer (k : Chan) : Rings (decayTimer k s) :=
  .ite (h.onConfigured k fun _ _ kept => kept.congr rfl) h

theorem Rings.holdoverTimer (k : Chan) : Rings (holdoverTimer k s) := by
  have counted := h.countRelock k
  exact .ite (Rings.ite (counted.enterLatched k) (counted.onChan ((counted k).congr rfl))) h

theorem Rings.refreshExpired (k : Chan) : Rings (refreshExpired k s) := by
  unfold Machine.refreshExpired
  split
  · exact .ite (Rings.onChan (s := onTx (holdCalls k (requestCall s k (selectionOf s k))) s) h ((h k).congr rfl)) h
  · exact h

theorem Rings.passOverExpired (k : Chan) : Rings (passOverExpired k s) :=
  .ite (Rings.rejudgeOne (h.onChan ((h k).congr rfl)) k) h

theorem Rings.revertExpired (k : Chan) : Rings (revertExpired k s) := by
  have judged := h.rejudgeOne k
  unfold Machine.revertExpired
  split
  · exact h
  · next q _ =>
    have switched := judged.switchTo k (some q)
    have counted : Rings (Machine.onChan k (count · .copyReverted) (Machine.switchTo k (some q) (Machine.rejudgeOne k s))) :=
      switched.onChan ((switched k).count _)
    exact .ite (.ite (counted.standardReport k) counted) judged

/-! ## Receive lanes -/

theorem Rings.stepNotice (l : LaneNo) (k : Chan) : Rings (stepNotice l k s) := .ite (h.onChan ((h k).congr rfl)) h

theorem Rings.deferReport (l : LaneNo) (k : Chan) : Rings (deferReport l k s) := by
  unfold Machine.deferReport
  split
  · have noted (n : Nat) : Rings (Machine.onChan k (fun c => { c with csl := { c.csl with deferred := n } }) s) :=
      h.onChan ((h k).congr rfl)
    exact .ite (.ite ((noted _).onChan ((noted _ k).congr rfl)) (noted _)) h
  · exact h

theorem Rings.followGeneration (l : LaneNo) (before : Option Copy) (k : Chan) : Rings (followGeneration l before k s) := by
  unfold Machine.followGeneration
  split
  · exact .ite (h.onChan ((h k).congr rfl)) h
  · exact h

theorem Rings.leftLive (e : PeerEntry) (l : LaneNo) : Rings (leftLive e l s) := h.of_chans (by rw [leftLive_frame])

theorem Rings.takeBeacon (l : LaneNo) (arrival : Time) (b : Beacon) : Rings (takeBeacon l arrival b s) := by
  have absorbed : Rings (onLane l (absorbBeacon arrival b) s) := h.of_chans rfl
  have noticed := Rings.ite (p := stepsOn (lane s l).entry arrival b = true) ((absorbed.stepNotice l 0).stepNotice l 1) absorbed
  exact (((((noticed.deferReport l 0).deferReport l 1).rejudgeBoth.followGeneration l _ 0).followGeneration l _ 1).leftLive _ l)

theorem Rings.lapseLane (l : LaneNo) : Rings (lapseLane l s) := by
  have lapsed : Rings (onLane l (lapse s.now) s) := h.of_chans rfl
  exact lapsed.rejudgeBoth.leftLive _ l

end rings

theorem readPicture_standard {ws : List Word} {p : PictureRecord} (h : readPicture ws = some p) : p.standard ≠ 0 := by
  unfold readPicture at h
  obtain ⟨pub, -, h⟩ := Option.bind_eq_some_iff.mp h
  obtain ⟨kind, -, h⟩ := Option.bind_eq_some_iff.mp h
  obtain ⟨standard, -, h⟩ := Option.bind_eq_some_iff.mp h
  split at h
  · cases h
  · next values =>
    cases h
    exact fun zero => values (.inl zero)

/-- A PICTURE record of a lane names a standard (01/R5). -/
theorem checkRecord_picture_standard {ws : List Word} {p : PictureRecord} (h : checkRecord ws = .ok (.picture p)) :
    p.standard ≠ 0 := by
  have read : readPicture ws = some p := by
    unfold checkRecord at h
    split at h
    · cases h
    split at h
    · cases h
    split at h
    · cases h
    split at h
    case h_3 =>
      split at h
      · next read => split at h <;> cases h; exact read
      · cases h
    all_goals
      split at h
      · split at h <;> cases h
      · cases h
  exact readPicture_standard read

theorem Rings.receive {s : State} (h : Rings s) (l : LaneNo) (flight : Nat) (ws : List Word) : Rings (receive l flight ws s) := by
  have counted (f : Lane → Lane) : Rings (onLane l f s) := h.of_chans rfl
  unfold Machine.receive receiveRecord
  refine .ite h ?_
  split
  · exact counted _
  · next r read =>
    unfold deliver
    split
    · exact .ite (h.of_chans rfl) ((counted _).takeBeacon l _ _)
    · exact (counted _).of_chans (by rw [takeCall_frame])
    · have standard := checkRecord_picture_standard read
      exact ((counted _).pictureToChannel _ standard 0).pictureToChannel _ standard 1
    · exact ((counted _).linesToChannel _ _ 0).linesToChannel _ _ 1

end Sys2Proof.Machine
end

section
/-! The ring law through every command, and its statement (05/R73, R80, R85 to R88, 06/R102, 07/R114, R115). -/

namespace Sys2Proof.Machine

/-! ## The Ingest Port (11) -/

theorem matchCode_standard {m : Measurement} {irregular : Bool} {c : StdCode} (h : matchCode m irregular = some c) : c ≠ 0 := by
  have best (xs : List StdCode) (held : Option StdCode) : xs.foldl (fun best c => match best with
      | some b => if periodError m c < periodError m b then some c else some b
      | none => some c) held = some c → held = some c ∨ c ∈ xs := by
    induction xs generalizing held with
    | nil => exact .inl
    | cons x xs ih =>
      intro found
      rcases ih _ found with first | mem
      · dsimp only at first
        split at first
        · split at first
          · cases first; exact .inr List.mem_cons_self
          · exact .inl first
        · cases first; exact .inr List.mem_cons_self
      · exact .inr (List.mem_cons_of_mem x mem)
  have mem := (best _ none h).resolve_left nofun
  have fits := (List.mem_filter.mp mem).2
  simp only [meets, Bool.and_eq_true, decide_eq_true_eq] at fits
  obtain ⟨⟨⟨⟨⟨-, standard⟩, -⟩, -⟩, -⟩, -⟩ := fits
  exact standard

/-- A locked port names the standard of its lock (11/R184). -/
def Locks (g : Ingest) : Prop := g.state = .locked → g.locked ≠ 0

theorem judgeMeasuring_locks {g : Ingest} (state : g.state ≠ .locked) {code : Option StdCode}
    (standard : ∀ c ∈ code, c ≠ 0) (arrival : Time) : Locks (judgeMeasuring code arrival g) := by
  unfold judgeMeasuring
  split
  · next c =>
    split
    · exact fun _ => standard c rfl
    · exact fun locked => absurd locked state
  · exact fun locked => absurd locked state

theorem judgeLocked_locks {g : Ingest} (h : Locks g) (code : Option StdCode) (arrival : Time) :
    Locks (judgeLocked code arrival g) := by
  unfold judgeLocked
  split
  · exact h
  · exact nofun

theorem judgeRaw_locks {g : Ingest} (h : Locks g) (arrival : Time) : Locks (judgeRaw arrival g) := by
  unfold judgeRaw
  split
  · exact nofun
  · next measuring =>
    have state : g.state ≠ .locked := by rw [measuring]; decide
    split
    · refine judgeMeasuring_locks ?_ (fun c matched => matchCode_standard matched) arrival
      exact state
    · exact judgeMeasuring_locks state (fun _ none => by cases none) arrival
  · split
    · refine judgeLocked_locks ?_ _ arrival
      exact h
    · exact judgeLocked_locks h _ arrival

/-- The law of the rings with what the records of the ingest port need of it. -/
structure Streams (s : State) : Prop where
  rings : Rings s
  locks : Locks s.ing

section streams
variable {s : State} (h : Streams s)
include h

theorem Streams.update {f : Ingest → Ingest} (locks : Locks (f s.ing)) : Streams (onIngest f s) := ⟨h.rings, locks⟩

theorem Streams.link {t : State} (rings : Rings t) (link : WithinLink s t) : Streams t := ⟨rings, link.ing ▸ h.locks⟩

theorem Streams.ite {t : State} {p : Prop} [Decidable p] (g : Streams t) : Streams (if p then s else t) := by
  split
  · exact h
  · exact g

theorem Streams.beginForming (p : Parity) (arrival : Time) : Streams (beginForming p arrival s) := by
  unfold Machine.beginForming
  split
  · split
    · next forms =>
      have counted := h.update (f := fun g => countIngest { g with forming := true, sequence := g.sequence + 1 } .picturesIngested)
        h.locks
      exact counted.link (counted.rings.publishPicture 0 (h.locks forms.1)) (publishPicture_within ..)
    · exact h.update h.locks
  · exact h.update h.locks

theorem Streams.formLines (l : OpenLine) (ends : Bool) : Streams (formLines l ends s) := by
  unfold Machine.formLines
  split
  · next own _ =>
    dsimp only
    generalize (ends && isLastLine s.ing l) = last
    have opened := h.update (f := fun g => { g with
      openLine := some { l with carried := carriable g l }, forming := g.forming && !last }) h.locks
    exact opened.link (opened.rings.publishLines 0 _) (publishLines_within ..)
  · exact h

theorem Streams.gatherRecords : Streams (gatherRecords s) := by
  unfold Machine.gatherRecords
  split
  · exact (h.formLines _ _).ite h
  · exact h

theorem Streams.closingRecords : Streams (closingRecords s) := by
  unfold Machine.closingRecords
  split
  · exact ((h.formLines _ _).ite ((h.update h.locks).ite h)).ite h
  · exact h

theorem Streams.closeLine (cut : Bool) : Streams (closeLine cut s) := by
  unfold Machine.closeLine
  split
  · exact h.closingRecords.update h.closingRecords.locks
  · exact h

theorem Streams.startLine (p : Parity) : Streams (startLine p s) := by
  have closed := h.closeLine true
  unfold Machine.startLine
  refine h.ite (closed.update ?_)
  split
  · exact closed.locks
  · exact closed.locks

theorem Streams.startPicture (arrival : Time) (p : Parity) : Streams (startPicture arrival p s) := by
  have closed := h.closeLine true
  have judged := closed.update (f := fun g => beginRaw p arrival (judgeRaw arrival g)) (judgeRaw_locks closed.locks arrival)
  exact (judged.link judged.rings.settle (settle_within _)).beginForming p arrival

theorem Streams.readMarker (arrival : Time) (f check : Sample) : Streams (readMarker arrival f check s) := by
  unfold Machine.readMarker
  split
  · exact h.update h.locks
  · exact h.startPicture ..
  · exact h.startLine _
  · exact h.closeLine _
  · exact h.closeLine _

theorem Streams.sampleWord (w : Sample) : Streams (sampleWord w s) := by
  unfold Machine.sampleWord
  split
  · exact h
  · split
    · exact (h.update h.locks).gatherRecords
    · exact h.update h.locks

theorem Streams.setReader (r : Reader) : Streams (setReader r s) := h.update h.locks

theorem Streams.freshWord (w : Sample) : Streams (freshWord w s) :=
  (h.setReader _).ite ((h.setReader _).sampleWord w)

theorem Streams.readWord (w : Sample) : Streams (readWord s w) := by
  unfold Machine.readWord
  split
  · exact h.freshWord w
  · exact (h.setReader _).ite ((h.sampleWord 1023).freshWord w)
  · exact h.setReader _
  · exact (h.setReader _).readMarker ..

end streams

theorem Streams.readWords (ws : List Sample) {s : State} (h : Streams s) : Streams (readWords ws s) := by
  unfold Machine.readWords
  induction ws generalizing s with
  | nil => exact h
  | cons w ws ih => exact ih (h.readWord w)

section rings
variable {s : State} (h : Rings s)
include h

theorem Rings.ingestLate : Rings (ingestLate s) := by
  unfold Machine.ingestLate
  refine .ite ?_ h
  split <;> exact h.of_chans rfl

/-! ## The output ports (10/10.1, 10/10.2) -/

theorem Rings.onPort (k : Chan) (f : Port → Port) : Rings (Machine.onChan k (onPort f) s) := h.onChan ((h k).withPort _)

theorem Rings.onPorts (f : Port → Port) : Rings (onPorts f s) := (h.onPort 0 f).onPort 1 f

theorem Rings.pulse : Rings (pulse s) := by
  unfold Machine.pulse
  refine .ite h ?_
  dsimp only
  split
  · exact h.of_chans rfl
  · exact .ite (Rings.onPorts (h.of_chans rfl) _) (h.of_chans rfl)
  · exact .ite (Rings.onPorts (h.of_chans rfl) _) (h.of_chans rfl)

theorem Rings.refMiss : Rings (refMiss s) := by
  unfold Machine.refMiss
  split
  · exact .ite (.ite (h.of_chans rfl) (Rings.onPorts (h.of_chans rfl) _)) h
  · exact h

theorem Rings.enterAt (k : Chan) (here : Bool) : Rings (enterAt k here s) := by
  have entered : Rings (Machine.onConfigured k enterConverting s) := h.onConfigured k fun env _ kept => kept.enterConverting env
  exact .ite entered.settle h

theorem Rings.publishScan (k : Chan) {std : StdCode} (standard : std ≠ 0) (t : Time) : Rings (publishScan k std t s) := by
  have silent := h.onPort k fun p => { p with publishing := false }
  unfold Machine.publishScan
  split
  · split
    · dsimp only
      exact .ite ((h.onPort k _).publishPicture _ standard) silent
    · exact silent
  · exact h

theorem Rings.scan (k : Chan) (standard : ∀ c ∈ (chan s k).port.standard, c ≠ 0) (entry : EntryOrder) :
    Rings (scan k entry s) := by
  unfold Machine.scan
  split
  · next std t held _ =>
    refine .ite (.ite (h.onPort k _) ?_) h
    have disposed := (h k).disposeRecord
    have selecting : RingKept { (disposeRecord (chan s k)).2 with
      ren := { (disposeRecord (chan s k)).2.ren with selected := false } } := by
      generalize (disposeRecord (chan s k)).2 = d at disposed
      exact disposed.congr rfl
    have timed := ((selecting.timeScan std t).ownReference)
    unfold scanAt
    dsimp only
    have referred := h.onChan (k := k) (f := fun _ => ownReference (timeScan std t { (disposeRecord (chan s k)).2 with
      ren := { (disposeRecord (chan s k)).2.ren with selected := false } })) timed
    have entered := fun b => referred.enterAt k b
    exact (((((entered _).onChan ((entered _ k).chooseSource _ _ _)).enterAt k _).publishScan k (standard std held) t).enterAt k _)
  · exact h

theorem Rings.emitLine (k : Chan) : Rings (emitLine k s) := by
  have lines {t : State} (kept : Rings t) (std : StdCode) (i : Nat) : Rings (Machine.publishLine k std i t) := by
    unfold publishLine
    split
    · exact .ite (Rings.foldl (fun u r g => g.publishLines _ r) _ kept) kept
    · exact kept
  unfold Machine.emitLine
  dsimp only
  split
  · exact .ite (lines (h.onPort k _) _ _) (h.onPort k _)
  · exact h

/-! ## The management port and the configuration (12) -/

theorem Rings.releaseLatchCmd (b : Byte) : Rings (releaseLatchCmd b s) := by
  unfold Machine.releaseLatchCmd
  refine .ite (h.of_chans rfl) ?_
  split
  · exact h.of_chans rfl
  · next k _ =>
    have cleared : Rings (Machine.onChan k (fun c => { c with sup := { c.sup with relock := 0 } }) s) := h.onChan ((h k).withSup _)
    exact .ite ((cleared.enterAcquiring k).of_chans rfl) (h.of_chans rfl)

theorem Rings.forceCopyCmd (b o n p : Byte) : Rings (forceCopyCmd b o n p s) := by
  unfold Machine.forceCopyCmd
  refine .ite (h.of_chans rfl) ?_
  split
  · exact h.of_chans rfl
  · next k _ =>
    split
    · exact h.of_chans rfl
    · next q _ =>
      have forced : Rings (Machine.onChan k (fun c => { c with csl := { c.csl with forced := q } }) s) := h.onChan ((h k).congr rfl)
      exact (forced.rejudgeOne k).of_chans rfl

end rings

theorem restartCmd_rings (s : State) : Rings (restartCmd s) := fun k => by
  rw [restartCmd_chan]
  exact powerOn_kept rfl rfl rfl

theorem rings_carriesClears : CarriesClears (fun s t => Rings s → Rings t) where
  refl _ := id
  trans f g := g ∘ f
  lanes _ h := h.of_chans rfl
  laneFlag _ _ _ h := h.of_chans rfl
  deferred _ _ h := h.of_chans rfl
  inputs _ _ _ h := h.of_chans rfl
  ports k _ _ _ h := h.onChan ((h k).withPort _)
  channel k _ _ h := h.onChan ((h k).congr rfl)
  station _ _ h := h.of_chans rfl

section rings
variable {s : State} (h : Rings s)
include h

theorem Rings.clearEventsCmd (g f i : Byte) : Rings (clearEventsCmd g f i s) := by
  unfold Machine.clearEventsCmd
  refine .ite (h.of_chans rfl) ?_
  split
  · next cleared => exact (rings_carriesClears.clearFlags cleared h).of_chans rfl
  · exact h.of_chans rfl

theorem Rings.startChannel (g : StationConfig) (k : Chan) : Rings (startChannel g s k) := by
  have formed : RingKept (formTables (g.chans.get k) (formPlacement (g.chans.get k) (chan s k))) := by
    refine (h k).congr ?_
    unfold formTables formPlacement
    dsimp only
    split <;> rw [computeSteps_eq] <;> split <;> rfl
  unfold Machine.startChannel
  dsimp only
  split
  · exact h
  · exact h.onChan ((h k).congr rfl)
  · exact (h.onChan formed).enterAcquiring k

theorem Rings.enterRunning (g : StationConfig) : Rings (enterRunning g s) := by
  have lost : Rings (portsLoseReference g.reference { s with
      station := .running, config := some g, eventMask := g.eventMask }) := by
    unfold portsLoseReference
    exact .ite (Rings.onPorts (h.of_chans rfl) _) (h.of_chans rfl)
  have ported {t : State} (kept : Rings t) (k : Chan) (f : Port → Port) :
      Rings (Machine.onChan k (fun c => takeColour (g.chans.get k) (Machine.onPort f c)) t) := kept.onChan ((kept k).congr rfl)
  have taken : Rings (takeConfig g s) := ported (ported (lost.of_chans rfl) 0 _) 1 _
  have published : Rings (startPublishing (takeConfig g s)) := taken.of_chans rfl
  exact (published.startChannel g 0).startChannel g 1

theorem Rings.readDone (image : List (BitVec 32)) : Rings (readDone image s) := by
  unfold Machine.readDone
  refine .ite h (.ite ?_ (h.of_chans rfl))
  refine Rings.enterRunning ?_ _
  exact .ite (h.of_chans rfl) (h.of_chans rfl)

/-! ## Every command -/

theorem Rings.body (locks : Locks s.ing) (ports : ∀ k, ∀ c ∈ (chan s k).port.standard, c ≠ 0) (c : Instr) :
    Rings (body c s) := by
  have streams : Streams s := ⟨h, locks⟩
  cases c with
  | powerOn => exact h
  | configReadDone dt image => exact h.readDone image
  | selectAsserted dt =>
    show Rings (selectStart s)
    unfold selectStart
    split <;> exact h.of_chans rfl
  | selectReleasedEarly dt =>
    show Rings (selectEnd s)
    unfold selectEnd
    split <;> exact h.of_chans rfl
  | readSummary dt => exact h.of_chans rfl
  | readChannel dt b =>
    show Rings (readChannelCmd b s)
    unfold readChannelCmd
    split <;> exact h.of_chans rfl
  | readPeers dt => exact h.of_chans rfl
  | readCounters dt b => exact .ite (h.of_chans rfl) (h.of_chans rfl)
  | clearEvents dt g f i => exact h.clearEventsCmd g f i
  | releaseLatch dt b => exact h.releaseLatchCmd b
  | forceCopy dt b o n p => exact h.forceCopyCmd b o n p
  | restart dt => exact restartCmd_rings s
  | unknownCode dt b => exact h.of_chans rfl
  | recordReceived dt l flight words => exact h.receive l flight words
  | recordSent dt => exact h.of_chans rfl
  | beaconTimerExpiry dt =>
    show Rings (beaconTimer s)
    unfold beaconTimer
    split
    · exact .ite (h.of_chans rfl) h
    · exact h
  | qualifyingDeadline dt l => exact .ite (h.of_chans rfl) h
  | liveDeadline dt l => exact .ite (h.lapseLane l) h
  | lapsedDeadline dt l => exact .ite (h.of_chans rfl) h
  | millisecondTick dt =>
    show Rings (millisecond s)
    unfold millisecond
    split
    · exact .ite (h.of_chans rfl) h
    · exact h
  | refreshTimerExpiry dt k => exact h.refreshExpired k
  | passOverExpiry dt k => exact h.passOverExpired k
  | revertHoldExpiry dt k => exact h.revertExpired k
  | finishDone dt k i => exact h.onConfigured (f := (finishSlot · i)) k fun env _ kept => kept.finishSlot env i
  | stall dt k => exact h.stalled k
  | motionJobStart dt k => exact h.onConfigured (f := startJob) k fun env _ kept => kept.startJob env
  | motionJobDone dt k => exact h.onChan (h k).endJob
  | renderSelection dt k => exact h.onConfigured (f := makeSelection) k fun env _ kept => kept.makeSelection env
  | renderBegin dt k => exact h.onChan (h k).beginRender
  | concealPoint dt k => exact h.onConfigured (f := takeConcealPoint) k fun env _ kept => kept.takeConcealPoint env
  | renderComplete dt k =>
    exact h.onConfigured (f := fun env => completeRender env.cfg.target) k fun env _ kept => kept.completeRender _
  | scanStart dt k entry => exact h.scan k (ports k) entry
  | outputLineRecords dt k => exact h.emitLine k
  | referencePulse dt => exact h.pulse
  | refQualifyTimeout dt => exact .ite (h.of_chans rfl) h
  | refMissed dt => exact h.refMiss
  | acquisitionTimerExpiry dt k => exact h.acquisitionTimer k
  | holdoverTimerExpiry dt k => exact h.holdoverTimer k
  | decayTimerExpiry dt k => exact h.decayTimer k
  | ingestMarker dt tail f check => exact (streams.readWords _).rings
  | ingestSampleGroup dt cb y0 cr y1 => exact (streams.readWords _).rings
  | ingestDeadline dt => exact h.ingestLate

end rings

theorem reset_rings (rest : List Instr) : Rings { State.reset with pending := rest } := fun k => by
  rw [show chan { State.reset with pending := rest } k = .powerOn from Bank.get_fill ..]
  exact powerOn_kept rfl rfl rfl

/-- Settles O12: every block's part of every command keeps the law of the slots and of what refers to them, the ticks and
the end of a command with it. -/
theorem pictureRingLawKept : Obligations.PictureRingLawKept := by
  unfold Obligations.PictureRingLawKept
  intro s t ingest ports law run
  have h : Rings s := (rings_iff s).mpr law
  refine (rings_iff t).mp (step_cases run Rings (h.of_chans rfl) reset_rings fun c rest _ => ?_)
  have kept : Rings (advance c.elapsed { s with pending := rest }) := h.of_chans rfl
  exact (kept.body ingest.1.1.mp (fun k std held => ((ports k).2.1 std held).1) c).conclude

end Sys2Proof.Machine
end

section
/-! What a plane holds once groups are written over its lines, and what a deinterlaced frame holds of it (05/R75, R77, R82
to R84). -/

namespace Sys2Proof.Machine

/-! ## Groups written line by line -/

theorem mem_rectLines {r : Rect} {f : Nat} : f ∈ rectLines r ↔ r.firstLine ≤ f ∧ f < r.firstLine + r.lineCount := by
  simp only [rectLines, span, List.mem_map, List.mem_range]
  constructor
  · rintro ⟨n, small, rfl⟩; omega
  · rintro ⟨low, high⟩; exact ⟨f - r.firstLine, by omega, by omega⟩

/-- A rectangle of whole co-sited pairs that lies on a line (05/R71). -/
structure Paired (r : Rect) : Prop where
  first : r.firstSample % 2 = 0
  count : r.sampleCount % 2 = 0
  within : r.firstSample + r.sampleCount ≤ 2048

theorem mem_pairPositions {r : Rect} (h : Paired r) {x : Nat} :
    x ∈ pairPositions r ↔ x % 2 = 0 ∧ r.firstSample ≤ x ∧ x < r.firstSample + r.sampleCount := by
  obtain ⟨first, count, -⟩ := h
  simp only [pairPositions, List.mem_map, List.mem_range]
  constructor
  · rintro ⟨n, small, rfl⟩; omega
  · rintro ⟨even, low, high⟩; exact ⟨(x - r.firstSample) / 2, by omega, by omega⟩

theorem inRect_iff {r : Rect} {f x : Nat} : inRect r f x = true ↔ f ∈ rectLines r ∧ r.firstSample ≤ x
    ∧ x < r.firstSample + r.sampleCount := by
  simp [inRect, mem_rectLines, and_assoc]

/-- The groups of one line, written at the pairs of a rectangle. -/
def writeLine (crop : Rect) (f : Nat) (g : Nat → SampleGroup) (p : Planes) : Planes :=
  (pairPositions crop).foldl (fun q x => writeGroup q f x (g x)) p

theorem foldl_writeGroup {xs : List Nat} (pairs : ∀ x ∈ xs, x < 2048 ∧ x % 2 = 0) (f : Nat) (g : Nat → SampleGroup)
    {p : Planes} (wf : planesWf p = true) : planesWf (xs.foldl (fun q x => writeGroup q f x (g x)) p) = true
      ∧ ∀ l y, y < 2048 → y % 2 = 0 → readGroup (xs.foldl (fun q x => writeGroup q f x (g x)) p) l y
        = if l = f ∧ y ∈ xs then g y else readGroup p l y := by
  induction xs generalizing p with
  | nil => exact ⟨wf, fun l y _ _ => by simp⟩
  | cons x xs ih =>
    obtain ⟨small, even⟩ := pairs x List.mem_cons_self
    obtain ⟨wf', reads⟩ := ih (fun y mem => pairs y (List.mem_cons_of_mem x mem)) (writeGroup_wf wf f x (g x))
    refine ⟨wf', fun l y hy ey => ?_⟩
    rw [List.foldl_cons, reads l y hy ey, readGroup_writeGroup wf small hy even ey]
    by_cases here : y = x
    · subst here
      by_cases line : l = f <;> simp [line]
    · simp [here]

theorem writeLine_reads {crop : Rect} (paired : Paired crop) (f : Nat) (g : Nat → SampleGroup) {p : Planes}
    (wf : planesWf p = true) : planesWf (writeLine crop f g p) = true
      ∧ ∀ l y, y < 2048 → y % 2 = 0 → readGroup (writeLine crop f g p) l y
        = if l = f ∧ crop.firstSample ≤ y ∧ y < crop.firstSample + crop.sampleCount then g y else readGroup p l y := by
  have pairs : ∀ x ∈ pairPositions crop, x < 2048 ∧ x % 2 = 0 := fun x mem => by
    obtain ⟨even, -, high⟩ := (mem_pairPositions paired).mp mem
    exact ⟨Nat.lt_of_lt_of_le high paired.within, even⟩
  obtain ⟨wf', reads⟩ := foldl_writeGroup pairs f g wf
  refine ⟨wf', fun l y hy ey => (reads l y hy ey).trans ?_⟩
  simp only [mem_pairPositions paired, ey, true_and]

/-- Lines written one after another with groups of their own. -/
theorem foldl_writeLine {crop : Rect} (paired : Paired crop) (lines : List Nat) (g : Nat → Nat → SampleGroup) {p : Planes}
    (wf : planesWf p = true) {l y : Nat} (hy : y < 2048) (ey : y % 2 = 0) :
    readGroup (lines.foldl (fun q f => writeLine crop f (g f) q) p) l y
      = if l ∈ lines ∧ crop.firstSample ≤ y ∧ y < crop.firstSample + crop.sampleCount then g l y else readGroup p l y := by
  induction lines generalizing p with
  | nil => simp
  | cons f lines ih =>
    obtain ⟨wf', reads⟩ := writeLine_reads paired f (g f) wf
    rw [List.foldl_cons, ih wf', reads l y hy ey]
    by_cases here : l = f
    · subst here
      by_cases inside : crop.firstSample ≤ y ∧ y < crop.firstSample + crop.sampleCount <;> simp [inside]
    · simp [here]

/-! ## The deinterlaced frame (05/R82 to R84) -/

theorem deinterlace_eq (threshold : Nat) (crop : Rect) (p : Parity) (own : Planes) (previous back : Option Planes) :
    deinterlace threshold crop p own previous back = ((rectLines crop).filter fun l => l % 2 ≠ p.val).foldl
      (fun q f => writeLine crop f (deinterlaceGroup threshold crop p own previous back f) q) own := rfl

theorem deinterlace_reads {crop : Rect} (paired : Paired crop) (threshold : Nat) (p : Parity) {own : Planes}
    (wf : planesWf own = true) (previous back : Option Planes) {f x : Nat} (small : x < 2048) (even : x % 2 = 0) :
    readGroup (deinterlace threshold crop p own previous back) f x
      = if f % 2 ≠ p.val ∧ inRect crop f x = true then deinterlaceGroup threshold crop p own previous back f x
        else readGroup own f x := by
  rw [deinterlace_eq, foldl_writeLine paired _ _ wf small even]
  refine if_congr ?_ rfl rfl
  rw [inRect_iff, List.mem_filter, decide_eq_true_eq]
  tauto

theorem meanSample_toNat (a b : Sample) : (meanSample a b).toNat = (a.toNat + b.toNat + 1) / 2 := by
  have ha := a.isLt
  have hb := b.isLt
  rw [meanSample, BitVec.toNat_ofNat]
  omega

/-- A moving block, or one without both fields, is interpolated (05/R83, R84). -/
theorem deinterlaceGroup_intra {threshold : Nat} {crop : Rect} {p : Parity} {own : Planes} {previous back : Option Planes}
    {f x : Nat} (moving : ∀ pv bk, previous = some pv → back = some bk →
      blockStill threshold crop p own bk ((f - crop.firstLine) / 8) ((x - crop.firstSample) / 8) = false) :
    deinterlaceGroup threshold crop p own previous back f x = intraGroup crop own f x := by
  unfold deinterlaceGroup
  split
  · next pv bk => rw [moving pv bk rfl rfl]; rfl
  · rfl

/-- Settles O42: the lines of the other parity are written alone, each pair of them by its block. -/
theorem deinterlacing : Obligations.Deinterlacing := by
  unfold Obligations.Deinterlacing
  intro threshold crop p own previous back q f x hq first count within wf even small
  have reads := deinterlace_reads ⟨first, count, within⟩ threshold p wf previous back (f := f) small even
  rw [← hq] at reads
  refine ⟨fun kept => ?_, fun above below other inside moving ha hb => ?_, fun other inside pv bk hp hk still => ?_⟩
  · rw [reads, if_neg]
    rintro ⟨other, inside⟩
    exact kept.elim other fun outside => by rw [inside] at outside; cases outside
  · rw [reads, if_pos ⟨other, inside⟩, deinterlaceGroup_intra moving, intraGroup, ← ha, ← hb]
    exact ⟨meanSample_toNat .., meanSample_toNat .., meanSample_toNat .., meanSample_toNat ..⟩
  · rw [reads, if_pos ⟨other, inside⟩, hp, hk]
    exact if_pos still

end Sys2Proof.Machine
end

section
/-! Stalls and the timers of the Channel Supervisor (05/R90, 10/R168 to R173). -/

namespace Sys2Proof.Machine

/-! ## Updates of one channel -/

theorem onChan_set {k : Chan} {f : Channel → Channel} {s : State} {c : Channel} (h : f (chan s k) = c) :
    onChan k f s = { s with chans := s.chans.set k c } := by
  subst h
  rfl

theorem onConfigured_set {k : Chan} {f : Env → Channel → Channel} {s : State} {g : ChanConfig} {c : Channel}
    (config : chanConfig s k = some g) (h : f ⟨s.now, g⟩ (chan s k) = c) :
    onConfigured k f s = { s with chans := s.chans.set k c } := by
  rw [onConfigured_some config, onChan_set h]

/-! ## Leaving CONVERTING (08/R142) -/

/-- What no freeing changes, a sweep does not. -/
theorem sweep_carries {α : Type} (F : Channel → α) (freed : ∀ i d, F (freeSlot i d) = F d) (c : Channel) :
    F (sweep c) = F c := by
  have fold {f : Channel → SlotNo → Channel} (one : ∀ d i, F (f d i) = F d) (xs : List SlotNo) (d : Channel) :
      F (xs.foldl f d) = F d := by
    induction xs generalizing d with
    | nil => rfl
    | cons x xs ih => exact (ih _).trans (one d x)
  have retire (d : Channel) (i : SlotNo) : F (retireOne d i) = F d := by
    unfold retireOne
    split
    · exact freed i d
    · rfl
  have history (d : Channel) (i : SlotNo) : F (freeHistoryOne d i) = F d := by
    unfold freeHistoryOne
    split
    · exact freed i d
    · rfl
  exact (fold history _ _).trans (fold retire _ c)

theorem sweep_ren (c : Channel) : (sweep c).ren = c.ren := sweep_carries (·.ren) (fun _ _ => rfl) c

theorem sweep_retireRef (c : Channel) : (sweep c).int.retireRef = c.int.retireRef :=
  sweep_carries (·.int.retireRef) (fun _ _ => rfl) c

theorem sweep_tally {x : ChanCtr} (other : x ≠ .motionSkipped) (c : Channel) :
    (sweep c).tally.get (chanCtrIx x) = c.tally.get (chanCtrIx x) :=
  sweep_carries (·.tally.get (chanCtrIx x)) (fun _ _ => (countMany_get ..).trans (if_neg other)) c

theorem leaveConverting_left {c : Channel} (converting : c.sup.state = .converting) :
    leaveConverting c = sweep (abandonRender c) := if_pos converting

theorem leaveConverting_stays {c : Channel} (other : c.sup.state ≠ .converting) : leaveConverting c = c := if_neg other

theorem abandonRender_tally (c : Channel) {x : ChanCtr} (other : x ≠ .renderAbandoned) :
    (abandonRender c).tally.get (chanCtrIx x) = c.tally.get (chanCtrIx x) := by
  unfold abandonRender
  split
  · split
    · rfl
    · exact (countMany_get ..).trans (if_neg other)
  · rfl

/-- A CONVERTING channel leaves its render and nothing else of its own (08/R142). -/
theorem leaveConverting_abandons {c : Channel} (converting : c.sup.state = .converting) :
    (leaveConverting c).sup = c.sup ∧ (leaveConverting c).csl = c.csl ∧ (leaveConverting c).cad = c.cad
      ∧ (leaveConverting c).int.stallMark = c.int.stallMark ∧ (∀ r ∈ (leaveConverting c).ren.record, r.state = .done)
      ∧ ∀ x, x ≠ .motionSkipped → x ≠ .gapHolds → x ≠ .renderAbandoned →
        (leaveConverting c).tally.get (chanCtrIx x) = c.tally.get (chanCtrIx x) := by
  have work := sweep_ringWork (abandonRender c)
  have frame := abandonRender_frame c
  rw [leaveConverting_left converting]
  refine ⟨?_, ?_, ?_, ?_, ?_, fun x skip gap render => (work.tally x skip gap).trans (abandonRender_tally c render)⟩
  · rw [work.frame, frame]
  · rw [work.frame, frame]
  · rw [work.frame, frame]
  · rw [work.frame, frame]
  · rw [sweep_ren]
    exact abandonRender_done c

/-! ## The stall (05/R90, 10/R169) -/

/-- A stall of a CONVERTING channel: what the entry into HOLDOVER leaves. -/
structure Stalled (now : Time) (g : ChanConfig) (c e : Channel) : Prop where
  sup : e.sup = { c.sup with state := .holdover, decay := none, holdover := some (shift now (g.holdoverMs * 27000 : Nat)) }
  mark : e.int.stallMark = true
  render : ∀ r ∈ e.ren.record, r.state = .done
  csl : e.csl = c.csl
  cad : e.cad = c.cad
  timebase : timebaseOf e.port = timebaseOf c.port
  stalls : e.tally.get (chanCtrIx .stall) = c.tally.get (chanCtrIx .stall) + 1
  holdovers : e.tally.get (chanCtrIx .holdovers) = c.tally.get (chanCtrIx .holdovers) + 1
  flagged : e.flags.get (chanFlagIx .channelHoldover) = true

theorem stalled_converting (now : Time) (g : ChanConfig) {c : Channel} (converting : c.sup.state = .converting) :
    Stalled now g c (enterHoldover ⟨now, g⟩ (noteStall c)) := by
  obtain ⟨sup, csl, cad, mark, render, tally⟩ := leaveConverting_abandons (c := noteStall c) converting
  have settings : settingsOf (leaveConverting (noteStall c)) = settingsOf (noteStall c) := leaveConverting_settings _
  have counted (x : ChanCtr) : (noteStall c).tally.get (chanCtrIx x) = c.tally.get (chanCtrIx x) + if x = .stall then 1 else 0 := by
    refine (countMany_get _ .stall x 1).trans ?_
    by_cases e : x = .stall <;> simp [e]
  unfold enterHoldover
  generalize leaveConverting (noteStall c) = d at sup csl cad mark render tally settings
  exact {
    sup := by rw [countFlag_sup, sup]; rfl
    mark := mark
    render := render
    csl := csl
    cad := cad
    timebase := congrArg (·.1) settings
    stalls := by rw [countFlag_tally]; simp [tally .stall, counted]
    holdovers := by rw [countFlag_tally]; simp [tally .holdovers, counted]
    flagged := by rw [countFlag_flags]; simp }

/-! ## The entry into LATCHED (10/R173) -/

theorem flush_flushes (now : Time) (c : Channel) :
    (flush now c).tally.get (chanCtrIx .flushes) = c.tally.get (chanCtrIx .flushes) + 1 := by
  have video (d : Channel) : (cadenceToVideo d).tally.get (chanCtrIx .flushes) = d.tally.get (chanCtrIx .flushes) := by
    unfold cadenceToVideo
    dsimp only
    split
    · rfl
    · exact (countFlag_tally ..).trans (by simp)
  have jobs (d : Channel) : (abandonJobs d).tally.get (chanCtrIx .flushes) = d.tally.get (chanCtrIx .flushes) := by
    unfold abandonJobs
    dsimp only
    split
    · exact (countMany_get ..).trans (if_neg (by decide))
    · rfl
  rw [flush_eq]
  refine (countMany_get ..).trans ((if_pos rfl).trans (congrArg (· + _) ?_))
  exact (video _).trans ((jobs _).trans (abandonRender_tally c (by decide)))

theorem flush_port (now : Time) (c : Channel) : (flush now c).port.lastGood = c.port.lastGood := by
  rw [show (flush now c).port = (abandonRender c).port from congrArg Outside.port (flush_outside now c)]
  unfold abandonRender
  split
  · split <;> rfl
  · rfl

/-- The deselection of a latched channel with an empty ring: its forced copy, its port and its flushes stand (04/R64). -/
theorem deselected_rest (env : Env) {c : Channel} (ring : EmptyRing c) (latched : c.sup.state = .latched) :
    (switchChannel env none none c).csl.forced = c.csl.forced ∧ (switchChannel env none none c).port = c.port
      ∧ (switchChannel env none none c).tally.get (chanCtrIx .flushes) = c.tally.get (chanCtrIx .flushes) := by
  have ring' : EmptyRing (aimed env none c) := ⟨ring.slots, ring.newest, ring.openSlot⟩
  have old := cadenceToVideo_outside (aimed env none c)
  have flushes : (cadenceToVideo (aimed env none c)).tally.get (chanCtrIx .flushes) = c.tally.get (chanCtrIx .flushes) := by
    unfold cadenceToVideo
    dsimp only
    split
    · rfl
    · exact (countFlag_tally ..).trans (by simp [aimed])
  rw [switchChannel_latched env latched, closeOld_emptyRing env ring']
  generalize cadenceToVideo (aimed env none c) = d at old flushes
  refine ⟨congrArg (·.csl.forced) old, congrArg Outside.port old, ?_⟩
  rw [countFlag_tally]
  simpa [admits] using flushes

/-- What the flush of the entry into LATCHED leaves of a channel whose holdover ran out at the limit, and a deselection
keeps. -/
structure FlushedOut (n : Nat) (c e : Channel) : Prop where
  sup : e.sup = { state := .latched, relock := n, acquisition := none, holdover := none, decay := none }
  forced : e.csl.forced = c.csl.forced
  slots : ∀ i, (slotOf e i).state = .free
  committed : e.int.committed = []
  history : e.int.history = []
  job : e.meu.job = none
  lastGood : e.port.lastGood = c.port.lastGood
  latches : e.tally.get (chanCtrIx .latches) = c.tally.get (chanCtrIx .latches)
  relocks : e.tally.get (chanCtrIx .relocks) = c.tally.get (chanCtrIx .relocks) + 1
  flushes : e.tally.get (chanCtrIx .flushes) = c.tally.get (chanCtrIx .flushes) + 1

/-- The channel of a relock that latches, before its flush. -/
def latching (c : Channel) : Channel := { countRelock c with
  sup := { state := .latched, relock := min (c.sup.relock + 1) 15, acquisition := none, holdover := none, decay := none } }

theorem startLatched_holdover (env : Env) {c : Channel} (holdover : c.sup.state = .holdover) :
    startLatched env (countRelock c) = flush env.now (latching c) := by
  have stays : leaveConverting (countRelock c) = countRelock c :=
    leaveConverting_stays fun e => by cases holdover.symm.trans e
  unfold startLatched
  rw [stays]
  rfl

theorem latching_tally (c : Channel) (x : ChanCtr) : (latching c).tally.get (chanCtrIx x)
    = c.tally.get (chanCtrIx x) + if x = .relocks then 1 else 0 := countRelock_tally c x

theorem flush_flushedOut (now : Time) (c : Channel) :
    FlushedOut (min (c.sup.relock + 1) 15) c (flush now (latching c)) := by
  have outside := flush_outside now (latching c)
  have ring := flush_ringEmpty now (latching c)
  have report {x : ChanCtr} (hx : x ∈ reportCounters) : (flush now (latching c)).tally.get (chanCtrIx x)
      = (latching c).tally.get (chanCtrIx x) :=
    outside_report (c := { latching c with port := (abandonRender (latching c)).port }) outside hx
  exact {
    sup := congrArg Outside.sup outside
    forced := congrArg (·.csl.forced) outside
    slots := fun i => by rw [ring.slots i]; rfl
    committed := ring.committed
    history := ring.history
    job := by rw [ring.motion]
    lastGood := flush_port now (latching c)
    latches := by rw [report (by decide), latching_tally]; simp
    relocks := by rw [report (by decide), latching_tally]; simp
    flushes := by rw [flush_flushes, latching_tally]; simp }

/-- The deselection of the flushed channel keeps all of it. -/
theorem FlushedOut.deselect {n : Nat} {c d : Channel} (h : FlushedOut n c d) (ring : EmptyRing d) (env : Env) :
    FlushedOut n c (switchChannel env none none d) := by
  have state : d.sup.state = .latched := by rw [h.sup]
  obtain ⟨int, -, sup, meu, -, tally, -⟩ := deselected (env := env) ring state
  obtain ⟨forced, port, flushes⟩ := deselected_rest env ring state
  exact {
    sup := sup.trans h.sup
    forced := forced.trans h.forced
    slots := fun i => by rw [slotOf, int]; exact h.slots i
    committed := by rw [int]; exact h.committed
    history := by rw [int]; exact h.history
    job := by rw [meu]; exact h.job
    lastGood := by rw [port]; exact h.lastGood
    latches := (tally _ (by decide) (by decide)).trans h.latches
    relocks := (tally _ (by decide) (by decide)).trans h.relocks
    flushes := flushes.trans h.flushes }

/-- A holdover that runs out at the limit flushes the channel and deselects, counted and flagged (10/R173). -/
theorem latchChannel_holdover (env : Env) {c : Channel} (holdover : c.sup.state = .holdover)
    (law : c.int.aim = c.csl.selection) : ∃ d, latchChannel env (countRelock c) = countFlag d .latches .channelLatched
      ∧ FlushedOut (min (c.sup.relock + 1) 15) c d ∧ d.csl.selection = none ∧ d.int.aim = none := by
  have flushed := flush_flushedOut env.now c
  have int := flush_int env.now (latching c)
  have csl : (flush env.now (latching c)).csl = c.csl := congrArg Outside.csl (flush_outside env.now (latching c))
  have empty := flush_ringEmpty env.now (latching c)
  have ring : EmptyRing (flush env.now (latching c)) := ⟨empty.slots, by rw [int]; rfl, empty.openSlot⟩
  unfold latchChannel
  rw [startLatched_holdover env holdover]
  dsimp only
  generalize flush env.now (latching c) = d at flushed int csl ring
  refine ⟨_, rfl, ?_⟩
  split
  · obtain ⟨int', selection, -⟩ := deselected (env := env) ring (by rw [flushed.sup])
    exact ⟨flushed.deselect ring env, selection, by rw [int']⟩
  · next none =>
    have selection : d.csl.selection = .none := Option.not_isSome_iff_eq_none.mp none
    refine ⟨flushed, selection, ?_⟩
    rw [int, show (flushedIntake env.now (latching c).int).aim = c.int.aim from rfl, law, ← csl, selection]

/-! ## The statement -/

theorem conclude_latched {k : Chan} {s : State} (latched : (chan s k).sup.state = .latched) :
    chan (conclude s) k = chan s k := by
  rw [chan, conclude_chans]
  exact settle_inactive s k (by rw [isSelecting, latched]; rfl)

section timers
variable (dt : Nat) {s : State} {k : Chan} {g : ChanConfig} (config : chanConfig s k = some g)
include config

/-- A holdover that runs out below the limit enters SAFE, and at the limit LATCHED (10/R170, R172, R173). -/
theorem holdoverTimer_due {d : Time} (state : (chan s k).sup.state = .holdover) (timer : (chan s k).sup.holdover = some d)
    (due : 0 ≤ sdiff (s.now + BitVec.ofNat 48 dt) d) : holdoverTimer k (advance dt s)
      = if g.relockLimit ≠ 0 ∧ min ((chan s k).sup.relock + 1) 15 = g.relockLimit
        then enterLatched k (onChan k countRelock (advance dt s))
        else onChan k enterSafe (onChan k countRelock (advance dt s)) := by
  have here : chan (onChan k countRelock (advance dt s)) k = countRelock (chan s k) := chan_onChan ..
  have expired : holdoverTimer k (advance dt s) = holdoverExpired k (advance dt s) := by
    refine if_pos ⟨state, ?_⟩
    rw [chan_advance, timer]
    exact decide_eq_true due
  rw [expired]
  unfold holdoverExpired
  refine if_congr ?_ rfl rfl
  rw [latches_iff (s := onChan k countRelock (advance dt s)) config, here]
  rfl

theorem stalled_due {d : Time} (active : activeState (chan s k).sup.state = true) (known : (chan s k).int.standard ≠ 0)
    (clear : (chan s k).int.stallMark = false) (last : (chan s k).int.lastCommitTime = some d)
    (due : 0 ≤ sdiff (s.now + BitVec.ofNat 48 dt) (shift d (3 * pCommit (chan s k).cad.mode (chan s k).int.pEst : Nat))) :
    stalled k (advance dt s) = { advance dt s with
      chans := s.chans.set k (stallReport ⟨s.now + BitVec.ofNat 48 dt, g⟩ (noteStall (chan s k))) } := by
  refine onConfigured_set (s := advance dt s) (g := g) config (if_pos ?_)
  simp only [stallDue, chan_advance, advance_now, active, clear, last, Option.any_some, reached]
  simpa [known] using due

end timers

/-- Settles O54: each event acts on its channel alone, and the channel that has latched rests through the end of the
command. -/
theorem supervisorEvents : Obligations.SupervisorEvents := by
  unfold Obligations.SupervisorEvents
  refine ⟨fun dt s k g c d now hc config hnow active known clear last due => ?_,
    fun dt s k g c now d n hc config hnow hn due => ?_⟩
  · subst hc hnow
    have stalled := stalled_due dt config active known clear last due
    refine ⟨fun other => ?_, fun converting => ?_⟩
    · have report : stallReport ⟨s.now + BitVec.ofNat 48 dt, g⟩ (noteStall (chan s k)) = noteStall (chan s k) := if_neg other
      rw [report] at stalled
      exact congrArg (fun t => Host.Outcome.next (conclude t)) stalled
    · have report : stallReport ⟨s.now + BitVec.ofNat 48 dt, g⟩ (noteStall (chan s k))
          = enterHoldover ⟨s.now + BitVec.ofNat 48 dt, g⟩ (noteStall (chan s k)) := if_pos converting
      rw [report] at stalled
      obtain ⟨sup, mark, render, csl, cad, timebase, stalls, holdovers, flagged⟩ :=
        stalled_converting (s.now + BitVec.ofNat 48 dt) g converting
      exact ⟨_, congrArg (fun t => Host.Outcome.next (conclude t)) stalled, sup, mark, render, csl, cad, timebase, stalls,
        holdovers, flagged⟩
  · subst hc hnow
    have reaches (timer : Option Time) (set : timer = some d) : Machine.due (s.now + BitVec.ofNat 48 dt) timer = true := by
      rw [set]; exact decide_eq_true due
    refine ⟨fun state timer => ?_, fun state timer => ⟨fun below => ?_, fun limited limit law => ?_⟩, fun state timer => ?_⟩
    · have expired : acquisitionTimer k (advance dt s) = onChan k acquisitionExpired (advance dt s) :=
        if_pos ⟨state, reaches _ timer⟩
      exact congrArg (fun t => Host.Outcome.next (conclude t)) expired
    · have expired := holdoverTimer_due dt config state timer due
      rw [if_neg (by rw [← hn]; tauto)] at expired
      have safe : onChan k enterSafe (onChan k countRelock (advance dt s))
          = { advance dt s with chans := s.chans.set k (enterSafe (countRelock (chan s k))) } := by
        rw [onChan_onChan]
        rfl
      rw [safe, countRelock, ← hn] at expired
      exact congrArg (fun t => Host.Outcome.next (conclude t)) expired
    · have expired := holdoverTimer_due dt config state timer due
      rw [if_pos (by rw [← hn]; exact ⟨limited, limit⟩)] at expired
      obtain ⟨d', latched, flushed, selection, aim⟩ := latchChannel_holdover ⟨s.now + BitVec.ofNat 48 dt, g⟩ state (law k).1
      have here : chan (enterLatched k (onChan k countRelock (advance dt s))) k = countFlag d' .latches .channelLatched := by
        rw [chan_enterLatched (s := onChan k countRelock (advance dt s)) config, chan_onChan]
        exact latched
      rw [← hn] at flushed
      obtain ⟨sup, forced, slots, committed, history, job, lastGood, latches, relocks, flushes⟩ := flushed
      have rests := conclude_latched (s := enterLatched k (onChan k countRelock (advance dt s))) (k := k)
        (by rw [here, countFlag_sup, sup])
      refine ⟨_, _, congrArg (fun t => Host.Outcome.next (conclude t)) expired, rfl, ?_⟩
      rw [rests, here]
      refine ⟨sup, selection, forced, aim, slots, committed, history, job, lastGood, ?_, ?_, ?_, ?_⟩
      · rw [countFlag_tally, latches]; simp
      · rw [countFlag_tally, relocks]; simp
      · rw [countFlag_tally, flushes]; simp
      · rw [countFlag_flags]; simp
    · have expired : decayTimer k (advance dt s) = onConfigured k decayExpired (advance dt s) :=
        if_pos ⟨state, reaches _ timer⟩
      rw [onConfigured_set (s := advance dt s) config rfl] at expired
      exact congrArg (fun t => Host.Outcome.next (conclude t)) expired

end Sys2Proof.Machine
end

section
/-! A commit, taken or refused, and the end of a finish (05/R80, R82, R86, 07/R113, 08/R130 to R132). -/

namespace Sys2Proof.Machine

/-! ## What the Render Engine makes of a commit (08/R130 to R132) -/

theorem weigh_frame (c : Channel) (a b : SlotNo) (r : Time) :
    (weigh c a b r).2 = { c with tally := (weigh c a b r).2.tally } := by
  unfold weigh
  split <;> rfl

theorem withRecord_ren (r : Option RenderRecord) (c : Channel) : (withRecord r c).ren = { c.ren with record := r } := rfl

theorem weigh_tally (c : Channel) (a b : SlotNo) (r : Time) {x : ChanCtr} (other : x ≠ .gapHolds) :
    (weigh c a b r).2.tally.get (chanCtrIx x) = c.tally.get (chanCtrIx x) := by
  unfold weigh
  split
  · exact (countMany_get ..).trans (if_neg other)
  · rfl

/-- The preliminary weight and the count of the gap rule (08/R131, R132). -/
theorem weigh_gap {c : Channel} {a b : SlotNo} {gap : Bool} (held : gapHeld c (stampOf c a) (stampOf c b) = gap) (r : Time) :
    (weigh c a b r).1 = (if gap then 0 else baseWeight (stampOf c a) (stampOf c b) r)
      ∧ (weigh c a b r).2.tally.get (chanCtrIx .gapHolds)
        = c.tally.get (chanCtrIx .gapHolds) + (if gap then 1 else 0) := by
  unfold weigh
  rw [held]
  cases gap with
  | true => exact ⟨rfl, (countMany_get ..).trans (if_pos rfl)⟩
  | false => exact ⟨rfl, (add_zero _).symm⟩

section told
variable {c : Channel} {r : RenderRecord} (record : c.ren.record = some r)
include record

theorem noteCommit_other (other : r.state ≠ .waiting ∨ r.early = true ∨ r.b.isSome) (i : SlotNo) : noteCommit i c = c := by
  unfold noteCommit
  rw [record]
  refine if_neg ?_
  rintro ⟨waiting, awaits⟩
  obtain ⟨early, none⟩ : r.early = false ∧ r.b = none := by simpa [awaitingB] using awaits
  simp [waiting, early, none] at other

variable (waiting : r.state = .waiting) (early : r.early = false) (none : r.b = none) {i : SlotNo}
include waiting early none

theorem noteCommit_before (before : atOrBefore c r.point i = true) : noteCommit i c
    = sweep { c with int := { c.int with retireRef := some i }, ren := { c.ren with record := some { r with a := i } } } := by
  unfold noteCommit
  rw [record]
  dsimp only
  rw [if_pos ⟨waiting, by simp [awaitingB, early, none]⟩, if_pos before]
  rfl

theorem noteCommit_after (after : atOrBefore c r.point i = false) : noteCommit i c
    = withRecord (some { r with b := some i, prelim := some (weigh c r.a i r.point).1 }) (weigh c r.a i r.point).2 := by
  unfold noteCommit
  rw [record]
  dsimp only
  rw [if_pos ⟨waiting, by simp [awaitingB, early, none]⟩, if_neg (by rw [after]; decide)]

end told

/-- A picture that no waiting record takes as its A touches neither the ring nor the estimator. -/
theorem noteCommit_later {c : Channel} {i : SlotNo} (after : ∀ r, c.ren.record = some r → r.state = .waiting →
      r.early = false → r.b = none → atOrBefore c r.point i = false) : (noteCommit i c).int = c.int
        ∧ (noteCommit i c).meu = c.meu ∧ ∀ x, x ≠ .gapHolds → (noteCommit i c).tally.get (chanCtrIx x)
          = c.tally.get (chanCtrIx x) := by
  cases record : c.ren.record with
  | none =>
    have same : noteCommit i c = c := by unfold noteCommit; rw [record]
    rw [same]
    exact ⟨rfl, rfl, fun _ _ => rfl⟩
  | some r =>
    by_cases other : r.state ≠ .waiting ∨ r.early = true ∨ r.b.isSome
    · rw [noteCommit_other record other]
      exact ⟨rfl, rfl, fun _ _ => rfl⟩
    · simp only [not_or, not_not, Bool.not_eq_true, Option.isSome_eq_false_iff, Option.isNone_iff_eq_none] at other
      obtain ⟨waiting, early, none⟩ := other
      have frame := weigh_frame c r.a i r.point
      rw [noteCommit_after record waiting early none (after r record waiting early none)]
      refine ⟨?_, ?_, fun x gap => weigh_tally c r.a i r.point gap⟩
      · exact (congrArg Channel.int frame :)
      · exact (congrArg Channel.meu frame :)

/-! ## The commit (05/R80, 07/R113) -/

/-- The channel whose Motion Estimator has heard of a commit (07/R113, notes/assumptions/49). -/
def told (env : Env) (i : SlotNo) (stamp : Time) (plan : Option Finish) (c : Channel) : Channel :=
  pairUp c.int.committed i (committing env i stamp plan c)

theorem pairUp_frame (before : List SlotNo) (b : SlotNo) (c : Channel) :
    pairUp before b c = { c with meu := (pairUp before b c).meu, tally := (pairUp before b c).tally } := by
  unfold pairUp
  split <;> rfl

section commit
variable (env : Env) (i : SlotNo) (stamp : Time) (plan : Option Finish) (c : Channel)

theorem told_int : (told env i stamp plan c).int = (committing env i stamp plan c).int :=
  (congrArg Channel.int (pairUp_frame c.int.committed i (committing env i stamp plan c)) :)

theorem told_ren : (told env i stamp plan c).ren = c.ren :=
  (congrArg Channel.ren (pairUp_frame c.int.committed i (committing env i stamp plan c)) :)

theorem told_cad : (told env i stamp plan c).cad = c.cad :=
  (congrArg Channel.cad (pairUp_frame c.int.committed i (committing env i stamp plan c)) :)

theorem told_slot (j : SlotNo) : slotOf (told env i stamp plan c) j
    = if j = i then committedSlot stamp plan (slotOf c i) else slotOf c j :=
  (slotOf_pairUp ..).trans (slotOf_committing ..)

theorem told_tally {x : ChanCtr} (other : x ≠ .motionSkipped) : (told env i stamp plan c).tally.get (chanCtrIx x)
    = c.tally.get (chanCtrIx x) + if x = .committed then 1 else 0 := by
  have counted : (committing env i stamp plan c).tally.get (chanCtrIx x)
      = c.tally.get (chanCtrIx x) + if x = .committed then 1 else 0 := by
    refine (countMany_get _ .committed x 1).trans ?_
    by_cases e : x = .committed <;> simp [e]
  rw [← counted]
  unfold told pairUp
  split
  · rfl
  · exact (countMany_get ..).trans (if_neg other)

theorem told_gaps : (told env i stamp plan c).tally.get (chanCtrIx .gapHolds) = c.tally.get (chanCtrIx .gapHolds) := by
  rw [told_tally env i stamp plan c (by decide), if_neg (by decide), add_zero]

theorem told_pairs {a : SlotNo} (last : c.int.committed.getLast? = some a) :
    (told env i stamp plan c).meu.pending = c.meu.pending ++ [⟨i, a⟩] := by
  unfold told pairUp
  rw [last]
  rfl

theorem told_first (empty : c.int.committed = []) : (told env i stamp plan c).meu.pending = c.meu.pending
    ∧ (told env i stamp plan c).tally.get (chanCtrIx .motionSkipped) = c.tally.get (chanCtrIx .motionSkipped) + 1 := by
  unfold told pairUp
  rw [empty]
  refine ⟨rfl, (countMany_get ..).trans ((if_pos rfl).trans (congrArg (· + _) ?_))⟩
  exact (countMany_get ..).trans (if_neg (by decide))

theorem told_stamp : stampOf (told env i stamp plan c) i = stamp := by
  rw [stampOf, told_slot, if_pos rfl]
  rfl

theorem committedSlot_eq : committedSlot stamp plan (slotOf c i) = { slotOf c i with
    committed := some stamp, state := if plan = none then .complete else .finishing, finish := plan } := by
  cases plan <;> rfl

variable {c}

theorem commit_told (later : ∀ t, c.int.lastCommitted = some t → 0 < sdiff stamp t) :
    commit env i stamp plan c = noteCommit i (told env i stamp plan c) := by
  have taken : refuses c stamp = false := by
    unfold refuses
    cases last : c.int.lastCommitted with
    | none => rfl
    | some t => simpa using later_iff.mpr (later t last)
  rw [commit_eq, if_neg (by rw [taken]; decide)]
  rfl

end commit

theorem laterOf_reached (held : Option Time) (t : Time) : 0 ≤ sdiff (laterOf held t) t := by
  have same : sdiff t t = 0 := sdiff_eq_zero_iff.mpr rfl
  unfold laterOf
  split
  · split
    · next late => exact (later_iff.mp late).le
    · exact same.ge
  · exact same.ge

theorem told_atOrBefore (env : Env) (i : SlotNo) (stamp : Time) (plan : Option Finish) (c : Channel) (point : Time) :
    atOrBefore (told env i stamp plan c) point i = decide (0 ≤ sdiff point stamp) := by
  rw [atOrBefore, told_stamp]
  rfl

/-! ## The end of a finish (05/R82, R86) -/

/-- A ring without a retirement reference and without a HISTORY slot has nothing to free. -/
theorem sweep_nothing {c : Channel} (none : c.int.retireRef = none) (kept : ∀ j, (slotOf c j).state ≠ .history) :
    sweep c = c := by
  have retire (i : SlotNo) : retireOne c i = c := if_neg fun ripe => by
    obtain ⟨r, -, -, some, -⟩ := retirable_iff.mp ripe
    rw [none] at some
    cases some
  have history (i : SlotNo) : freeHistoryOne c i = c := if_neg fun e => kept i e.1
  unfold sweep retireAll
  rw [List.foldl_fixed' retire, List.foldl_fixed' history]

theorem onSlot_congr {i : SlotNo} {f g : Slot → Slot} {c : Channel} (h : f (slotOf c i) = g (slotOf c i)) :
    onSlot i f c = onSlot i g c :=
  congrArg (fun x => { c with int := { c.int with slots := c.int.slots.set i x } }) h

/-! ## The statement -/

section commit
variable {env : Env} {i : SlotNo} {stamp : Time} {plan : Option Finish} {c : Channel}
  (later : ∀ t, c.int.lastCommitted = some t → 0 < sdiff stamp t) {r : RenderRecord} (record : c.ren.record = some r)
  (waiting : r.state = .waiting) (early : r.early = false) (none : r.b = none)
include later record waiting early none

/-- A commit at or before the render point becomes the waiting record's A, with retirement (08/R130). -/
theorem commit_before (before : 0 ≤ sdiff r.point stamp) :
    (commit env i stamp plan c).ren = { c.ren with record := some { r with a := i } }
      ∧ (commit env i stamp plan c).int.retireRef = some i
      ∧ slotOf (commit env i stamp plan c) i = committedSlot stamp plan (slotOf c i)
      ∧ RingWork (told env i stamp plan c) (commit env i stamp plan c)
      ∧ (commit env i stamp plan c).tally.get (chanCtrIx .gapHolds) = c.tally.get (chanCtrIx .gapHolds) := by
  have work := noteCommit_ringWork i (told env i stamp plan c)
  rw [commit_told env i stamp plan later]
  have record' : (told env i stamp plan c).ren.record = some r := by rw [told_ren]; exact record
  have slot := (told_slot env i stamp plan c i).trans (if_pos rfl)
  have kept : slotOf (noteCommit i (told env i stamp plan c)) i = slotOf (told env i stamp plan c) i := by
    refine slotOf_noteCommit ?_
    rw [slot]
    rcases committedSlot_state stamp plan (slotOf c i) with e | e <;> rw [e] <;> decide
  refine ⟨?_, ?_, kept.trans slot, work, ?_⟩
  all_goals rw [noteCommit_before record' waiting early none (by rw [told_atOrBefore]; exact decide_eq_true before)]
  · rw [sweep_ren]
    exact congrArg (fun x : Render => { x with record := some { r with a := i } }) (told_ren ..)
  · rw [sweep_retireRef]
  · rw [sweep_tally (by decide)]
    exact told_gaps ..

/-- A later commit becomes the waiting record's B, with its preliminary weight and the gap rule (08/R130 to R132). -/
theorem commit_after (after : sdiff r.point stamp < 0) {tA : Time} (stampA : (slotOf c r.a).committed = some tA)
    (other : r.a ≠ i) {gap : Bool} (held : gap = true ↔ 3 * (pCommit c.cad.mode c.int.pEst : Int) < sdiff stamp tA) :
    (commit env i stamp plan c).ren = { c.ren with record := some { r with
        b := some i, prelim := some (if gap then 0 else baseWeight tA stamp r.point) } }
      ∧ (commit env i stamp plan c).tally.get (chanCtrIx .gapHolds)
        = c.tally.get (chanCtrIx .gapHolds) + (if gap then 1 else 0) := by
  have record' : (told env i stamp plan c).ren.record = some r := by rw [told_ren]; exact record
  have stamp' : stampOf (told env i stamp plan c) r.a = tA := by
    rw [stampOf, told_slot, if_neg other, stampA]
    rfl
  have gap' : gapHeld (told env i stamp plan c) (stampOf (told env i stamp plan c) r.a)
      (stampOf (told env i stamp plan c) i) = gap := by
    rw [Bool.eq_iff_iff, held, gapHeld, stamp', told_stamp, told_cad, told_int, decide_eq_true_eq]
    rfl
  obtain ⟨weight, counted⟩ := weigh_gap gap' r.point
  rw [commit_told env i stamp plan later, noteCommit_after record' waiting early none
    (by rw [told_atOrBefore]; exact decide_eq_false (by omega)), weight, stamp', told_stamp]
  have ren : (weigh (told env i stamp plan c) r.a i r.point).2.ren = c.ren :=
    (congrArg Channel.ren (weigh_frame (told env i stamp plan c) r.a i r.point) :).trans (told_ren ..)
  refine ⟨(withRecord_ren ..).trans (by rw [ren]), counted.trans (congrArg (· + _) ?_)⟩
  exact told_gaps ..

end commit

/-- Settles O41: a commit taken is told to the estimator and then to the Render Engine, whose record decides what else
moves. -/
theorem commitAndFinish : Obligations.CommitAndFinish := by
  unfold Obligations.CommitAndFinish
  refine ⟨fun env i stamp plan c d hd => ⟨fun later after => ?_, fun r later record => ⟨fun other => ?_,
    fun waiting early none => ⟨fun before => ?_, fun tA gap after stampA other held => ?_⟩⟩, fun ⟨t, last, early⟩ => ?_⟩,
    fun dt s k i g config finishing => ?_⟩
  · obtain ⟨int, meu, tally⟩ := noteCommit_later (c := told env i stamp plan c) (i := i) fun r record waiting early none => by
      rw [told_ren] at record
      rw [told_atOrBefore]
      exact decide_eq_false (by have := after r record waiting early none; omega)
    rw [← commit_told env i stamp plan later, ← hd] at int meu tally
    rw [told_int] at int
    have slot (j : SlotNo) : slotOf d j = if j = i then committedSlot stamp plan (slotOf c i) else slotOf c j := by
      rw [slotOf, int]
      exact slotOf_committing ..
    refine ⟨by rw [int]; rfl, by rw [int]; rfl, by rw [int]; rfl, by rw [int]; rfl,
      ⟨_, by rw [int]; rfl, laterOf_reached c.int.newest stamp⟩, ?_, fun j ne => ?_, ?_, fun a last => ?_, fun empty => ?_⟩
    · rw [slot, if_pos rfl, committedSlot_eq]
    · rw [slot, if_neg ne]
    · rw [tally _ (by decide), told_tally env i stamp plan c (by decide), if_pos rfl]
    · rw [meu, told_pairs env i stamp plan c last]
    · rw [meu, tally _ (by decide)]
      exact told_first env i stamp plan c empty
  · have record' : (told env i stamp plan c).ren.record = some r := by rw [told_ren]; exact record
    rw [hd, commit_told env i stamp plan later, noteCommit_other record' other]
    exact ⟨told_ren .., told_gaps ..⟩
  · obtain ⟨ren, retire, slot, work, gaps⟩ := commit_before (env := env) (plan := plan) (i := i) later record waiting early none
      before
    rw [← hd] at ren retire slot work gaps
    have state : (slotOf d i).state ≠ .free := by
      rw [slot]
      rcases committedSlot_state stamp plan (slotOf c i) with e | e <;> rw [e] <;> decide
    obtain ⟨-, listed⟩ := (work.slots i).resolve_right fun ⟨empty, _⟩ => state (by rw [empty]; rfl)
    have int : d.int = { (committing env i stamp plan c).int with
        slots := d.int.slots, committed := d.int.committed, retireRef := d.int.retireRef } := by
      rw [← told_int]
      exact congrArg Channel.int work.frame
    refine ⟨ren, retire, listed ?_, by rw [int]; rfl, by rw [int]; rfl, by rw [int]; rfl, ?_, fun j ne => ?_, ?_, gaps⟩
    · rw [told_int]
      exact List.mem_append_right _ (List.mem_singleton_self i)
    · rw [slot, committedSlot_eq]
    · have same := (told_slot env i stamp plan c j).trans (if_neg ne)
      rw [← same]
      exact (work.slots j).imp (·.1) (·.1)
    · rw [work.tally _ (by decide) (by decide), told_tally env i stamp plan c (by decide), if_pos rfl]
  · rw [hd]
    exact commit_after later record waiting early none after stampA other held
  · rw [hd]
    exact commit_refused last early
  · refine ⟨_, ?_, rfl, fun none kept => sweep_nothing none fun j => ?_⟩
    · have ends : onConfigured k (finishSlot · i) (advance dt s) = { advance dt s with
          chans := s.chans.set k (finishSlot ⟨(advance dt s).now, g⟩ i (chan s k)) } :=
        onConfigured_set (s := advance dt s) config rfl
      rw [finishSlot, if_pos finishing, onSlot_congr (f := fun x => { x with
        state := .complete, finish := none, planes := finishedPlanes ⟨(advance dt s).now, g⟩ (chan s k) x })
        (g := fun x => { x with
          state := .complete, finish := none
          planes := finishedPlanes ⟨(advance dt s).now, g⟩ (chan s k) (slotOf (chan s k) i) }) rfl] at ends
      exact congrArg (fun t => Host.Outcome.next (conclude t)) ends
    · rw [slotOf, Bank.get_modify]
      split
      · nofun
      · exact kept j

end Sys2Proof.Machine
end

section
/-! Lines received and pictures closed (03/R50, 05/R70, R75 to R78). -/

namespace Sys2Proof.Machine

/-! ## The record's way to the channel (03/R50, 05/R70) -/

theorem ofWindow_taken {env : Env} {c : Channel} {q : Copy} {n : StationNo} {pub : PubIx} {feed : FeedNo}
    (aim : c.int.aim = some q) (carried : env.cfg.feed = some feed) (same : q.pub = pub)
    (station : ∀ l, q.origin = .lane l → q.station = n) : ofWindow env c q.origin n pub feed = true := by
  unfold ofWindow
  rw [aim]
  cases origin : q.origin with
  | internal => simp [carried, same, origin]
  | lane l => simp [carried, same, origin, station l origin]

theorem linesToChannel_taken {via : Origin} {r : LinesRecord} {k : Chan} {s : State} {g : ChanConfig}
    (config : chanConfig s k = some g) (heard : ofWindow ⟨s.now, g⟩ (chan s k) via r.origin r.pub r.feed = true) :
    linesToChannel via r k s = { s with chans := s.chans.set k (takeLines ⟨s.now, g⟩ r (chan s k)) } := by
  unfold linesToChannel
  rw [config]
  exact if_pos heard

/-- Two channels' windows take a record of a lane in either order. -/
theorem deliver_lines (l : LaneNo) (arrival : Time) (r : LinesRecord) (k : Chan) (s : State) :
    deliver l arrival (.lines r) s = linesToChannel (.lane l) r k (linesToChannel (.lane l) r (otherChan k) s) := by
  rw [deliver]
  rcases (by decide +revert : k = 0 ∨ k = 1) with rfl | rfl
  · exact Local.comm (by decide : (1 : Chan) ≠ 0) (linesToChannel_local (.lane l) r 1)
      (linesToChannel_local (.lane l) r 0) s
  · rfl

/-- A LINES record of the window is taken by its channel alone, whichever way it comes. -/
theorem lines_taken {dt flight : Nat} {l : LaneNo} {words : List Word} {s v y : State} {k : Chan} {g : ChanConfig}
    {q : Copy} {r : LinesRecord} {out : Channel → Prop} (config : chanConfig s k = some g) (feed : g.feed = some r.feed)
    (aim : (chan s k).int.aim = some q) (pub : q.pub = r.pub)
    (cases : q.origin = .lane l ∧ q.station = r.origin ∧ checkRecord words = .ok (.lines r)
        ∧ v = { advance dt s with
            lanes := s.lanes.modify l fun x => { x with tally := addCount x.tally (laneCtrIx .rxRecords) 1 } }
        ∧ ((∀ x, (chan s (otherChan k)).int.aim = some x → x.origin ≠ .lane l) ∧ y = v
          ∨ y = linesToChannel (.lane l) r (otherChan k) v)
        ∧ (∀ x, out x ↔ exec (.recordReceived dt l flight words) s = .next (conclude { y with chans := y.chans.set k x }))
      ∨ q.origin = .lane l ∧ q.station = r.origin ∧ v = s
        ∧ (∀ x, out x ↔ linesToChannel (.lane l) r k s = { s with chans := s.chans.set k x })
      ∨ q.origin = .internal ∧ v = s
        ∧ (∀ x, out x ↔ linesToChannel .internal r k s = { s with chans := s.chans.set k x })) :
    out (takeLines ⟨v.now, g⟩ r (chan s k)) := by
  have taken {u : State} (same : chan u k = chan s k) (config : chanConfig u k = some g)
      (station : ∀ l, q.origin = .lane l → q.station = r.origin) : linesToChannel q.origin r k u
        = { u with chans := u.chans.set k (takeLines ⟨u.now, g⟩ r (chan s k)) } := by
    rw [← same] at aim ⊢
    exact linesToChannel_taken config (ofWindow_taken aim feed pub station)
  obtain ⟨origin, station, ok, hv, hy, hout⟩ | ⟨origin, station, rfl, hout⟩ | ⟨origin, rfl, hout⟩ := cases
  · have counted : v = onLane l (fun x => countLane x .rxRecords) (advance dt s) := hv
    have hy : y = linesToChannel (.lane l) r (otherChan k) v := by
      obtain ⟨elsewhere, rfl⟩ | rfl := hy
      · exact (linesToChannel_elsewhere fun g _ => ofWindow_false fun x aim => .inl (elsewhere x (by
          rw [hv] at aim; exact aim))).symm
      · rfl
    have within : WithinChannels v y := hy ▸ (linesToChannel_local (.lane l) r (otherChan k)).within v
    have same : chan y k = chan s k := by
      rw [hy, (linesToChannel_local _ _ _).other (other_ne k).symm, hv]; rfl
    have config' : chanConfig y k = some g := by
      rw [chanConfig_within within k, hv]; exact config
    rw [hout, recordReceived_eq dt flight l s (words_of_ok ok), receiveRecord_ok _ ok, deliver_lines l _ r k, ← counted,
      ← hy, ← origin, taken same config' fun _ _ => station, show y.now = v.now from within.link.now]
  · rw [hout, ← origin]
    exact taken rfl config fun _ _ => station
  · rw [hout, ← origin]
    exact taken rfl config fun l lane => by rw [origin] at lane; cases lane

/-! ## Samples written (05/R75) -/

theorem takeLines_open {env : Env} {r : LinesRecord} {c : Channel} {i : SlotNo} {crop : Rect} {raw : RawPicture}
    (opened : c.int.openSlot = some i) (cropped : c.int.crop = some crop) (last : (slotOf c i).raws.getLast? = some raw)
    (sequence : raw.sequence = r.sequence) : takeLines env r c
      = if r.last then closeOpen env (onSlot i (writeGroups crop (frameLine raw.kind r.line) r.groups r.first) c)
        else onSlot i (writeGroups crop (frameLine raw.kind r.line) r.groups r.first) c := by
  unfold takeLines
  dsimp only
  rw [opened, cropped]
  dsimp only
  rw [last]
  exact if_pos sequence

theorem pairKey_inj {l m x y : Nat} (hx : x < 2048) (hy : y < 2048) (ex : x % 2 = 0) (ey : y % 2 = 0) :
    pairKey l x = pairKey m y ↔ l = m ∧ x = y := by
  unfold pairKey
  omega

/-- The groups of a record stand at their places inside the crop, and all else as it was. -/
structure Wrote (crop : Rect) (f : Nat) (gs : List SampleGroup) (x : Nat) (s t : Slot) : Prop where
  wf : planesWf t.planes = true
  here : ∀ y g, y % 2 = 0 → y < 2048 → inRect crop f y = true → x ≤ y → gs[(y - x) / 2]? = some g →
    readGroup t.planes f y = g ∧ pairKey f y ∈ t.received
  there : ∀ l y, y % 2 = 0 → y < 2048 → (l ≠ f ∨ inRect crop l y = false ∨ y < x ∨ gs[(y - x) / 2]? = none) →
    readGroup t.planes l y = readGroup s.planes l y ∧ (pairKey l y ∈ t.received ↔ pairKey l y ∈ s.received)

/-- The slot after one group of a record, written where it lies inside the crop (05/R75). -/
def writePair (crop : Rect) (f x : Nat) (g : SampleGroup) (s : Slot) : Slot :=
  if inRect crop f x then { s with planes := writeGroup s.planes f x g, received := insertKey s.received (pairKey f x) }
  else s

theorem writePair_reads {crop : Rect} (paired : Paired crop) {f x : Nat} (even : x % 2 = 0) (g : SampleGroup) {s : Slot}
    (wf : planesWf s.planes = true) : planesWf (writePair crop f x g s).planes = true
      ∧ ∀ l y, y % 2 = 0 → y < 2048 →
        readGroup (writePair crop f x g s).planes l y
          = (if (l = f ∧ y = x) ∧ inRect crop f x = true then g else readGroup s.planes l y)
        ∧ (pairKey l y ∈ (writePair crop f x g s).received
          ↔ (l = f ∧ y = x) ∧ inRect crop f x = true ∨ pairKey l y ∈ s.received) := by
  unfold writePair
  split
  · next inside =>
    obtain ⟨-, -, high⟩ := inRect_iff.mp inside
    have small : x < 2048 := Nat.lt_of_lt_of_le high paired.within
    refine ⟨writeGroup_wf wf f x g, fun l y ey hy => ⟨?_, ?_⟩⟩
    · simp only [readGroup_writeGroup wf small hy even ey, inside, and_true]
    · simp only [mem_insertKey, pairKey_inj hy small ey even, inside, and_true]
  · next outside =>
    refine ⟨wf, fun l y _ _ => ⟨?_, ?_⟩⟩ <;> simp [outside]

theorem writeGroups_wrote {crop : Rect} (paired : Paired crop) (f : Nat) (gs : List SampleGroup) {x : Nat}
    (even : x % 2 = 0) {s : Slot} (wf : planesWf s.planes = true) : Wrote crop f gs x s (writeGroups crop f gs x s) := by
  induction gs generalizing x s with
  | nil => exact ⟨wf, fun _ _ _ _ _ _ none => (nomatch none), fun _ _ _ _ _ => ⟨rfl, .rfl⟩⟩
  | cons g rest ih =>
    obtain ⟨wf', pair⟩ := writePair_reads paired (f := f) even g wf
    obtain ⟨wf'', here, there⟩ := ih (x := x + 2) (s := writePair crop f x g s) (by omega) wf'
    have index {y : Nat} (far : x + 2 ≤ y) : (g :: rest)[(y - x) / 2]? = rest[(y - (x + 2)) / 2]? := by
      rw [show (y - x) / 2 = (y - (x + 2)) / 2 + 1 by omega, List.getElem?_cons_succ]
    refine ⟨wf'', fun y h ey hy inside low held => ?_, fun l y ey hy elsewhere => ?_⟩
    · by_cases first : y = x
      · subst first
        obtain rfl : g = h := by simpa using held
        obtain ⟨read, marked⟩ := there f y ey hy (.inr (.inr (.inl (by omega))))
        obtain ⟨read', marked'⟩ := pair f y ey hy
        exact ⟨read.trans (read'.trans (if_pos ⟨⟨rfl, rfl⟩, inside⟩)), marked.mpr (marked'.mpr (.inl ⟨⟨rfl, rfl⟩, inside⟩))⟩
      · have far : x + 2 ≤ y := by omega
        exact here y h ey hy inside far (index far ▸ held)
    · have apart : ¬ ((l = f ∧ y = x) ∧ inRect crop f x = true) := by
        rintro ⟨⟨rfl, rfl⟩, inside⟩
        simp [inside] at elsewhere
      have later : l ≠ f ∨ inRect crop l y = false ∨ y < x + 2 ∨ rest[(y - (x + 2)) / 2]? = none := by
        refine elsewhere.imp_right fun e => e.imp_right fun e => ?_
        by_cases far : x + 2 ≤ y
        · exact .inr (index far ▸ e.resolve_left (by omega))
        · exact .inl (by omega)
      obtain ⟨read, marked⟩ := there l y ey hy later
      obtain ⟨read', marked'⟩ := pair l y ey hy
      exact ⟨read.trans (read'.trans (if_neg apart)), marked.trans (marked'.trans (or_iff_right apart))⟩

/-! ## The fill of missing lines (05/R77) -/

theorem fillFrom_mem {present : List Nat} {l a : Nat} (h : fillFrom present l = some a) : a ∈ present := by
  unfold fillFrom at h
  split at h
  · next b last =>
    cases h
    exact (List.mem_filter.mp (List.mem_of_getLast? last)).1
  · exact (List.mem_filter.mp (List.mem_of_head? h)).1

section source
variable {present : List Nat} (sorted : present.Pairwise (· < ·)) {l a : Nat} (mem : a ∈ present)
include sorted mem

theorem fillFrom_above (above : a < l) (nearest : ∀ b ∈ present, b < l → b ≤ a) : fillFrom present l = some a := by
  have inside : a ∈ present.filter (· < l) := List.mem_filter.mpr ⟨mem, decide_eq_true above⟩
  obtain ⟨c, last⟩ := Option.ne_none_iff_exists'.mp (mt List.getLast?_eq_none_iff.mp (List.ne_nil_of_mem inside))
  obtain ⟨held, under⟩ := List.mem_filter.mp (List.mem_of_getLast? last)
  have low : c ≤ a := nearest c held (of_decide_eq_true under)
  have high : a ≤ c := by
    obtain ⟨ys, list⟩ := List.getLast?_eq_some_iff.mp last
    have order := sorted.filter (· < l)
    rw [list] at order inside
    rcases List.mem_append.mp inside with early | final
    · exact ((List.pairwise_append.mp order).2.2 a early c (List.mem_singleton_self c)).le
    · exact (List.mem_singleton.mp final).le
  unfold fillFrom
  rw [last, le_antisymm low high]

theorem fillFrom_below (below : l < a) (nearest : ∀ b ∈ present, a ≤ b) : fillFrom present l = some a := by
  have none : present.filter (· < l) = [] :=
    List.filter_eq_nil_iff.mpr fun b held => by have := nearest b held; simp; omega
  have all : present.filter (l < ·) = present :=
    List.filter_eq_self.mpr fun b held => by have := nearest b held; simp; omega
  unfold fillFrom
  rw [none, all]
  cases present with
  | nil => cases mem
  | cons c rest =>
    have low := nearest c List.mem_cons_self
    rcases List.mem_cons.mp mem with rfl | later
    · rfl
    · exact absurd (List.rel_of_pairwise_cons sorted later) (by omega)

end source

/-- One missing line filled from its source, which stays where none is found. -/
def fillLine (crop : Rect) (present : List Nat) (q : Planes) (l : Nat) : Planes :=
  match fillFrom present l with
  | some src => copyLine crop src l q
  | none => q

theorem fillMissing_eq (crop : Rect) (present missing : List Nat) (p : Planes) :
    fillMissing crop present missing p = missing.foldl (fillLine crop present) p := rfl

theorem fillLine_reads {crop : Rect} (paired : Paired crop) (present : List Nat) {p : Planes} (wf : planesWf p = true)
    (m : Nat) : planesWf (fillLine crop present p m) = true ∧ ∀ l y, y < 2048 → y % 2 = 0 →
      readGroup (fillLine crop present p m) l y
        = if l = m ∧ crop.firstSample ≤ y ∧ y < crop.firstSample + crop.sampleCount
          then readGroup p ((fillFrom present m).getD m) y else readGroup p l y := by
  unfold fillLine
  cases fillFrom present m with
  | none =>
    refine ⟨wf, fun l y _ _ => ?_⟩
    by_cases here : l = m ∧ crop.firstSample ≤ y ∧ y < crop.firstSample + crop.sampleCount
    · rw [if_pos here, here.1]; rfl
    · rw [if_neg here]
  | some src => exact writeLine_reads paired m (readGroup p src) wf

/-- A missing line reads as its source did: no source is filled itself. -/
theorem fillMissing_reads {crop : Rect} (paired : Paired crop) {present missing : List Nat}
    (apart : ∀ f ∈ missing, f ∉ present) {p : Planes} (wf : planesWf p = true) {l y : Nat} (hy : y < 2048)
    (ey : y % 2 = 0) : readGroup (fillMissing crop present missing p) l y
      = if l ∈ missing ∧ crop.firstSample ≤ y ∧ y < crop.firstSample + crop.sampleCount
        then readGroup p ((fillFrom present l).getD l) y else readGroup p l y := by
  rw [fillMissing_eq]
  induction missing generalizing p with
  | nil => simp
  | cons m rest ih =>
    obtain ⟨wf', reads⟩ := fillLine_reads paired present wf m
    rw [List.foldl_cons, ih (fun f mem => apart f (List.mem_cons_of_mem m mem)) wf', reads _ y hy ey, reads _ y hy ey]
    by_cases inside : crop.firstSample ≤ y ∧ y < crop.firstSample + crop.sampleCount
    · by_cases here : l = m
      · subst here
        cases source : fillFrom present l with
        | none => simp [inside]
        | some a =>
          have other : a ≠ l := fun same => apart l List.mem_cons_self (same ▸ fillFrom_mem source)
          simp [inside, other]
      · cases source : fillFrom present l with
        | none => simp [inside, here]
        | some a =>
          have other : a ≠ m := fun same => apart m List.mem_cons_self (same ▸ fillFrom_mem source)
          simp [inside, here, other]
    · simp [inside]

/-! ## The close of a picture (05/R76 to R78) -/

/-- What a channel records of its closes. -/
structure CloseRecord where
  history : List HistoryEntry
  lastClosed : Option Time
  pEst : Nat
  missingLines : Count
  emptyPictures : Count

def closeRecord (c : Channel) : CloseRecord :=
  ⟨c.int.history, c.int.lastClosed, c.int.pEst, c.tally.get (chanCtrIx .missingLine), c.tally.get (chanCtrIx .emptyPicture)⟩

theorem countMany_closeRecord {x : ChanCtr} (h : x ≠ .missingLine ∧ x ≠ .emptyPicture) (c : Channel) (n : Nat) :
    closeRecord (countMany c x n) = closeRecord c := by
  unfold closeRecord
  rw [countMany_get, if_neg h.1.symm, countMany_get, if_neg h.2.symm]
  rfl

theorem RingWork.closeRecord {c d : Channel} (work : RingWork c d) : closeRecord d = closeRecord c := by
  unfold Machine.closeRecord
  rw [work.tally _ (by decide) (by decide), work.tally _ (by decide) (by decide), work.frame]

theorem commit_closeRecord (env : Env) (i : SlotNo) (stamp : Time) (plan : Option Finish) (c : Channel) :
    closeRecord (commit env i stamp plan c) = closeRecord c := by
  rw [commit_eq]
  split
  · exact countMany_closeRecord (by decide) _ _
  · exact ((pairUp_ringWork ..).trans (noteCommit_ringWork ..)).closeRecord.trans (countMany_closeRecord (by decide) _ _)

theorem abandonPairing_closeRecord (env : Env) (i : SlotNo) (c : Channel) :
    closeRecord (abandonPairing env i c) = closeRecord c := by
  unfold abandonPairing
  split
  · exact (sweep_ringWork _).closeRecord.trans ((commit_closeRecord ..).trans (countMany_closeRecord (by decide) c 1))
  · rfl

theorem actOn_closeRecord (env : Env) (i : SlotNo) (ruling : Ruling) (c : Channel) :
    closeRecord (actOn env i ruling c) = closeRecord c := by
  cases ruling with
  | video stamp => exact commit_closeRecord ..
  | pairFirst => rfl
  | pairSecond stamp => exact commit_closeRecord ..
  | repeated => exact countMany_closeRecord (by decide) _ _

theorem judge_closeRecord (env : Env) (crop : Rect) (i : SlotNo) (k : RawPicture) (c : Channel) :
    closeRecord (judge env crop i k c) = closeRecord c := by
  have broken (b : Bool) (d : Channel) : closeRecord
      (if b = true then countFlag { d with cad := endLock d.cad } .cadenceBreaks .cadenceChange else d) = closeRecord d := by
    split
    · exact countMany_closeRecord (by decide) d 1
    · rfl
  have locked (b : Bool) (d : Channel) : closeRecord
      (if b = true then countFlag d .cadenceLocks .cadenceChange else d) = closeRecord d := by
    split
    · exact countMany_closeRecord (by decide) d 1
    · rfl
  exact (broken _ _).trans ((actOn_closeRecord ..).trans (locked _ _))

/-- A picture without a present line is counted, and nothing else is recorded of it (05/R77). -/
theorem closeEmpty_closeRecord (env : Env) (i : SlotNo) (k : RawPicture) (c : Channel) :
    closeRecord (closeEmpty env i k c) = { closeRecord c with emptyPictures := (closeRecord c).emptyPictures + 1 } := by
  have counted : closeRecord (count c .emptyPicture)
      = { closeRecord c with emptyPictures := (closeRecord c).emptyPictures + 1 } := by
    unfold closeRecord
    rw [count, countMany_get, if_neg (by decide), countMany_get, if_pos rfl]
    rfl
  unfold closeEmpty
  dsimp only
  split
  · exact (abandonPairing_closeRecord ..).trans counted
  · exact counted

theorem closeEmpty_single (env : Env) {i : SlotNo} {k r : RawPicture} {c : Channel} (single : (slotOf c i).raws = [r])
    (j : SlotNo) : slotOf (closeEmpty env i k c) j = if j = i then .empty else slotOf c j := by
  unfold closeEmpty
  rw [single]
  exact Bank.get_modify ..

theorem filling_closeRecord (crop : Rect) (i : SlotNo) (k : RawPicture) (c : Channel) : closeRecord (filling crop i k c)
    = ⟨c.int.history, some k.stamp, (updatePeriod k.stamp c).int.pEst,
      c.tally.get (chanCtrIx .missingLine) + BitVec.ofNat 32 (missingLines crop k (slotOf c i)).length,
      c.tally.get (chanCtrIx .emptyPicture)⟩ := by
  unfold closeRecord filling
  have counted (x : ChanCtr) : (updatePeriod k.stamp (countMany
        (withSlot i (filledIn crop k (slotOf c i)) c.int.committed (shut c)) .missingLine
        (missingLines crop k (slotOf c i)).length)).tally.get (chanCtrIx x)
      = if x = .missingLine then c.tally.get (chanCtrIx x) + BitVec.ofNat 32 (missingLines crop k (slotOf c i)).length
        else c.tally.get (chanCtrIx x) := countMany_get ..
  rw [counted, counted, if_pos rfl, if_neg (by decide)]
  rfl

/-- A slot whose picture has been ruled on: its samples stand, and it is kept. -/
structure Ruled (x y : Slot) : Prop where
  planes : y.planes = x.planes
  missing : y.missing = x.missing
  kept : y.state ≠ .free
  still : y.state ≠ .filling

theorem Ruled.of_state {x y : Slot} {s : SlotState} (h : y = { x with state := s }) (kept : s ≠ .free)
    (still : s ≠ .filling) : Ruled x y := by
  subst h
  exact ⟨rfl, rfl, kept, still⟩

theorem commit_ruled (env : Env) (i : SlotNo) (stamp : Time) (plan : Option Finish) (c : Channel) :
    Ruled (slotOf c i) (slotOf (commit env i stamp plan c) i) := by
  obtain ⟨-, kept, still⟩ := commit_settled env i stamp plan c
  have slot := slotOf_commit env i stamp plan c
  refine ⟨?_, ?_, kept, still⟩ <;> rw [slot] <;> split <;> rfl

theorem actOn_ruled (env : Env) (i : SlotNo) (ruling : Ruling) (c : Channel) :
    Ruled (slotOf c i) (slotOf (actOn env i ruling c) i) := by
  cases ruling with
  | video stamp => exact commit_ruled ..
  | pairFirst => exact .of_state (s := .pairing) (Bank.get_modify_same ..) (by decide) (by decide)
  | pairSecond stamp => exact commit_ruled ..
  | repeated => exact .of_state (s := .history) (Bank.get_modify_same ..) (by decide) (by decide)

theorem slotOf_countFlag_ite {x : ChanCtr} {f : ChanFlag} {p : Prop} [Decidable p] {c d : Channel} {i : SlotNo}
    (same : slotOf c i = slotOf d i) : slotOf (if p then countFlag c x f else d) i = slotOf d i := by
  split
  · exact same
  · rfl

theorem judge_ruled (env : Env) (crop : Rect) (i : SlotNo) (k : RawPicture) (c : Channel) :
    Ruled (slotOf c i) (slotOf (judge env crop i k c) i) := by
  have measured : slotOf (measure env crop i k c).2.2 i
      = { slotOf c i with raws := (slotOf (measure env crop i k c).2.2 i).raws } := by
    rw [show slotOf (measure env crop i k c).2.2 i = _ from Bank.get_modify_same ..]
    rfl
  unfold judge
  generalize measure env crop i k c = m at measured
  obtain ⟨rf, cf, c1⟩ := m
  dsimp only at measured ⊢
  generalize cadenceStep c1.cad rf cf k.stamp c1.int.pEst ((slotOf c1 i).raws.length = 1) = st
  have locked : slotOf (if st.lockedNow = true then countFlag { c1 with cad := st.cad } .cadenceLocks .cadenceChange
      else { c1 with cad := st.cad }) i = slotOf c1 i := slotOf_countFlag_ite rfl
  have broken (d : Channel) (x : Cadence) : slotOf { (if st.broke = true then
      countFlag { d with cad := endLock d.cad } .cadenceBreaks .cadenceChange else d) with cad := x } i = slotOf d i :=
    slotOf_countFlag_ite rfl
  rw [broken]
  obtain ⟨planes, missing, kept, still⟩ := actOn_ruled env i st.ruling (if st.lockedNow = true then
    countFlag { c1 with cad := st.cad } .cadenceLocks .cadenceChange else { c1 with cad := st.cad })
  rw [locked, measured] at planes missing
  exact ⟨planes, missing, kept, still⟩

theorem advanceHistory_mark (i : SlotNo) (n : Nat) (c : Channel) : historyMark (advanceHistory i n c) i = true :=
  List.any_eq_true.mpr ⟨⟨i, n⟩, List.mem_cons_self, decide_eq_true rfl⟩

theorem closeOpen_ends {c : Channel} {crop : Rect} (cropped : c.int.crop = some crop) (env : Env) :
    (closeOpen env c).int.openSlot = none := by
  have ended := congrArg Ledger.openSlot (closeOpen_ledger env c)
  rw [cropped] at ended
  exact ended

section close
variable {c : Channel} {i : SlotNo} {crop : Rect} {k : RawPicture} (opened : c.int.openSlot = some i)
  (cropped : c.int.crop = some crop) (last : (slotOf c i).raws.getLast? = some k)
include opened cropped last

theorem closeOpen_filled_closeRecord (env : Env) (lines : presentLines crop k (slotOf c i) ≠ []) :
    closeRecord (closeOpen env c)
      = ⟨(⟨i, (slotOf c i).raws.length - 1⟩ :: c.int.history).take 2, some k.stamp, (updatePeriod k.stamp c).int.pEst,
        c.tally.get (chanCtrIx .missingLine) + BitVec.ofNat 32 (missingLines crop k (slotOf c i)).length,
        c.tally.get (chanCtrIx .emptyPicture)⟩ := by
  have judged := (judge_closeRecord env crop i k (filling crop i k c)).trans (filling_closeRecord crop i k c)
  rw [closeOpen_filled opened cropped last env lines, (sweep_ringWork _).closeRecord]
  exact congrArg (fun x : CloseRecord => { x with
    history := (HistoryEntry.mk i ((slotOf c i).raws.length - 1) :: x.history).take 2 }) judged

/-- The history holds the closed slot, so its sweep keeps it (05/R86). -/
theorem closeOpen_filled_slot (env : Env) (lines : presentLines crop k (slotOf c i) ≠ []) :
    Ruled (filledIn crop k (slotOf c i)) (slotOf (closeOpen env c) i) := by
  have ruled := judge_ruled env crop i k (filling crop i k c)
  rw [slotOf_filling, if_pos rfl] at ruled
  rw [closeOpen_filled opened cropped last env lines, sweep_keeps_history (advanceHistory_mark ..)]
  exact ruled

end close

/-! ## The statement -/

theorem onSlot_eq_set (i : SlotNo) (f : Slot → Slot) (c : Channel) :
    onSlot i f c = { c with int := { c.int with slots := c.int.slots.set i (f (slotOf c i)) } } := rfl

/-- Settles O40: a record writes pair by pair; what a close counts and holds stands through its ruling and its sweep; and
no line is filled from a filled one. -/
theorem linesReceived : Obligations.LinesReceived := by
  unfold Obligations.LinesReceived
  refine ⟨fun dt flight l words s k g q r i crop raw v y out config feed aim pub ok cases opened cropped first count within
      last sequence wf => ?_, fun env c d i crop raw present missing opened cropped last hd hp hm => ?_,
    fun crop present missing p q line x hq wf first within count sorted _ apart even small => ?_⟩
  · have even : r.first % 2 = 0 := by
      simp only [recordOk, Bool.and_eq_true, decide_eq_true_eq] at ok
      obtain ⟨⟨⟨⟨⟨-, even⟩, -⟩, -⟩, -⟩, -⟩ := ok
      exact even
    obtain ⟨-, here, there⟩ := writeGroups_wrote ⟨first, count, within⟩ (frameLine raw.kind r.line) r.groups even wf
    refine ⟨writeGroups crop (frameLine raw.kind r.line) r.groups r.first (slotOf (chan s k) i), fun c hc => ?_,
      writeGroups_frame .., fun f pos ev hpos => ⟨fun gr line inside low held => ?_, there f pos ev hpos⟩⟩
    · have taken := lines_taken config feed aim pub cases
      rw [takeLines_open opened cropped last sequence, onSlot_eq_set, ← hc] at taken
      exact taken
    · rw [line] at inside ⊢
      exact here pos gr ev hpos inside low held
  · obtain rfl : present = presentLines crop raw (slotOf c i) := hp
    obtain rfl : missing = missingLines crop raw (slotOf c i) := hm
    refine ⟨hd ▸ closeOpen_ends cropped env, fun none => ?_, fun lines _ => ?_⟩
    · rw [closeOpen_empty opened cropped last env none] at hd
      have closed := closeEmpty_closeRecord env i raw (shut c)
      rw [← hd] at closed
      refine ⟨congrArg CloseRecord.emptyPictures closed, congrArg CloseRecord.missingLines closed,
        congrArg CloseRecord.pEst closed, congrArg CloseRecord.lastClosed closed, congrArg CloseRecord.history closed,
        fun single => ?_⟩
      have slot := closeEmpty_single env (k := raw) (c := shut c) single
      rw [← hd] at slot
      exact ⟨(slot i).trans (if_pos rfl), fun j ne => (slot j).trans (if_neg ne)⟩
    · have closed := closeOpen_filled_closeRecord opened cropped last env lines
      obtain ⟨planes, lost, kept, still⟩ := closeOpen_filled_slot opened cropped last env lines
      rw [← hd] at closed planes lost kept still
      exact ⟨congrArg CloseRecord.missingLines closed, congrArg CloseRecord.emptyPictures closed, lost, planes, kept, still,
        congrArg CloseRecord.lastClosed closed, congrArg CloseRecord.pEst closed, congrArg CloseRecord.history closed⟩
  · have reads := fillMissing_reads (crop := crop) ⟨first, count, within⟩ apart wf (l := line) small even
    rw [← hq] at reads
    refine ⟨fun beyond => reads.trans (if_neg ?_), fun lost low high a mem => ?_⟩
    · rintro ⟨lost, low, high⟩
      rcases beyond with kept | left | right
      · exact kept lost
      · omega
      · omega
    · rw [reads, if_pos ⟨lost, low, high⟩]
      exact ⟨fun above nearest => by rw [fillFrom_above sorted mem above nearest]; rfl,
        fun below nearest => by rw [fillFrom_below sorted mem below nearest]; rfl⟩

end Sys2Proof.Machine
end

section
/-! The Cadence Detector's own rules: the rulings of a locked mode, the update of a hypothesis record, the step of the
detector in VIDEO and under a lock, and the pending lock (06/R99 to R101, R104 to R106, R110). -/

namespace Sys2Proof.Machine

/-! ## Rulings (06/R104 to R106, R110) -/

/-- Half a 3:2 cycle is two raw periods and a half, rounded half up. -/
theorem roundHalfUp_halfCycle (p : Nat) : roundHalfUp (5 * p) 2 = ((5 * p + 1) / 2 : Nat) := by
  unfold roundHalfUp
  omega

theorem halfCycleStamp_eq (anchor : Time) (p : Nat) :
    halfCycleStamp anchor p = anchor + BitVec.ofNat 48 ((5 * p + 1) / 2) := by
  rw [halfCycleStamp, shift, roundHalfUp_halfCycle, BitVec.ofInt_natCast]

theorem pCommit_threeTwo {f : Family} (long : f = .film32 ∨ f = .rep32) (p : Nat) :
    pCommit (some f) p = (5 * p + 1) / 2 := by
  have half := congrArg Int.toNat (roundHalfUp_halfCycle p)
  rcases long with rfl | rfl <;> exact half

/-- A second field that closes in a slot of its own is committed by itself (06/R105). -/
theorem rulingAt_own {f : Family} {p : Nat} (second : secondOfPair f p = true) (anchor raw : Time) (pEst : Nat) :
    rulingAt f p anchor raw pEst true = .video raw := by
  rcases (secondOfPair_iff f p).mp second with ⟨rfl, rfl | rfl⟩ | ⟨rfl, rfl⟩ <;> rfl

/-- The stamp with which the intake commits on a ruling. -/
def rulingStamp : Ruling → Option Time
  | .video stamp => some stamp
  | .pairSecond stamp => some stamp
  | .pairFirst => none
  | .repeated => none

/-- The picture that breaks a lock is committed, with its pair's stamp where it completes one (06/R105, R106). -/
theorem rulingStamp_breakRuling (f : Family) (p : Nat) (anchor raw : Time) (pEst : Nat) (own : Bool) :
    rulingStamp (breakRuling f p anchor raw pEst own)
      = some (if secondOfPair f p = false ∨ own = true then raw
          else if f = .film32 ∧ p = 4 then halfCycleStamp anchor pEst else anchor) := by
  unfold breakRuling
  by_cases second : secondOfPair f p = true
  · rw [if_pos second]
    cases own with
    | true => rw [rulingAt_own second, if_pos (.inr rfl)]; rfl
    | false =>
      rw [if_neg (by simp [second])]
      rcases (secondOfPair_iff f p).mp second with ⟨rfl, rfl | rfl⟩ | ⟨rfl, rfl⟩ <;> rfl
  · rw [if_neg second, if_pos (.inl (Bool.eq_false_iff.mpr second))]
    rfl

theorem breaksLock_iff (f : Family) (p : Nat) (sg : Sign) :
    breaksLock f p sg = true ↔ sg ≠ .still ∧ ¬ (sg = .mark ↔ markAt f p = true) := by
  cases sg <;> simp [breaksLock]

/-! ## Hypothesis records (06/R99) -/

/-- A record is phased on a position that has the mark. -/
theorem markPosition_marked (f : Family) (last : Option RepeatFlag) :
    markAt f (markPosition f last) = true ∧ markPosition f last < cycleOf f := by
  unfold markPosition
  split
  case h_3 => split <;> decide
  all_goals decide

section record
variable {h : Hypothesis} {f : Family} (family : h.family = some f)
include family

theorem atPosition_eq (p n : Nat) (disturbed : Bool) :
    atPosition h f p n disturbed = ⟨⟨some f, some ((p + 1) % cycleOf f), n⟩, some p, disturbed⟩ := by
  rw [atPosition, family]

section phased
variable {p : Nat} (next : h.next = some p) {rf : RepeatFlag} {cf : CombFlag} (last : Option RepeatFlag)
include next

theorem updateHypothesis_still (still : signOf f rf cf = .still) :
    updateHypothesis h rf cf last = atPosition h f p h.count false := by
  simp only [updateHypothesis, family, next, still]

theorem updateHypothesis_expected (seen : signOf f rf cf ≠ .still)
    (expected : signOf f rf cf = .mark ↔ markAt f p = true) :
    updateHypothesis h rf cf last = atPosition h f p (min (h.count + 1) 40) false := by
  cases sign : signOf f rf cf with
  | still => exact absurd sign seen
  | mark =>
    have mark : markAt f p = true := expected.mp sign
    simp only [updateHypothesis, family, next, sign, mark, if_true]
  | other =>
    have other : ¬ markAt f p = true := fun mark => by rw [expected.mpr mark] at sign; cases sign
    simp only [updateHypothesis, family, next, sign, if_neg other]

theorem updateHypothesis_missed (sign : signOf f rf cf = .other) (mark : markAt f p = true) :
    updateHypothesis h rf cf last = ⟨⟨some f, none, 0⟩, none, true⟩ := by
  simp only [updateHypothesis, family, next, sign, mark, if_true, clearHypothesis]

theorem updateHypothesis_rephased (sign : signOf f rf cf = .mark) (mark : markAt f p = false) :
    updateHypothesis h rf cf last = atPosition h f (markPosition f last) 1 true := by
  simp only [updateHypothesis, family, next, sign, mark, Bool.false_eq_true, if_false]

end phased

section unphased
variable (next : h.next = none) {rf : RepeatFlag} {cf : CombFlag} (last : Option RepeatFlag)
include next

theorem updateHypothesis_phases (sign : signOf f rf cf = .mark) :
    updateHypothesis h rf cf last = atPosition h f (markPosition f last) 1 false := by
  simp only [updateHypothesis, family, next, sign]

theorem updateHypothesis_waits (sign : signOf f rf cf ≠ .mark) : updateHypothesis h rf cf last = ⟨h, none, false⟩ := by
  cases seen : signOf f rf cf with
  | mark => exact absurd seen sign
  | other => simp only [updateHypothesis, family, next, seen]
  | still => simp only [updateHypothesis, family, next, seen]

end unphased
end record

/-- No update changes the rhythm that a record hunts. -/
theorem updateHypothesis_family (h : Hypothesis) (rf : RepeatFlag) (cf : CombFlag) (last : Option RepeatFlag) :
    (updateHypothesis h rf cf last).record.family = h.family := by
  unfold updateHypothesis
  split
  · rfl
  · split
    · rfl
    · split <;> rfl
    · split <;> rfl
    · rfl
    · rfl

/-! ## The detector in VIDEO (06/R100, R101) -/

/-- A detector that has updated both its records. -/
def bothUpdated (d : Cadence) (rf : RepeatFlag) (cf : CombFlag) : Cadence := { d with
  rec32 := (updateHypothesis d.rec32 rf cf d.lastFlag).record
  rec22 := (updateHypothesis d.rec22 rf cf d.lastFlag).record
  lastFlag := some rf }

/-- A detector in which a pending lock takes effect, the other record cleared (06/R101). -/
def takeLock (f : Family) (anchor : Time) (d : Cadence) : Cadence := { d with
  rec32 := if isRec32 d f then d.rec32 else clearHypothesis d.rec32
  rec22 := if isRec32 d f then clearHypothesis d.rec22 else d.rec22
  mode := some f, pendingLock := none, anchor := some anchor }

theorem isRec32_bothUpdated (d : Cadence) (f : Family) (rf : RepeatFlag) (cf : CombFlag) :
    isRec32 (bothUpdated d rf cf) f = isRec32 d f :=
  congrArg (fun x : Option Family => decide (x = some f)) (updateHypothesis_family ..)

theorem updateHypothesis_recordOf (d : Cadence) (f : Family) (rf : RepeatFlag) (cf : CombFlag) :
    updateHypothesis (recordOf d f) rf cf d.lastFlag
      = if isRec32 d f then updateHypothesis d.rec32 rf cf d.lastFlag else updateHypothesis d.rec22 rf cf d.lastFlag := by
  by_cases first : d.rec32.family = some f <;> simp [recordOf, isRec32, first]

section video
variable {d : Cadence} (video : d.mode = none) (rf : RepeatFlag) (cf : CombFlag) (raw : Time) (pEst : Nat) (own : Bool)
include video

theorem cadenceStep_hunts (free : d.pendingLock = none) :
    cadenceStep d rf cf raw pEst own = ⟨bothUpdated d rf cf, .video raw, false, false⟩ := by
  rw [cadenceStep, video]
  simp only [videoStep, free, bothUpdated]

section pending
variable {f : Family} (pending : d.pendingLock = some f)
include pending

theorem cadenceStep_cancels (disturbed : (updateHypothesis (recordOf d f) rf cf d.lastFlag).disturbed = true) :
    cadenceStep d rf cf raw pEst own
      = ⟨{ bothUpdated d rf cf with pendingLock := none }, .video raw, false, false⟩ := by
  rw [updateHypothesis_recordOf] at disturbed
  rw [cadenceStep, video]
  simp only [videoStep, pending, disturbed, if_true, bothUpdated]

variable (undisturbed : (updateHypothesis (recordOf d f) rf cf d.lastFlag).disturbed = false)
include undisturbed

theorem cadenceStep_waits (within : (updateHypothesis (recordOf d f) rf cf d.lastFlag).position ≠ some 0) :
    cadenceStep d rf cf raw pEst own = ⟨bothUpdated d rf cf, .video raw, false, false⟩ := by
  rw [updateHypothesis_recordOf] at undisturbed within
  rw [cadenceStep, video]
  simp only [videoStep, pending, undisturbed, Bool.false_eq_true, if_false, if_neg within, bothUpdated]

theorem cadenceStep_locks (start : (updateHypothesis (recordOf d f) rf cf d.lastFlag).position = some 0) :
    cadenceStep d rf cf raw pEst own
      = ⟨takeLock f raw (bothUpdated d rf cf), rulingAt f 0 raw raw pEst own, false, true⟩ := by
  rw [updateHypothesis_recordOf] at undisturbed start
  rw [cadenceStep, video, takeLock, isRec32_bothUpdated]
  simp only [videoStep, pending, undisturbed, Bool.false_eq_true, if_false, if_pos start]
  cases isRec32 d f <;> rfl

end pending
end video

/-- The record of a pending lock that takes effect stands, and the other is cleared (06/R101). -/
theorem takeLock_records (d : Cadence) (f : Family) (anchor : Time) (rf : RepeatFlag) (cf : CombFlag) :
    (d.rec32.family = some f →
      (takeLock f anchor (bothUpdated d rf cf)).rec32 = (updateHypothesis (recordOf d f) rf cf d.lastFlag).record
      ∧ (takeLock f anchor (bothUpdated d rf cf)).rec22.next = none
      ∧ (takeLock f anchor (bothUpdated d rf cf)).rec22.count = 0)
    ∧ (d.rec32.family ≠ some f →
      (takeLock f anchor (bothUpdated d rf cf)).rec22 = (updateHypothesis (recordOf d f) rf cf d.lastFlag).record
      ∧ (takeLock f anchor (bothUpdated d rf cf)).rec32.next = none
      ∧ (takeLock f anchor (bothUpdated d rf cf)).rec32.count = 0) := by
  rw [takeLock, isRec32_bothUpdated, updateHypothesis_recordOf]
  refine ⟨fun first => ?_, fun second => ?_⟩
  · rw [isRec32, decide_eq_true first]
    exact ⟨rfl, rfl, rfl⟩
  · rw [isRec32, decide_eq_false second]
    exact ⟨rfl, rfl, rfl⟩

/-! ## The detector under a lock (06/R104 to R106) -/

/-- A detector that has updated the record of its lock. -/
def lockUpdated (d : Cadence) (f : Family) (rf : RepeatFlag) (cf : CombFlag) : Cadence :=
  if isRec32 d f then { d with
    rec32 := (updateHypothesis (recordOf d f) rf cf d.lastFlag).record, lastFlag := some rf }
  else { d with rec22 := (updateHypothesis (recordOf d f) rf cf d.lastFlag).record, lastFlag := some rf }

theorem lockUpdated_mode (d : Cadence) (f : Family) (rf : RepeatFlag) (cf : CombFlag) :
    (lockUpdated d f rf cf).mode = d.mode := by
  unfold lockUpdated
  split <;> rfl

section lock
variable {d : Cadence} {f : Family} (mode : d.mode = some f) {p : Nat} (next : (recordOf d f).next = some p)
  (rf : RepeatFlag) (cf : CombFlag) (raw : Time) (pEst : Nat) (own : Bool)
include mode next

theorem cadenceStep_breaks (breaks : breaksLock f p (signOf f rf cf) = true) : cadenceStep d rf cf raw pEst own
    = ⟨lockUpdated d f rf cf, breakRuling f p (d.anchor.getD raw) raw pEst own, true, false⟩ := by
  rw [cadenceStep, mode]
  simp only [lockedStep, next, if_pos breaks, lockUpdated]

theorem cadenceStep_keeps (keeps : ¬ breaksLock f p (signOf f rf cf) = true) : cadenceStep d rf cf raw pEst own
    = ⟨{ lockUpdated d f rf cf with anchor := some (if p = 0 then raw else d.anchor.getD raw) },
      rulingAt f p (if p = 0 then raw else d.anchor.getD raw) raw pEst own, false, false⟩ := by
  rw [cadenceStep, mode]
  simp only [lockedStep, next, if_neg keeps, lockUpdated]

end lock

/-! ## The pending lock (06/R100) -/

/-- The rhythm whose record is at the confirmation threshold, the 3:2 family first. -/
def confirmed (lockCycles : Nat) (d : Cadence) : Option Family :=
  if d.rec32.family ≠ none ∧ 5 * lockCycles ≤ d.rec32.count then d.rec32.family
  else if d.rec22.family ≠ none ∧ 5 * lockCycles ≤ d.rec22.count then d.rec22.family
  else none

theorem newPending_hunting {d : Cadence} (video : d.mode = none) (free : d.pendingLock = none) (lockCycles : Nat) :
    newPending lockCycles d = { d with pendingLock := confirmed lockCycles d } := by
  rw [newPending, if_pos ⟨video, free⟩, confirmed]
  split
  · rfl
  · split
    · rfl
    · rw [← free]

theorem newPending_settled {d : Cadence} (settled : d.mode ≠ none ∨ d.pendingLock ≠ none) (lockCycles : Nat) :
    newPending lockCycles d = d :=
  if_neg fun ⟨video, free⟩ => settled.elim (· video) (· free)

theorem newPending_frame (lockCycles : Nat) (d : Cadence) :
    newPending lockCycles d = { d with pendingLock := (newPending lockCycles d).pendingLock } := by
  unfold newPending
  split
  · split
    · rfl
    · split <;> rfl
  · rfl

end Sys2Proof.Machine
end

section
/-! What a close does to the detector: the step it takes on the flags it measures, and what of it the ring's work and the
intake's action leave alone (06/R99 to R101, R103 to R106). -/

namespace Sys2Proof.Machine

/-! ## What a channel shows of its detector -/

/-- A channel's detector, with the locks and breaks it has counted and their flag. -/
structure Detection where
  cad : Cadence
  locks : Count
  breaks : Count
  changed : Bool

def detection (c : Channel) : Detection :=
  ⟨c.cad, c.tally.get (chanCtrIx .cadenceLocks), c.tally.get (chanCtrIx .cadenceBreaks),
    c.flags.get (chanFlagIx .cadenceChange)⟩

/-- What a step of the detector leaves, its lock or break counted and flagged, and the pending lock judged. -/
def Detection.after (lockCycles : Nat) (st : CadenceStep) (x : Detection) : Detection :=
  { cad := newPending lockCycles (if st.broke then endLock st.cad else st.cad)
    locks := x.locks + if st.lockedNow then 1 else 0
    breaks := x.breaks + if st.broke then 1 else 0
    changed := st.broke || (st.lockedNow || x.changed) }

theorem countMany_detection {x : ChanCtr} (other : x ≠ .cadenceLocks ∧ x ≠ .cadenceBreaks) (c : Channel) (n : Nat) :
    detection (countMany c x n) = detection c := by
  unfold detection
  rw [countMany_get, if_neg other.1.symm, countMany_get, if_neg other.2.symm]
  rfl

theorem RingWork.detection {c d : Channel} (work : RingWork c d) : detection d = detection c := by
  unfold Machine.detection
  rw [work.tally _ (by decide) (by decide), work.tally _ (by decide) (by decide), work.frame]

theorem commit_detection (env : Env) (i : SlotNo) (stamp : Time) (plan : Option Finish) (c : Channel) :
    detection (commit env i stamp plan c) = detection c := by
  rw [commit_eq]
  split
  · exact countMany_detection (by decide) _ _
  · exact ((pairUp_ringWork ..).trans (noteCommit_ringWork ..)).detection.trans (countMany_detection (by decide) _ _)

theorem actOn_detection (env : Env) (i : SlotNo) (ruling : Ruling) (c : Channel) :
    detection (actOn env i ruling c) = detection c := by
  cases ruling with
  | video stamp => exact commit_detection ..
  | pairFirst => rfl
  | pairSecond stamp => exact commit_detection ..
  | repeated => exact countMany_detection (by decide) _ _

/-! ## The steps of a close (06/R103) -/

/-- The channel on which the intake acts: a lock that takes effect is counted and flagged. -/
def lockNoted (st : CadenceStep) (c : Channel) : Channel :=
  if st.lockedNow then countFlag { c with cad := st.cad } .cadenceLocks .cadenceChange else { c with cad := st.cad }

/-- What follows the intake's action: a break is counted and flagged, and the pending lock judged. -/
def breakNoted (lockCycles : Nat) (st : CadenceStep) (c : Channel) : Channel :=
  let b := if st.broke then countFlag { c with cad := endLock c.cad } .cadenceBreaks .cadenceChange else c
  { b with cad := newPending lockCycles b.cad }

theorem lockNoted_detection (st : CadenceStep) (c : Channel) : detection (lockNoted st c)
    = { detection c with
        cad := st.cad, locks := (detection c).locks + if st.lockedNow then 1 else 0
        changed := st.lockedNow || (detection c).changed } := by
  unfold lockNoted
  cases st.lockedNow with
  | false => simp [detection]
  | true =>
    rw [if_pos rfl, detection, countFlag_tally, countFlag_tally, countFlag_flags, if_pos rfl, if_neg (by decide), add_zero]
    rfl

theorem breakNoted_detection (lockCycles : Nat) (st : CadenceStep) (c : Channel) : detection (breakNoted lockCycles st c)
    = { detection c with
        cad := newPending lockCycles (if st.broke then endLock c.cad else c.cad)
        breaks := (detection c).breaks + if st.broke then 1 else 0
        changed := st.broke || (detection c).changed } := by
  have noted (d : Channel) (x : Cadence) : detection { d with cad := x } = { detection d with cad := x } := rfl
  unfold breakNoted
  rw [noted]
  cases st.broke with
  | false => simp [detection]
  | true =>
    rw [if_pos rfl, detection, countFlag_tally, countFlag_tally, countFlag_flags, if_pos rfl, if_neg (by decide), add_zero]
    rfl

/-- The flags that a close measures, and the channel that holds them. -/
def closeMeasured (env : Env) (crop : Rect) (i : SlotNo) (k : RawPicture) (c : Channel) :
    RepeatFlag × CombFlag × Channel :=
  measure env crop i k (filling crop i k c)

/-- The detector's step at a close. -/
def closeStep (env : Env) (crop : Rect) (i : SlotNo) (k : RawPicture) (c : Channel) : CadenceStep :=
  let m := closeMeasured env crop i k c
  cadenceStep m.2.2.cad m.1 m.2.1 k.stamp (updatePeriod k.stamp c).int.pEst ((slotOf c i).raws.length = 1)

/-- The channel once the intake has acted on the ruling of a close. -/
def closeActed (env : Env) (crop : Rect) (i : SlotNo) (k : RawPicture) (c : Channel) : Channel :=
  actOn env i (closeStep env crop i k c).ruling (lockNoted (closeStep env crop i k c) (closeMeasured env crop i k c).2.2)

theorem closeMeasured_raws (env : Env) (crop : Rect) (i : SlotNo) (k : RawPicture) (c : Channel) :
    (slotOf (closeMeasured env crop i k c).2.2 i).raws
      = (slotOf c i).raws.modify ((slotOf c i).raws.length - 1) fun r => { r with
          flags := some ((closeMeasured env crop i k c).1, (closeMeasured env crop i k c).2.1) } := by
  rw [← filling_raws crop i k c]
  exact congrArg Slot.raws (Bank.get_modify_same ..)

theorem judge_filling (env : Env) (crop : Rect) (i : SlotNo) (k : RawPicture) (c : Channel) :
    judge env crop i k (filling crop i k c)
      = breakNoted env.cfg.lockCycles (closeStep env crop i k c) (closeActed env crop i k c) := by
  have length : (slotOf (closeMeasured env crop i k c).2.2 i).raws.length = (slotOf c i).raws.length := by
    rw [closeMeasured_raws, List.length_modify]
  unfold closeActed closeStep
  rw [← length]
  rfl

/-- Until its step, a close leaves the detector's own records as they were. -/
theorem closeMeasured_detection (env : Env) (crop : Rect) (i : SlotNo) (k : RawPicture) (c : Channel) :
    detection (closeMeasured env crop i k c).2.2
      = { detection c with cad := (closeMeasured env crop i k c).2.2.cad } := by
  have filled : detection (filling crop i k c) = detection c := countMany_detection (x := .missingLine) (by decide)
    (withSlot i (filledIn crop k (slotOf c i)) c.int.committed (shut c)) (missingLines crop k (slotOf c i)).length
  exact congrArg (fun x : Detection => { x with cad := (closeMeasured env crop i k c).2.2.cad }) filled

/-- The detector that a close steps differs from the one before it in its histories of measures. -/
theorem closeMeasured_cad (env : Env) (crop : Rect) (i : SlotNo) (k : RawPicture) (c : Channel) :
    ∃ m cm, (closeMeasured env crop i k c).2.2.cad = pushComb (pushRepeat c.cad m) cm := ⟨_, _, rfl⟩

/-! ## Commits at a close (05/R80) -/

/-- What a channel records of its commits. -/
def commits (c : Channel) : Option Time × Count := (c.int.lastCommitted, c.tally.get (chanCtrIx .committed))

theorem RingWork.commits {c d : Channel} (work : RingWork c d) : commits d = commits c := by
  unfold Machine.commits
  rw [work.tally _ (by decide) (by decide), work.frame]

theorem countFlag_commits {x : ChanCtr} (other : x ≠ .committed) (f : ChanFlag) (c : Channel) :
    commits (countFlag c x f) = commits c := by
  unfold commits
  rw [countFlag_tally, if_neg other.symm, add_zero]
  rfl

theorem lockNoted_commits (st : CadenceStep) (c : Channel) : commits (lockNoted st c) = commits c := by
  unfold lockNoted
  split
  · exact countFlag_commits (by decide) _ _
  · rfl

theorem breakNoted_commits (lockCycles : Nat) (st : CadenceStep) (c : Channel) :
    commits (breakNoted lockCycles st c) = commits c := by
  unfold breakNoted
  dsimp only
  split
  · exact countFlag_commits (by decide) .cadenceChange { c with cad := endLock c.cad }
  · rfl

theorem closeMeasured_commits (env : Env) (crop : Rect) (i : SlotNo) (k : RawPicture) (c : Channel) :
    commits (closeMeasured env crop i k c).2.2 = commits c := by
  have counted : (filling crop i k c).tally.get (chanCtrIx .committed) = c.tally.get (chanCtrIx .committed) :=
    (countMany_get ..).trans (if_neg (by decide))
  exact congrArg (Prod.mk c.int.lastCommitted) counted

theorem commit_commits {env : Env} {i : SlotNo} {stamp : Time} {plan : Option Finish} {c : Channel}
    (later : ∀ t, c.int.lastCommitted = some t → 0 < sdiff stamp t) :
    (slotOf (commit env i stamp plan c) i).committed = some stamp
      ∧ commits (commit env i stamp plan c) = (some stamp, (commits c).2 + 1) := by
  have taken := commit_told env i stamp plan later
  refine ⟨?_, ?_⟩
  · rw [taken, slotOf_noteCommit]
    · rw [told_slot, if_pos rfl]
      rfl
    · rw [told_slot, if_pos rfl]
      rcases committedSlot_state stamp plan (slotOf c i) with e | e <;> rw [e] <;> decide
  · rw [taken, (noteCommit_ringWork ..).commits, commits, told_int, told_tally env i stamp plan c (by decide), if_pos rfl]
    rfl

theorem actOn_commits {env : Env} {i : SlotNo} {ruling : Ruling} {stamp : Time} {c : Channel}
    (rules : rulingStamp ruling = some stamp) (later : ∀ t, c.int.lastCommitted = some t → 0 < sdiff stamp t) :
    (slotOf (actOn env i ruling c) i).committed = some stamp
      ∧ commits (actOn env i ruling c) = (some stamp, (commits c).2 + 1) := by
  cases ruling with
  | video s => cases rules; exact commit_commits later
  | pairSecond s => cases rules; exact commit_commits later
  | pairFirst => cases rules
  | repeated => cases rules

theorem actOn_raws (env : Env) (i : SlotNo) (ruling : Ruling) (c : Channel) :
    (slotOf (actOn env i ruling c) i).raws = (slotOf c i).raws := by
  cases ruling with
  | video stamp => exact (commit_settled ..).raws
  | pairFirst => exact (congrArg Slot.raws (Bank.get_modify_same ..) :)
  | pairSecond stamp => exact (commit_settled ..).raws
  | repeated => exact (congrArg Slot.raws (Bank.get_modify_same ..) :)

/-! ## The close -/

section close
variable {c : Channel} {i : SlotNo} {crop : Rect} {k : RawPicture} (opened : c.int.openSlot = some i)
  (cropped : c.int.crop = some crop) (last : (slotOf c i).raws.getLast? = some k) (env : Env)
  (lines : presentLines crop k (slotOf c i) ≠ [])
include opened cropped last lines

theorem closeOpen_stepped : closeOpen env c = sweep (advanceHistory i ((slotOf c i).raws.length - 1)
    (breakNoted env.cfg.lockCycles (closeStep env crop i k c) (closeActed env crop i k c))) := by
  rw [closeOpen_filled opened cropped last env lines, judge_filling]

theorem closeOpen_detection : detection (closeOpen env c)
    = (detection c).after env.cfg.lockCycles (closeStep env crop i k c) := by
  have acted : detection (closeActed env crop i k c)
      = detection (lockNoted (closeStep env crop i k c) (closeMeasured env crop i k c).2.2) := actOn_detection ..
  have cad := congrArg Detection.cad (acted.trans (lockNoted_detection ..))
  rw [closeOpen_stepped opened cropped last env lines, (sweep_ringWork _).detection]
  refine (breakNoted_detection ..).trans ?_
  rw [acted, lockNoted_detection, closeMeasured_detection, show (closeActed env crop i k c).cad = _ from cad]
  rfl

theorem closeOpen_slot : slotOf (closeOpen env c) i = slotOf (closeActed env crop i k c) i := by
  rw [closeOpen_stepped opened cropped last env lines, sweep_keeps_history (advanceHistory_mark ..)]
  exact slotOf_countFlag_ite rfl

/-- The flags that a close stores with its picture are those its detector steps on. -/
theorem closeOpen_flags : ((slotOf (closeOpen env c) i).raws[(slotOf c i).raws.length - 1]?).bind (·.flags)
    = some ((closeMeasured env crop i k c).1, (closeMeasured env crop i k c).2.1) := by
  have noted : slotOf (lockNoted (closeStep env crop i k c) (closeMeasured env crop i k c).2.2) i
      = slotOf (closeMeasured env crop i k c).2.2 i := slotOf_countFlag_ite rfl
  rw [closeOpen_slot opened cropped last env lines, closeActed, actOn_raws, noted, closeMeasured_raws,
    List.getElem?_modify_eq, ← List.getLast?_eq_getElem?, last]
  rfl

theorem closeOpen_commits {stamp : Time} (rules : rulingStamp (closeStep env crop i k c).ruling = some stamp)
    (later : ∀ t, c.int.lastCommitted = some t → 0 < sdiff stamp t) :
    (slotOf (closeOpen env c) i).committed = some stamp ∧ (closeOpen env c).int.lastCommitted = some stamp
      ∧ (closeOpen env c).tally.get (chanCtrIx .committed) = c.tally.get (chanCtrIx .committed) + 1 := by
  have before : commits (lockNoted (closeStep env crop i k c) (closeMeasured env crop i k c).2.2) = commits c :=
    (lockNoted_commits ..).trans (closeMeasured_commits ..)
  have same : (lockNoted (closeStep env crop i k c) (closeMeasured env crop i k c).2.2).int.lastCommitted
      = c.int.lastCommitted := congrArg Prod.fst before
  obtain ⟨slot, acted⟩ := actOn_commits (env := env) (i := i) rules (same.symm ▸ later)
  rw [before] at acted
  have after : commits (closeOpen env c) = (some stamp, (commits c).2 + 1) := by
    rw [closeOpen_stepped opened cropped last env lines, (sweep_ringWork _).commits]
    exact (breakNoted_commits ..).trans acted
  rw [closeOpen_slot opened cropped last env lines]
  exact ⟨slot, congrArg Prod.fst after, congrArg Prod.snd after⟩

end close

end Sys2Proof.Machine
end

section
/-! The rules of a cadence: the rulings, the records of the rhythms, and what a close leaves of a pending lock and of a
lock (06/R99 to R101, R104 to R106, R110). -/

namespace Sys2Proof.Machine

/-! ## A close, as a step of the detector -/

/-- A channel `d` that a close has left of `c`, with the detector's step at it and the intake's commit on its ruling. -/
structure Stepped (env : Env) (i : SlotNo) (st : CadenceStep) (c d : Channel) : Prop where
  detection : detection d = (detection c).after env.cfg.lockCycles st
  commits : ∀ stamp, rulingStamp st.ruling = some stamp → (∀ t, c.int.lastCommitted = some t → 0 < sdiff stamp t) →
    (slotOf d i).committed = some stamp ∧ d.int.lastCommitted = some stamp
      ∧ d.tally.get (chanCtrIx .committed) = c.tally.get (chanCtrIx .committed) + 1

/-- A close whose picture is stored with the flags `rf` and `cf` steps the detector on them, its histories of measures
longer by the picture's own. -/
theorem closeOpen_steps {env : Env} {c : Channel} {i : SlotNo} {crop : Rect} {raw : RawPicture} {rf : RepeatFlag}
    {cf : CombFlag} (opened : c.int.openSlot = some i) (cropped : c.int.crop = some crop)
    (last : (slotOf c i).raws.getLast? = some raw)
    (present : ∃ l ∈ ownLines crop raw.kind, linePresent (slotOf c i).received crop l = true)
    (flags : ((slotOf (closeOpen env c) i).raws[(slotOf c i).raws.length - 1]?).bind (·.flags) = some (rf, cf)) :
    ∃ m cm, Stepped env i (cadenceStep (pushComb (pushRepeat c.cad m) cm) rf cf raw.stamp (updatePeriod raw.stamp c).int.pEst
      ((slotOf c i).raws.length = 1)) c (closeOpen env c) := by
  have lines : presentLines crop raw (slotOf c i) ≠ [] := by
    obtain ⟨l, own, complete⟩ := present
    exact List.ne_nil_of_mem (List.mem_filter.mpr ⟨own, complete⟩)
  have stored := flags.symm.trans (closeOpen_flags opened cropped last env lines)
  obtain ⟨rfl, rfl⟩ := Prod.mk.inj (Option.some.inj stored)
  obtain ⟨m, cm, cad⟩ := closeMeasured_cad env crop i raw c
  refine ⟨m, cm, ?_⟩
  rw [← cad]
  exact ⟨closeOpen_detection opened cropped last env lines,
    fun _ rules later => closeOpen_commits opened cropped last env lines rules later⟩

section stepped
variable {env : Env} {i : SlotNo} {c d : Channel} {e : Cadence} {r : Ruling}

theorem Stepped.quiet (h : Stepped env i ⟨e, r, false, false⟩ c d) : d.cad = newPending env.cfg.lockCycles e
    ∧ d.tally.get (chanCtrIx .cadenceLocks) = c.tally.get (chanCtrIx .cadenceLocks)
    ∧ d.tally.get (chanCtrIx .cadenceBreaks) = c.tally.get (chanCtrIx .cadenceBreaks)
    ∧ d.flags.get (chanFlagIx .cadenceChange) = c.flags.get (chanFlagIx .cadenceChange) :=
  ⟨congrArg Detection.cad h.detection, (congrArg Detection.locks h.detection).trans (add_zero _),
    (congrArg Detection.breaks h.detection).trans (add_zero _), congrArg Detection.changed h.detection⟩

theorem Stepped.locked (h : Stepped env i ⟨e, r, false, true⟩ c d) : d.cad = newPending env.cfg.lockCycles e
    ∧ d.tally.get (chanCtrIx .cadenceLocks) = c.tally.get (chanCtrIx .cadenceLocks) + 1
    ∧ d.flags.get (chanFlagIx .cadenceChange) = true :=
  ⟨congrArg Detection.cad h.detection, congrArg Detection.locks h.detection, congrArg Detection.changed h.detection⟩

theorem Stepped.broken (h : Stepped env i ⟨e, r, true, false⟩ c d) : d.cad = newPending env.cfg.lockCycles (endLock e)
    ∧ d.tally.get (chanCtrIx .cadenceLocks) = c.tally.get (chanCtrIx .cadenceLocks)
    ∧ d.tally.get (chanCtrIx .cadenceBreaks) = c.tally.get (chanCtrIx .cadenceBreaks) + 1
    ∧ d.flags.get (chanFlagIx .cadenceChange) = true :=
  ⟨congrArg Detection.cad h.detection, (congrArg Detection.locks h.detection).trans (add_zero _),
    congrArg Detection.breaks h.detection, congrArg Detection.changed h.detection⟩

end stepped

/-! ## The rules, part by part -/

section close
variable {env : Env} {i : SlotNo} {c d : Channel} {m cm : Option Nat} {rf : RepeatFlag} {cf : CombFlag} {raw : Time}
  {pEst : Nat} {own : Bool}
  (step : Stepped env i (cadenceStep (pushComb (pushRepeat c.cad m) cm) rf cf raw pEst own) c d)
include step

section video
variable (video : c.cad.mode = none)
include video

/-- In VIDEO without a pending lock both records are updated, and a confirmed rhythm becomes the pending lock. -/
theorem Stepped.hunts (free : c.cad.pendingLock = none) :
    d.cad.mode = none ∧ d.cad.pendingLock = confirmed env.cfg.lockCycles d.cad
    ∧ d.cad.rec32 = (updateHypothesis c.cad.rec32 rf cf c.cad.lastFlag).record
    ∧ d.cad.rec22 = (updateHypothesis c.cad.rec22 rf cf c.cad.lastFlag).record
    ∧ d.tally.get (chanCtrIx .cadenceLocks) = c.tally.get (chanCtrIx .cadenceLocks) := by
  rw [cadenceStep_hunts (d := pushComb (pushRepeat c.cad m) cm) video rf cf raw pEst own free] at step
  obtain ⟨cad, locks, -, -⟩ := step.quiet
  rw [newPending_hunting (d := bothUpdated (pushComb (pushRepeat c.cad m) cm) rf cf) video free] at cad
  rw [cad]
  exact ⟨video, rfl, rfl, rfl, locks⟩

section pending
variable {f : Family} (pending : c.cad.pendingLock = some f)
include pending

/-- A pending lock is cancelled with its record's phase, and the pending lock is judged anew. -/
theorem Stepped.cancels (disturbed : (updateHypothesis (recordOf c.cad f) rf cf c.cad.lastFlag).disturbed = true) :
    d.cad.mode = none ∧ d.cad.pendingLock = confirmed env.cfg.lockCycles d.cad
    ∧ d.tally.get (chanCtrIx .cadenceLocks) = c.tally.get (chanCtrIx .cadenceLocks)
    ∧ d.flags.get (chanFlagIx .cadenceChange) = c.flags.get (chanFlagIx .cadenceChange) := by
  rw [cadenceStep_cancels (d := pushComb (pushRepeat c.cad m) cm) video rf cf raw pEst own pending disturbed] at step
  obtain ⟨cad, locks, -, changed⟩ := step.quiet
  rw [newPending_hunting (d := { bothUpdated (pushComb (pushRepeat c.cad m) cm) rf cf with pendingLock := none })
    video rfl] at cad
  rw [cad]
  exact ⟨video, rfl, locks, changed⟩

variable (undisturbed : (updateHypothesis (recordOf c.cad f) rf cf c.cad.lastFlag).disturbed = false)
include undisturbed

/-- Within its cycle an undisturbed pending lock waits. -/
theorem Stepped.waits (within : (updateHypothesis (recordOf c.cad f) rf cf c.cad.lastFlag).position ≠ some 0) :
    d.cad.mode = none ∧ d.cad.pendingLock = some f
    ∧ d.tally.get (chanCtrIx .cadenceLocks) = c.tally.get (chanCtrIx .cadenceLocks) := by
  rw [cadenceStep_waits (d := pushComb (pushRepeat c.cad m) cm) video rf cf raw pEst own pending undisturbed within] at step
  obtain ⟨cad, locks, -, -⟩ := step.quiet
  have held : (bothUpdated (pushComb (pushRepeat c.cad m) cm) rf cf).pendingLock = some f := pending
  rw [newPending_settled (.inr (by rw [held]; nofun))] at cad
  rw [cad]
  exact ⟨video, held, locks⟩

/-- At its cycle start an undisturbed pending lock takes effect. -/
theorem Stepped.locks (start : (updateHypothesis (recordOf c.cad f) rf cf c.cad.lastFlag).position = some 0) :
    d.cad.mode = some f ∧ d.cad.anchor = some raw ∧ d.cad.pendingLock = none
    ∧ (c.cad.rec32.family = some f → d.cad.rec32 = (updateHypothesis (recordOf c.cad f) rf cf c.cad.lastFlag).record
      ∧ d.cad.rec22.next = none ∧ d.cad.rec22.count = 0)
    ∧ (c.cad.rec32.family ≠ some f → d.cad.rec22 = (updateHypothesis (recordOf c.cad f) rf cf c.cad.lastFlag).record
      ∧ d.cad.rec32.next = none ∧ d.cad.rec32.count = 0)
    ∧ d.tally.get (chanCtrIx .cadenceLocks) = c.tally.get (chanCtrIx .cadenceLocks) + 1
    ∧ d.flags.get (chanFlagIx .cadenceChange) = true := by
  rw [cadenceStep_locks (d := pushComb (pushRepeat c.cad m) cm) video rf cf raw pEst own pending undisturbed start] at step
  obtain ⟨cad, locks, changed⟩ := step.locked
  rw [newPending_settled (.inl (Option.some_ne_none f))] at cad
  obtain ⟨first, second⟩ := takeLock_records (pushComb (pushRepeat c.cad m) cm) f raw rf cf
  rw [cad]
  exact ⟨rfl, rfl, rfl, first, second, locks, changed⟩

end pending
end video

section lock
variable {f : Family} (mode : c.cad.mode = some f) {p : Nat} (next : (recordOf c.cad f).next = some p)
include mode next

/-- Any flag but the breaking one keeps the lock, its anchor renewed at the cycle start. -/
theorem Stepped.keeps (keeps : ¬ breaksLock f p (signOf f rf cf) = true) :
    d.tally.get (chanCtrIx .cadenceLocks) = c.tally.get (chanCtrIx .cadenceLocks) ∧ d.cad.mode = some f
    ∧ d.cad.anchor = some (if p = 0 then raw else c.cad.anchor.getD raw)
    ∧ d.tally.get (chanCtrIx .cadenceBreaks) = c.tally.get (chanCtrIx .cadenceBreaks) := by
  rw [cadenceStep_keeps (d := pushComb (pushRepeat c.cad m) cm) mode next rf cf raw pEst own keeps] at step
  obtain ⟨cad, locks, breaks, -⟩ := step.quiet
  have held : (lockUpdated (pushComb (pushRepeat c.cad m) cm) f rf cf).mode = some f := (lockUpdated_mode ..).trans mode
  rw [newPending_settled (.inl (by rw [held]; nofun))] at cad
  rw [cad]
  exact ⟨locks, held, rfl, breaks⟩

/-- A broken lock ends, and the picture that breaks it is committed under it (06/R106, notes/assumptions/17). -/
theorem Stepped.breaks (breaks : breaksLock f p (signOf f rf cf) = true) :
    d.tally.get (chanCtrIx .cadenceLocks) = c.tally.get (chanCtrIx .cadenceLocks)
    ∧ d.cad.mode = none ∧ d.cad.anchor = none
    ∧ d.tally.get (chanCtrIx .cadenceBreaks) = c.tally.get (chanCtrIx .cadenceBreaks) + 1
    ∧ d.flags.get (chanFlagIx .cadenceChange) = true
    ∧ ∀ (stamp anchor : Time), c.cad.anchor = some anchor →
      stamp = (if secondOfPair f p = false ∨ own = true then raw
        else if f = .film32 ∧ p = 4 then halfCycleStamp anchor pEst else anchor) →
      (∀ t, c.int.lastCommitted = some t → 0 < sdiff stamp t) →
      (slotOf d i).committed = some stamp ∧ d.int.lastCommitted = some stamp
      ∧ d.tally.get (chanCtrIx .committed) = c.tally.get (chanCtrIx .committed) + 1 := by
  rw [cadenceStep_breaks (d := pushComb (pushRepeat c.cad m) cm) mode next rf cf raw pEst own breaks] at step
  obtain ⟨cad, locks, counted, changed⟩ := step.broken
  rw [newPending_frame] at cad
  refine ⟨locks, by rw [cad]; rfl, by rw [cad]; rfl, counted, changed, fun stamp anchor held hs later => ?_⟩
  refine step.commits stamp ((rulingStamp_breakRuling ..).trans ?_) later
  rw [show (pushComb (pushRepeat c.cad m) cm).anchor.getD raw = anchor from congrArg (Option.getD · raw) held, ← hs]

end lock
end close

/-! ## The statement -/

/-- Settles O43: a close is one step of the detector, which the cases of a pending lock and of a lock decide; the rulings
and the records of the rhythms are rules of their own. -/
theorem cadenceRules : Obligations.CadenceRules := by
  unfold Obligations.CadenceRules
  refine ⟨fun anchor raw p => ?_, fun h f rf cf last st family hst => ?_,
    fun env c d i crop raw rf cf n pending opened cropped hn _ last hd present flags hp => ?_⟩
  · have half := halfCycleStamp_eq anchor p
    exact ⟨rfl, rfl, rfl, rfl, congrArg Ruling.pairSecond half, rfl, rfl, rfl, rfl, congrArg Ruling.video half, rfl, rfl, rfl,
      rfl, fun f n second _ => rulingAt_own second anchor raw p, rfl, rfl, rfl, pCommit_threeTwo (.inl rfl) p,
      pCommit_threeTwo (.inr rfl) p⟩
  · obtain ⟨marked, inside⟩ := markPosition_marked f last
    subst hst
    refine ⟨fun p next seen expected => ?_, fun p next still => ?_, fun p next => updateHypothesis_missed family next last,
      fun p next sign mark => ⟨_, marked, inside, ?_⟩, fun next sign => ⟨_, marked, inside, ?_⟩, fun next sign => ?_⟩
    · rw [updateHypothesis_expected family next last seen expected, atPosition_eq family]
    · rw [updateHypothesis_still family next last still, atPosition_eq family]
    · rw [updateHypothesis_rephased family next last sign mark, atPosition_eq family]
    · rw [updateHypothesis_phases family next last sign, atPosition_eq family]
    · rw [updateHypothesis_waits family next last sign]
      exact ⟨rfl, rfl⟩
  · subst hn hd hp
    obtain ⟨m, cm, step⟩ := closeOpen_steps opened cropped last present flags
    refine ⟨fun video => ⟨step.hunts video, fun f st pending hst => ?_⟩, fun f p breaks mode next hb => ?_⟩
    · subst hst
      exact ⟨step.cancels video pending, step.waits video pending, step.locks video pending⟩
    · rw [← breaksLock_iff] at hb
      by_cases broken : breaks
      · obtain ⟨locks, none, anchor, counted, changed, committed⟩ := step.breaks mode next (hb.mp broken)
        simp only [halfCycleStamp_eq, decide_eq_true_eq] at committed
        exact ⟨locks, fun kept => absurd broken kept, fun _ => ⟨none, anchor, counted, changed, committed⟩⟩
      · obtain ⟨locks, kept⟩ := step.keeps mode next (fun b => broken (hb.mpr b))
        exact ⟨locks, fun _ => kept, fun b => absurd b broken⟩

end Sys2Proof.Machine
end

section
/-! A motion job: the match measure, the search of a block, the records of a job, its global vector and its end (07/R115 to
R122). -/

namespace Sys2Proof.Machine

/-! ## The match measure (07/R117) -/

theorem absDiff_le {a b m : Nat} (ha : a ≤ m) (hb : b ≤ m) : absDiff a b ≤ m := by
  unfold absDiff
  split <;> omega

theorem cropLuma_le (crop : Rect) (p : Planes) (x y : Int) : cropLuma crop p x y ≤ 1023 :=
  Nat.le_of_lt_succ (BitVec.isLt _)

/-- A sum over the sixteen places of a row or a column of a block. -/
theorem sum_sixteen_le {f : Nat → Nat} {m : Nat} (h : ∀ i, f i ≤ m) : ((List.range 16).map f).sum ≤ 16 * m := by
  have bound := List.sum_le_card_nsmul ((List.range 16).map f) m (by simpa using fun i _ => h i)
  simpa using bound

theorem blockSad_le (crop : Rect) (a b : Planes) (col row : Nat) (v : Vec) : blockSad crop a b col row v ≤ 261888 :=
  sum_sixteen_le (m := 16 * 1023) fun _ => sum_sixteen_le fun _ => absDiff_le (cropLuma_le ..) (cropLuma_le ..)

/-! ## The search of a block (07/R118, R120) -/

/-- What a search holds of its best vector: it is in the vector range, told with its own match, and none worse than that of
the zero vector. -/
structure Searched (sad : Vec → Nat) (best : Vec × Nat) : Prop where
  horizontal : -32 ≤ best.1.x ∧ best.1.x ≤ 32
  vertical : -16 ≤ best.1.y ∧ best.1.y ≤ 16
  measured : best.2 = sad best.1
  noWorse : best.2 ≤ sad ⟨0, 0⟩

theorem Searched.zero (sad : Vec → Nat) : Searched sad (⟨0, 0⟩, sad ⟨0, 0⟩) :=
  ⟨by simp, by simp, rfl, Nat.le_refl _⟩

theorem Searched.tryVec {sad : Vec → Nat} {best : Vec × Nat} (h : Searched sad best) (v : Vec) :
    Searched sad (tryVec sad best v) := by
  unfold Machine.tryVec
  split
  · next better =>
    exact ⟨clampInt_mem (by decide) _, clampInt_mem (by decide) _, rfl, Nat.le_trans (Nat.le_of_lt better) h.noWorse⟩
  · exact h

theorem Searched.tryAll {sad : Vec → Nat} (vs : List Vec) {best : Vec × Nat} (h : Searched sad best) :
    Searched sad (vs.foldl (Machine.tryVec sad) best) := by
  induction vs generalizing best with
  | nil => exact h
  | cons v vs ih => exact ih (h.tryVec v)

theorem searchVec_searched (sad : Vec → Nat) (seeds : List Vec) : Searched sad (searchVec sad seeds) :=
  ((Searched.zero sad).tryAll seeds).tryAll _

/-! ## The records of a job (07/R115, R118, R121) -/

section records
variable (limit columns : Nat) (tableA : Option VectorTable) (globalA : Option Vec) (sad : Nat → Vec → Nat)

theorem searchBlocks_length (blocks : Nat) : (searchBlocks limit columns tableA globalA sad blocks).length = blocks := by
  induction blocks with
  | zero => rfl
  | succ blocks ih => simp [searchBlocks, ih]

/-- Each record is that of its own block, searched from the records before it. -/
theorem searchBlocks_record {blocks n : Nat} (h : n < blocks) :
    (searchBlocks limit columns tableA globalA sad blocks)[n]? = some (blockRecordOf limit (searchVec (sad n)
      (seedsOf columns tableA globalA (searchBlocks limit columns tableA globalA sad n) n))) := by
  induction blocks with
  | zero => cases h
  | succ blocks ih =>
    have length := searchBlocks_length limit columns tableA globalA sad blocks
    rw [searchBlocks]
    rcases Nat.lt_succ_iff_lt_or_eq.mp h with before | rfl
    · rw [List.getElem?_append_left (by rwa [length]), ih before]
    · rw [List.getElem?_append_right (by rw [length]), length, Nat.sub_self]
      rfl

theorem searchBlocks_searched {blocks n : Nat} {r : BlockRecord}
    (h : (searchBlocks limit columns tableA globalA sad blocks)[n]? = some r) :
    ∃ best, Searched (sad n) best ∧ r = blockRecordOf limit best := by
  obtain ⟨inside, -⟩ := List.getElem?_eq_some_iff.mp h
  rw [searchBlocks_length] at inside
  rw [searchBlocks_record limit columns tableA globalA sad inside] at h
  exact ⟨_, searchVec_searched .., (Option.some.inj h).symm⟩

end records

/-- The match of a block of a pair at a vector, blocks numbered in raster order. -/
def pairSad (c : Channel) (q : Pair) (crop : Rect) (n : Nat) (v : Vec) : Nat :=
  blockSad crop (slotOf c q.a).planes (slotOf c q.b).planes (n % gridColumns crop) (n / gridColumns crop) v

/-- The job that starts for a pair. -/
def startedJob (env : Env) (c : Channel) (q : Pair) (crop : Rect) : Job where
  pair := q
  columns := gridColumns crop
  rows := gridRows crop
  globalA := (slotOf c q.a).table.bind (·.globalVec)
  records := searchBlocks env.cfg.matchLimit (gridColumns crop) (slotOf c q.a).table
    ((slotOf c q.a).table.bind (·.globalVec)) (pairSad c q crop) (gridColumns crop * gridRows crop)
  started := env.now

theorem startJob_starts (env : Env) {c : Channel} {q : Pair} {rest : List Pair} {crop : Rect} (idle : c.meu.job = none)
    (pending : c.meu.pending = q :: rest) (cropped : c.int.crop = some crop)
    (completeA : (slotOf c q.a).state = .complete) (completeB : (slotOf c q.b).state = .complete) :
    startJob env c = { c with meu := { pending := rest, job := some (startedJob env c q crop) } } := by
  have both : isComplete c q.b ∧ isComplete c q.a := ⟨decide_eq_true completeB, decide_eq_true completeA⟩
  rw [startJob, idle, pending, cropped]
  exact if_pos both

/-! ## The order of the global vector (07/R119) -/

theorem vecBefore_iff {v w : Vec} : vecBefore v w = true ↔ vecSize v < vecSize w
    ∨ vecSize v = vecSize w ∧ (v.y < w.y ∨ v.y = w.y ∧ v.x < w.x) := by
  simp [vecBefore]

theorem vec_ne_iff {v w : Vec} : v ≠ w ↔ v.x ≠ w.x ∨ v.y ≠ w.y := by
  cases v
  cases w
  simp [Decidable.imp_iff_not_or]

/-- Whether `v` goes before `w` among the vectors `vs`: more frequent, or as frequent and earlier in the order of ties. -/
abbrev Outranks (vs : List Vec) (v w : Vec) : Prop :=
  vs.count w < vs.count v ∨ (vs.count v = vs.count w ∧ vecBefore v w = true)

theorem Outranks.trans {vs : List Vec} {u v w : Vec} (h : Outranks vs u v) (k : Outranks vs v w) : Outranks vs u w := by
  unfold Outranks at *
  rw [vecBefore_iff] at *
  omega

theorem outranks_of_not {vs : List Vec} {v w : Vec} (ne : w ≠ v) (h : ¬ Outranks vs v w) : Outranks vs w v := by
  have apart := vec_ne_iff.mp ne
  unfold Outranks at *
  rw [vecBefore_iff] at *
  omega

/-- The vector of `seen` that outranks all its others among `vs`. -/
def IsFirst (vs seen : List Vec) (v : Vec) : Prop := v ∈ seen ∧ ∀ w ∈ seen, w ≠ v → Outranks vs v w

/-- One candidate for the global vector against the best so far. -/
def keepFirst (vs : List Vec) (best : Option Vec) (v : Vec) : Option Vec :=
  match best with
  | none => some v
  | some w => if Outranks vs v w then some v else some w

/-- The vectors of the valid records, in raster order. -/
def validVecs (rs : List BlockRecord) : List Vec := (rs.filter (·.valid)).map (·.vec)

theorem globalVector_eq (rs : List BlockRecord) :
    globalVector rs = (validVecs rs).foldl (keepFirst (validVecs rs)) none := rfl

theorem keepFirst_some (vs : List Vec) (w v : Vec) : ∃ u, keepFirst vs (some w) v = some u ∧ IsFirst vs [w, v] u := by
  by_cases h : Outranks vs v w
  · exact ⟨v, if_pos h, by simp, by simp [h]⟩
  · refine ⟨w, if_neg h, by simp, fun u mem ne => ?_⟩
    obtain rfl : u = v := by simpa [ne] using mem
    exact outranks_of_not ne.symm h

theorem IsFirst.cons {vs rest : List Vec} {w x u v : Vec} (head : IsFirst vs [w, x] u) (tail : IsFirst vs (u :: rest) v) :
    IsFirst vs (w :: x :: rest) v := by
  obtain ⟨headMem, headFirst⟩ := head
  obtain ⟨tailMem, tailFirst⟩ := tail
  have pair {z : Vec} (mem : z ∈ [w, x]) (ne : z ≠ v) : Outranks vs v z := by
    by_cases same : z = u
    · exact same ▸ tailFirst u List.mem_cons_self (same ▸ ne)
    · by_cases kept : u = v
      · exact kept ▸ headFirst z mem same
      · exact (tailFirst u List.mem_cons_self kept).trans (headFirst z mem same)
  refine ⟨?_, fun z mem ne => ?_⟩
  · rcases List.mem_cons.mp tailMem with rfl | mem
    · exact List.mem_append_left rest headMem
    · exact List.mem_append_right [w, x] mem
  · rcases List.mem_append.mp (show z ∈ [w, x] ++ rest from mem) with mem | mem
    · exact pair mem ne
    · exact tailFirst z (List.mem_cons_of_mem u mem) ne

theorem foldl_keepFirst (vs rest : List Vec) (w : Vec) :
    ∃ v, rest.foldl (keepFirst vs) (some w) = some v ∧ IsFirst vs (w :: rest) v := by
  induction rest generalizing w with
  | nil => exact ⟨w, rfl, by simp [IsFirst]⟩
  | cons x rest ih =>
    obtain ⟨u, kept, head⟩ := keepFirst_some vs w x
    obtain ⟨v, best, tail⟩ := ih u
    exact ⟨v, by rw [List.foldl_cons, kept, best], head.cons tail⟩

/-- A job without a valid vector has no global vector; any other has the first of its valid vectors. -/
theorem globalVector_cases (rs : List BlockRecord) :
    (validVecs rs = [] ∧ globalVector rs = none)
      ∨ ∃ v, globalVector rs = some v ∧ IsFirst (validVecs rs) (validVecs rs) v := by
  rw [globalVector_eq]
  generalize validVecs rs = vs
  cases vs with
  | nil => exact .inl ⟨rfl, rfl⟩
  | cons w rest => exact .inr (foldl_keepFirst (w :: rest) rest w)

theorem validVecs_eq_nil {rs : List BlockRecord} : validVecs rs = [] ↔ ∀ r ∈ rs, r.valid = false := by
  simp [validVecs]

theorem globalVector_eq_none {rs : List BlockRecord} : globalVector rs = none ↔ ∀ r ∈ rs, r.valid = false := by
  rw [← validVecs_eq_nil]
  rcases globalVector_cases rs with ⟨empty, unchosen⟩ | ⟨v, chosen, mem, -⟩
  · simp [empty, unchosen]
  · simp [chosen, List.ne_nil_of_mem mem]

/-- The first of all vectors is at least as frequent as any other, and before those as frequent as itself. -/
theorem IsFirst.most {vs : List Vec} {v : Vec} (h : IsFirst vs vs v) (w : Vec) :
    vs.count w ≤ vs.count v ∧ (vs.count w = vs.count v → w ≠ v → vecBefore v w = true) := by
  obtain ⟨mem, first⟩ := h
  have occurs := List.count_pos_iff.mpr mem
  by_cases listed : w ∈ vs
  · by_cases same : w = v
    · exact ⟨same ▸ Nat.le_refl _, fun _ ne => absurd same ne⟩
    · rcases first w listed same with more | ⟨equal, before⟩
      · exact ⟨Nat.le_of_lt more, fun equal => absurd equal (Nat.ne_of_lt more)⟩
      · exact ⟨Nat.le_of_eq equal.symm, fun _ _ => before⟩
  · rw [List.count_eq_zero.mpr listed]
    exact ⟨Nat.zero_le _, fun absent => absurd absent (Nat.ne_of_lt occurs)⟩

theorem globalVector_most {rs : List BlockRecord} {v : Vec} (h : globalVector rs = some v) (w : Vec) :
    (validVecs rs).count w ≤ (validVecs rs).count v
      ∧ ((validVecs rs).count w = (validVecs rs).count v → w ≠ v → vecBefore v w = true) := by
  rcases globalVector_cases rs with ⟨-, unchosen⟩ | ⟨u, chosen, first⟩
  · exact nomatch unchosen.symm.trans h
  · cases chosen.symm.trans h
    exact first.most w

/-! ## The end of a job (07/R122) -/

/-- The channel as a job leaves it, before the pictures that the job marked are freed. -/
def tabled (j : Job) (c : Channel) : Channel :=
  { c with
    meu := { c.meu with job := none }
    int := { c.int with slots := c.int.slots.modify j.pair.b fun x => { x with table := some (tableOf j) } }
    tally := if (tableOf j).cut then addCount c.tally (chanCtrIx .motionCuts) 1 else c.tally }

theorem endJob_ends {c : Channel} {j : Job} (job : c.meu.job = some j) : endJob c = count (sweep (tabled j c)) .motionJobs := by
  rw [endJob, job]
  dsimp only
  congr 2
  unfold tabled
  split <;> rfl

theorem tableOf_invalid (j : Job) : (tableOf j).invalid = j.records.countP fun r => !r.valid :=
  List.countP_eq_length_filter.symm

theorem tableOf_cut {j : Job} : (tableOf j).cut = true ↔ j.columns * j.rows < 2 * (tableOf j).invalid :=
  decide_eq_true_iff

/-- Settles O44: the search keeps its best vector in range and no worse than the zero vector, and the fold that chooses the
global vector keeps the first of those seen. -/
theorem motionJobs : Obligations.MotionJobs := by
  unfold Obligations.MotionJobs
  refine ⟨fun dt s k g q rest crop config idle pending cropped completeA completeB => ?_, fun dt s k j job => ?_⟩
  · have started := onConfigured_set (s := advance dt s) config
      (startJob_starts ⟨(advance dt s).now, g⟩ idle pending cropped completeA completeB)
    refine ⟨startedJob ⟨(advance dt s).now, g⟩ (chan s k) q crop, ?_, rfl, rfl, rfl, rfl, searchBlocks_length .., ?_⟩
    · exact (exec_eq_body (c := .motionJobStart dt k) rfl s).trans (congrArg (fun t => Host.Outcome.next (conclude t)) started)
    · intro n r record
      obtain ⟨best, ⟨⟨left, right⟩, ⟨low, high⟩, measured, noWorse⟩, rfl⟩ := searchBlocks_searched _ _ _ _ _ record
      exact ⟨left, right, low, high, measured, noWorse, measured.trans_le (blockSad_le ..), decide_eq_true_iff⟩
  · have ended := onChan_set (s := advance dt s) (endJob_ends job)
    refine ⟨tableOf j, tabled j (chan s k), ?_, rfl, rfl, rfl, tableOf_invalid j, tableOf_cut, globalVector_eq_none,
      fun v => globalVector_most⟩
    exact (exec_eq_body (c := .motionJobDone dt k) rfl s).trans (congrArg (fun t => Host.Outcome.next (conclude t)) ended)

end Sys2Proof.Machine
end

section
/-! The preliminary weight and the projection of a vector (08/R131, R137). -/

namespace Sys2Proof.Machine

/-! ## The preliminary weight (08/R131) -/

theorem baseWeight_int {tA tB r : Time} (before : 0 ≤ sdiff r tA) (within : sdiff r tA < sdiff tB tA) :
    (baseWeight tA tB r : Int) = (128 * sdiff r tA + sdiff tB tA) / (2 * sdiff tB tA) :=
  Int.toNat_of_nonneg (Int.ediv_nonneg (by omega) (by omega))

/-! ## The projection of a vector (08/R137) -/

/-- A component projected lies between 0 and the component, which it reaches at weight 64. -/
theorem project_nonneg {w : Nat} (weight : w ≤ 64) {v : Int} (positive : 0 ≤ v) : 0 ≤ project w v ∧ project w v ≤ v := by
  have low : 0 ≤ (w : Int) * v := Int.mul_nonneg (by omega) positive
  have high : (w : Int) * v ≤ 64 * v := Int.mul_le_mul_of_nonneg_right (by omega) positive
  rw [project, roundHalfAway, if_neg (by omega), roundHalfUp]
  omega

theorem project_neg (w : Nat) (v : Int) : project w (-v) = -project w v := by
  rw [project, Int.mul_neg, roundHalfAway_neg _ 64 (by decide)]
  rfl

theorem project_nonpos {w : Nat} (weight : w ≤ 64) {v : Int} (negative : v ≤ 0) : v ≤ project w v ∧ project w v ≤ 0 := by
  have mirrored := project_nonneg weight (v := -v) (by omega)
  rw [project_neg] at mirrored
  omega

theorem project_zero (v : Int) : project 0 v = 0 := by
  rw [project, Nat.cast_zero, Int.zero_mul, roundHalfAway_zero 64 (by decide)]

theorem project_whole (v : Int) : project 64 v = v := by
  have at_nonneg {v : Int} (positive : 0 ≤ v) : project 64 v = v := by
    rw [project, roundHalfAway, if_neg (by omega), roundHalfUp]
    omega
  rcases Int.le_total 0 v with positive | negative
  · exact at_nonneg positive
  · have mirrored := at_nonneg (v := -v) (by omega)
    rw [project_neg] at mirrored
    omega

theorem shiftsOf_neg (w : Nat) (v : Vec) : shiftsOf w ⟨-v.x, -v.y⟩
    = ⟨-(shiftsOf w v).ax, -(shiftsOf w v).ay, -(shiftsOf w v).bx, -(shiftsOf w v).bY⟩ := by
  simp only [shiftsOf, project_neg, Shifts.mk.injEq, true_and]
  omega

/-! ## The statement -/

/-- Settles O45: the quotient of the weight is bounded by its interval, and each component is projected within its own. -/
theorem weightsAndShifts : Obligations.WeightsAndShifts := by
  unfold Obligations.WeightsAndShifts
  refine ⟨fun tA tB r a d ha hd before within => ?_, fun w v weight => ?_⟩
  · subst ha hd
    have quotient := baseWeight_int before within
    have most : (baseWeight tA tB r : Int) < 65 := by
      rw [quotient]
      exact Int.ediv_lt_of_lt_mul (by omega) (by omega)
    have last : 64 ≤ (baseWeight tA tB r : Int) ↔ 127 * sdiff tB tA ≤ 128 * sdiff r tA := by
      rw [quotient, Int.le_ediv_iff_mul_le (by omega)]
      omega
    refine ⟨quotient, by omega, ?_⟩
    rw [← last]
    omega
  · refine ⟨rfl, rfl, add_sub_cancel _ _, add_sub_cancel _ _, project_nonneg weight, project_nonpos weight,
      project_nonneg weight, project_nonpos weight, ?_, ?_, shiftsOf_neg w v⟩
    · rintro rfl
      exact ⟨project_zero _, project_zero _⟩
    · rintro rfl
      exact ⟨Int.sub_eq_zero.mpr (project_whole _).symm, Int.sub_eq_zero.mpr (project_whole _).symm⟩

end Sys2Proof.Machine
end

section
/-! The selection for the announced picture (08/R127 to R132). -/

namespace Sys2Proof.Machine

/-! ## A and B (08/R128) -/

/-- The picture that ends the committed list's part up to the render point, or the first picture where none is there. -/
structure LastBefore (c : Channel) (point : Time) (before : List SlotNo) (a : SlotNo) (after : List SlotNo) : Prop where
  list : c.int.committed = before ++ a :: after
  after : ∀ i ∈ after, sdiff point (stampOf c i) < 0
  last : 0 ≤ sdiff point (stampOf c a) ∨ before = []
  once : a ∉ before

theorem atOrBefore_false {c : Channel} {point : Time} {i : SlotNo} :
    atOrBefore c point i = false ↔ sdiff point (stampOf c i) < 0 :=
  decide_eq_false_iff_not.trans not_le

theorem atOrBefore_true {c : Channel} {point : Time} {i : SlotNo} :
    atOrBefore c point i = true ↔ 0 ≤ sdiff point (stampOf c i) := decide_eq_true_iff

theorem filter_after {c : Channel} {point : Time} {after : List SlotNo}
    (h : ∀ i ∈ after, sdiff point (stampOf c i) < 0) : after.filter (atOrBefore c point) = [] :=
  List.filter_eq_nil_iff.mpr fun i hi => by rw [atOrBefore_false.mpr (h i hi)]; decide

/-- Whether A itself lies after the render point (08/R128). -/
def startsEarly (c : Channel) (point : Time) (a : SlotNo) : Bool := decide (sdiff point (stampOf c a) < 0)

theorem chooseAB_early {c : Channel} {point : Time} {first : SlotNo} {rest : List SlotNo}
    (list : c.int.committed = first :: rest) (none : c.int.committed.filter (atOrBefore c point) = []) :
    chooseAB c point = some (first, .none, true) := by
  unfold chooseAB
  split
  · next empty => cases list.symm.trans empty
  · next e =>
    cases list.symm.trans e
    dsimp only
    rw [none]
    rfl

theorem chooseAB_last {c : Channel} {point : Time} {a : SlotNo}
    (last : (c.int.committed.filter (atOrBefore c point)).getLast? = some a) :
    chooseAB c point = some (a, ((c.int.committed.dropWhile (· ≠ a)).drop 1).head?, false) := by
  unfold chooseAB
  split
  · next empty =>
    rw [empty] at last
    cases last
  · dsimp only
    rw [last]

theorem dropWhile_ne {before after : List SlotNo} {a : SlotNo} (once : a ∉ before) :
    (before ++ a :: after).dropWhile (· ≠ a) = a :: after := by
  have other : ∀ i ∈ before, decide (i ≠ a) = true := fun i hi => decide_eq_true fun e : i = a => once (e ▸ hi)
  rw [List.dropWhile_append_of_pos other]
  exact List.dropWhile_cons_of_neg (by simp)

theorem chooseAB_eq {c : Channel} {point : Time} {before after : List SlotNo} {a : SlotNo}
    (h : LastBefore c point before a after) :
    chooseAB c point = some (a, if startsEarly c point a then none else after.head?, startsEarly c point a) := by
  obtain ⟨list, later, last, once⟩ := h
  by_cases early : sdiff point (stampOf c a) < 0
  · obtain rfl : before = [] := last.resolve_left (by omega)
    have none : c.int.committed.filter (atOrBefore c point) = [] := by
      rw [list]
      exact filter_after (List.forall_mem_cons.mpr ⟨early, later⟩)
    rw [chooseAB_early list none]
    simp [startsEarly, early]
  · have found : (c.int.committed.filter (atOrBefore c point)).getLast? = some a := by
      rw [list, List.filter_append, List.filter_cons_of_pos (atOrBefore_true.mpr (by omega)), filter_after later]
      simp
    rw [chooseAB_last found, list, dropWhile_ne once]
    simp [startsEarly, early]

/-! ## The record (08/R127, R129, R131, R132) -/

theorem otherBuffer_ne (b : BufNo) : otherBuffer b ≠ b := by revert b; decide

theorem renderBuffer_unscanned (p : Port) : p.source ≠ .buffer (renderBuffer p) := by
  unfold renderBuffer
  split
  · next b source => exact fun e => otherBuffer_ne b (ScanSource.buffer.inj (source.symm.trans e)).symm
  · next generated => exact generated _

theorem renderBuffer_lastGood {p : Port} (generated : ∀ b, p.source ≠ .buffer b) : p.lastGood ≠ some (renderBuffer p) := by
  unfold renderBuffer
  split
  · next b source => exact absurd source (generated b)
  · cases p.lastGood with
    | none => nofun
    | some b => exact fun e => otherBuffer_ne b (Option.some.inj e).symm

/-- The weight of A and B for a render point, and 0 under the gap rule (08/R131, R132). -/
def prelimWeight (c : Channel) (point : Time) (a b : SlotNo) : Nat :=
  if gapHeld c (stampOf c a) (stampOf c b) then 0 else baseWeight (stampOf c a) (stampOf c b) point

/-- The record that a selection forms (08/R127 to R132). -/
def selected (env : Env) (d : Nat) (c : Channel) (tOut : Time) (a : SlotNo) (b : Option SlotNo) (early : Bool) :
    RenderRecord where
  picture := c.port.picture + 1
  tOut := tOut
  select := shift tOut (-(pOut env.cfg : Int))
  conceal := shift tOut (-((pOut env.cfg / 8 : Nat) : Int))
  point := shift tOut (-(d : Int))
  state := .waiting
  a := a
  b := b
  early := early
  prelim := b.map (prelimWeight c (shift tOut (-(d : Int))) a)
  mode := none
  weight := none
  buffer := renderBuffer c.port
  concealed := false

/-- What a selection counts: an A after the render point, or a gap (08/R128, R132). -/
def selectionTally (c : Channel) (a : SlotNo) (b : Option SlotNo) (early : Bool) : Bank 42 Count :=
  if early then addCount c.tally (chanCtrIx .early) 1
  else if b.any fun i => gapHeld c (stampOf c a) (stampOf c i) then addCount c.tally (chanCtrIx .gapHolds) 1
  else c.tally

theorem selectionTally_eq (c : Channel) (point : Time) (a : SlotNo) (b : Option SlotNo) (early : Bool) :
    selectionTally c a b early = if early then addCount c.tally (chanCtrIx .early) 1
      else if b.isSome && b.map (prelimWeight c point a) = some 0 && b.any (fun i => gapHeld c (stampOf c a) (stampOf c i))
        then addCount c.tally (chanCtrIx .gapHolds) 1
      else c.tally := by
  unfold selectionTally
  cases b with
  | none => rfl
  | some i => cases gap : gapHeld c (stampOf c a) (stampOf c i) <;> simp [prelimWeight, gap]

/-- An early A stands without a B (08/R128). -/
theorem formRecord_eq (env : Env) {d : Nat} {c : Channel} {tOut : Time} {a : SlotNo} {b : Option SlotNo} {early : Bool}
    (chosen : chooseAB c (shift tOut (-(d : Int))) = some (a, b, early)) (alone : early = true → b = none) :
    formRecord env d c tOut = sweep { c with
      ren := { c.ren with record := some (selected env d c tOut a b early) }
      int := { c.int with retireRef := some a }, tally := selectionTally c a b early } := by
  unfold formRecord
  dsimp only
  rw [chosen]
  cases b with
  | none => cases early <;> rfl
  | some i =>
    cases early with
    | true => cases alone rfl
    | false =>
      have weighed : weigh c a i (shift tOut (-(d : Int))) = (prelimWeight c (shift tOut (-(d : Int))) a i,
          { c with tally := selectionTally c a (some i) false }) := by
        unfold weigh prelimWeight
        cases gap : gapHeld c (stampOf c a) (stampOf c i) with
        | false => simp [selectionTally, gap]
        | true => simp [selectionTally, gap, count, countMany]
      simp only [Bool.false_eq_true, if_false, weighed]
      rfl

/-- The channel whose selection for the announced picture is made (notes/assumptions/20). -/
def selecting (c : Channel) : Channel := { c with ren := { c.ren with selected := true } }

theorem makeSelection_due (env : Env) {c : Channel} {d : Nat} {t0 t1 : Time} (converting : c.sup.state = .converting)
    (unselected : c.ren.selected = false) (free : c.ren.record = none) (delay : c.ren.dEff = some d)
    (scanning : c.port.tOut = some t0) (next : c.port.tNext = some t1) (scanned : 0 ≤ sdiff env.now t0)
    (due : 0 ≤ sdiff env.now (shift t1 (-(pOut env.cfg : Int)))) :
    makeSelection env c = formRecord env d (selecting c) t1 := by
  have due' : selectionDue env c = true := by simp [selectionDue, scanning, next, reached_iff, scanned, due]
  unfold makeSelection
  rw [next, delay]
  exact if_pos ⟨converting, unselected, free, due'⟩

/-! ## The statement -/

/-- Settles O46: the selection forms the record of the A and B that the render point divides, or skips the picture. -/
theorem renderSelection : Obligations.RenderSelection := by
  unfold Obligations.RenderSelection
  intro dt s k g now t0 t1 point d c hc config hnow converting unselected free delay scanning next scanned due hpoint
  subst hc hnow hpoint
  have selects := makeSelection_due ⟨s.now + BitVec.ofNat 48 dt, g⟩ converting unselected free delay scanning next scanned due
  have acts {e : Channel} (h : formRecord ⟨s.now + BitVec.ofNat 48 dt, g⟩ d (selecting (chan s k)) t1 = e) :
      exec (.renderSelection dt k) s = .next (conclude { advance dt s with chans := s.chans.set k e }) :=
    congrArg (fun t => Host.Outcome.next (conclude t)) (onConfigured_set (s := advance dt s) config (selects.trans h))
  refine ⟨fun empty => acts ?_, fun before after a list later last once => ?_⟩
  · unfold formRecord chooseAB
    rw [show (selecting (chan s k)).int.committed = [] from empty]
    rfl
  · have chosen := chooseAB_eq (c := selecting (chan s k)) ⟨list, later, last, once⟩
    have isEarly : startsEarly (selecting (chan s k)) (shift t1 (-(d : Int))) a = true
        ↔ sdiff (shift t1 (-(d : Int))) (stampOf (chan s k) a) < 0 := decide_eq_true_iff
    generalize startsEarly (selecting (chan s k)) (shift t1 (-(d : Int))) a = early at chosen isEarly
    refine ⟨selected ⟨s.now + BitVec.ofNat 48 dt, g⟩ d (selecting (chan s k)) t1 a (if early then none else after.head?) early,
      (acts (formRecord_eq _ chosen fun h => if_pos h)).trans ?_, rfl, rfl, rfl, rfl, rfl, rfl, rfl, rfl, rfl, rfl,
      isEarly, rfl, fun b hb => ?_, congrArg (Option.map _), renderBuffer_unscanned _, renderBuffer_lastGood⟩
    · rw [selectionTally_eq]
      rfl
    · refine (congrArg (Option.map _) hb).trans (congrArg some (if_congr ?_ rfl rfl))
      exact decide_eq_true_iff

end Sys2Proof.Machine
end

section
/-! How a waiting render begins, and its conceal point (08/R133 to R135). -/

namespace Sys2Proof.Machine

/-! ## A record that begins (08/R133, R140) -/

/-- The channel with a record and counters put into it. -/
def recorded (x : RenderRecord) (t : Bank 42 Count) (c : Channel) : Channel :=
  { c with ren := { c.ren with record := some x }, tally := t }

/-- A record as it begins in a mode and with a weight (08/R140). -/
def begun (m : RenderMode) (w : Nat) (x : RenderRecord) : RenderRecord :=
  { x with state := .rendering, mode := some m, weight := some w }

theorem startRender_eq {x : RenderRecord} {m : RenderMode} {c : Channel} {w : Nat} {moved : Bool}
    (final : finalWeight c x m = (w, moved)) : startRender x m c
      = recorded (begun m w x) (if moved then addCount c.tally (chanCtrIx .cutSnaps) 1 else c.tally) c := by
  unfold startRender
  rw [final]
  cases moved <;> rfl

theorem startRender_aOnly (x : RenderRecord) (c : Channel) : startRender x .aOnly c = recorded (begun .aOnly 0 x) c.tally c :=
  startRender_eq rfl

section weighed
variable {x : RenderRecord} {w : Nat} (prelim : x.prelim = some w)
include prelim

theorem startRender_plain (c : Channel) : startRender x .plain c = recorded (begun .plain w x) c.tally c :=
  startRender_eq (moved := false) (Prod.ext (congrArg (·.getD 0) prelim) rfl)

/-- The weight of a vectored render and the count of the CUT rule (08/R133). -/
theorem startRender_vectored {b : SlotNo} (second : x.b = some b) {c : Channel} {t : VectorTable}
    (table : (slotOf c b).table = some t) : startRender x .vectored c
      = recorded (begun .vectored (if t.cut then (if w < 32 then 0 else 64) else w) x)
        (if t.cut = true ∧ (if w < 32 then 0 else 64) ≠ w then addCount c.tally (chanCtrIx .cutSnaps) 1 else c.tally) c := by
  have final : finalWeight c x .vectored
      = (if t.cut then (if w < 32 then 0 else 64) else w, t.cut && decide ((if w < 32 then 0 else 64) ≠ w)) := by
    simp only [finalWeight, prelim, second, Option.bind_some, table, Option.any_some, Option.getD_some]
    cases t.cut <;> rfl
  rw [startRender_eq final]
  exact congrArg (recorded _ · c) (if_congr (by simp) rfl rfl)

end weighed

/-! ## Readiness (08/R134, R135) -/

theorem beginRender_blocked {c : Channel} {x : RenderRecord} (blocked : (slotOf c x.a).state ≠ .complete) :
    beginRender (withRecord (some x) c) = recorded x c.tally c :=
  if_neg fun h => blocked (of_decide_eq_true h.2)

section begins
variable {c : Channel} {x : RenderRecord} (waiting : x.state = .waiting) (complete : (slotOf c x.a).state = .complete)
include waiting complete

theorem beginRender_complete : beginRender (withRecord (some x) c) = match readyMode c x with
    | some m => startRender x m (if m = .plain then count (withRecord (some x) c) .unvectored else withRecord (some x) c)
    | none =>
      if x.concealed then
        match concealMode c x with
        | .plain => startRender x .plain (count (withRecord (some x) c) .unvectored)
        | m => startRender x m (count (withRecord (some x) c) .late)
      else withRecord (some x) c :=
  if_pos ⟨waiting, decide_eq_true complete⟩

theorem beginRender_aOnly (ready : readyMode c x = some .aOnly) :
    beginRender (withRecord (some x) c) = recorded (begun .aOnly 0 x) c.tally c := by
  rw [beginRender_complete waiting complete, ready]
  exact startRender_aOnly ..

/-- A record that waits for B: at its conceal point taken it begins without B's vectors, and LATE without B (08/R135). -/
theorem beginRender_late (waits : readyMode c x = none) (without : concealMode c x = .aOnly) :
    beginRender (withRecord (some x) c) = if x.concealed
      then recorded (begun .aOnly 0 x) (addCount c.tally (chanCtrIx .late) 1) c else recorded x c.tally c := by
  rw [beginRender_complete waiting complete, waits, without]
  rfl

section weighed
variable {w : Nat} (prelim : x.prelim = some w)
include prelim

theorem beginRender_unvectored (waits : readyMode c x = none) (second : concealMode c x = .plain) :
    beginRender (withRecord (some x) c) = if x.concealed
      then recorded (begun .plain w x) (addCount c.tally (chanCtrIx .unvectored) 1) c else recorded x c.tally c := by
  rw [beginRender_complete waiting complete, waits, second]
  exact if_congr Iff.rfl (startRender_plain prelim _) rfl

theorem beginRender_plain (ready : readyMode c x = some .plain) : beginRender (withRecord (some x) c)
    = recorded (begun .plain w x) (addCount c.tally (chanCtrIx .unvectored) 1) c := by
  rw [beginRender_complete waiting complete, ready]
  exact startRender_plain prelim _

theorem beginRender_vectored (ready : readyMode c x = some .vectored) {b : SlotNo} (second : x.b = some b) {t : VectorTable}
    (table : (slotOf c b).table = some t) : beginRender (withRecord (some x) c)
      = recorded (begun .vectored (if t.cut then (if w < 32 then 0 else 64) else w) x)
        (if t.cut = true ∧ (if w < 32 then 0 else 64) ≠ w then addCount c.tally (chanCtrIx .cutSnaps) 1 else c.tally) c := by
  rw [beginRender_complete waiting complete, ready]
  exact startRender_vectored prelim second (c := withRecord (some x) c) table

end weighed
end begins

/-- The mode in which a record begins from a COMPLETE B, once B's vectors are settled (08/R134). -/
def settledMode : VectorState → Option RenderMode
  | .ready => some .vectored
  | .absent => some .plain
  | .pending => none

section readiness
variable {c : Channel} {x : RenderRecord}

theorem readyMode_aOnly (alone : isAOnly x = true) : readyMode c x = some .aOnly := if_pos alone

theorem awaitingB_true (early : x.early = false) (without : x.b = none) : awaitingB x = true := by
  simp [awaitingB, early, without]

theorem readyMode_awaiting (early : x.early = false) (without : x.b = none) (unweighed : x.prelim = none) :
    readyMode c x = none := by
  simp [readyMode, isAOnly, early, without, unweighed]

variable (early : x.early = false) {b : SlotNo} (second : x.b = some b) {w : Nat} (prelim : x.prelim = some w) (weight : 0 < w)
include early second prelim weight

theorem needsB_true : needsB x = true := by simp [needsB, early, second, prelim, weight]

theorem readyMode_needing : readyMode c x = (if isComplete c b then settledMode (vectorState c b) else none) := by
  have alone : isAOnly x = false := by simp [isAOnly, early, prelim, weight.ne']
  have needs := needsB_true early second prelim weight
  unfold readyMode
  rw [alone, second]
  simp only [needs, true_and, Bool.false_eq_true, if_false]
  split
  · cases vectorState c b <;> rfl
  · rfl

end readiness

theorem concealMode_some {c : Channel} {x : RenderRecord} {b : SlotNo} (second : x.b = some b) :
    concealMode c x = if (slotOf c b).state = .complete then .plain else .aOnly := by
  simp [concealMode, second, isComplete]

theorem concealMode_none {c : Channel} {x : RenderRecord} (without : x.b = none) : concealMode c x = .aOnly := by
  simp [concealMode, without]

/-! ## The conceal point (08/R135) -/

section conceal
variable {env : Env} {c : Channel} {r : RenderRecord} (record : c.ren.record = some r)
include record

theorem withRecord_self : withRecord (some r) c = c := by
  unfold withRecord
  rw [← record]

theorem recorded_self : recorded r c.tally c = c := withRecord_self record

theorem takeConcealPoint_idle (idle : needsB r = false ∧ awaitingB r = false ∨ sdiff env.now r.conceal < 0) :
    takeConcealPoint env c = c := by
  unfold takeConcealPoint
  rw [record]
  refine if_neg fun ⟨_, waits, due⟩ => ?_
  rcases idle with ⟨needs, awaits⟩ | before
  · simp [needs, awaits] at waits
  · have := reached_iff.mp due
    omega

theorem takeConcealPoint_due (waiting : r.state = .waiting) (waits : needsB r = true ∨ awaitingB r = true)
    (due : 0 ≤ sdiff env.now r.conceal) :
    takeConcealPoint env c = beginRender (withRecord (some { r with concealed := true }) c) := by
  unfold takeConcealPoint
  rw [record]
  exact if_pos ⟨waiting, waits, reached_iff.mpr due⟩

end conceal

/-! ## The two commands -/

/-- A command that leaves one channel as given ends as every command does. -/
def endsWith (dt : Nat) (s : State) (k : Chan) (c : Channel) : Result :=
  .next (conclude { advance dt s with chans := s.chans.set k c })

theorem endsWith_self (dt : Nat) (s : State) (k : Chan) : endsWith dt s k (chan s k) = .next (conclude (advance dt s)) := by
  rw [endsWith, chan, Bank.set_get_self]
  rfl

theorem exec_renderBegin {s : State} {k : Chan} {r : RenderRecord} (record : (chan s k).ren.record = some r) (dt : Nat) :
    exec (.renderBegin dt k) s = endsWith dt s k (beginRender (withRecord (some r) (chan s k))) := by
  rw [withRecord_self record]
  rfl

theorem exec_concealPoint {s : State} {k : Chan} {g : ChanConfig} (config : chanConfig s k = some g) (dt : Nat) :
    exec (.concealPoint dt k) s
      = endsWith dt s k (takeConcealPoint ⟨s.now + BitVec.ofNat 48 dt, g⟩ (chan s k)) :=
  congrArg (fun t => Host.Outcome.next (conclude t)) (onConfigured_set (s := advance dt s) config rfl)

/-- RENDER_BEGIN on the record held, and CONCEAL_POINT on the same one concealed (08/R134, R135). -/
theorem exec_begins {dt : Nat} {s : State} {k : Chan} {g : ChanConfig} {cmd : Instr} {r x : RenderRecord}
    (config : chanConfig s k = some g) (record : (chan s k).ren.record = some r) (waiting : r.state = .waiting)
    (waits : needsB r = true ∨ awaitingB r = true)
    (step : cmd = .renderBegin dt k ∧ x = r ∨ cmd = .concealPoint dt k
      ∧ 0 ≤ sdiff (s.now + BitVec.ofNat 48 dt) r.conceal ∧ x = { r with concealed := true }) :
    exec cmd s = endsWith dt s k (beginRender (withRecord (some x) (chan s k))) := by
  rcases step with ⟨rfl, rfl⟩ | ⟨rfl, due, rfl⟩
  · exact exec_renderBegin record dt
  · rw [exec_concealPoint config, takeConcealPoint_due (env := ⟨s.now + BitVec.ofNat 48 dt, g⟩) record waiting waits due]

/-! ## The statement -/

/-- Settles O47: both commands let one record begin, RENDER_BEGIN the one held and CONCEAL_POINT the same one concealed;
its readiness decides the rest. -/
theorem renderBegins : Obligations.RenderBegins := by
  unfold Obligations.RenderBegins
  intro dt s k g c r now out hc config record waiting hnow hout
  subst hc hnow
  have hout (x : RenderRecord) (t : Bank 42 Count) : out x t = endsWith dt s k (recorded x t (chan s k)) := hout x t
  have idle (h : needsB r = false ∧ awaitingB r = false ∨ sdiff (s.now + BitVec.ofNat 48 dt) r.conceal < 0) :
      exec (.concealPoint dt k) s = .next (conclude (advance dt s)) := by
    rw [exec_concealPoint config, takeConcealPoint_idle (env := ⟨s.now + BitVec.ofNat 48 dt, g⟩) record h, endsWith_self]
  refine ⟨fun before => idle (.inr before), fun alone => ⟨idle (.inl ?_), ?_⟩, fun cmd x early step => ?_⟩
  · rcases alone with early | ⟨prelim, second⟩
    · simp [needsB, awaitingB, early]
    · exact ⟨by simp [needsB, prelim], by simp [awaitingB, Option.isNone_eq_false_iff.mpr second]⟩
  · have only : isAOnly r = true := by rcases alone with early | ⟨prelim, -⟩ <;> simp [isAOnly, *]
    rw [exec_renderBegin record, hout]
    split
    · next complete =>
      rw [beginRender_aOnly waiting complete (readyMode_aOnly only)]
      rfl
    · next blocked =>
      rw [beginRender_blocked blocked, recorded_self record, endsWith_self]
  · have begins (waits : needsB r = true ∨ awaitingB r = true) := exec_begins config record waiting waits step
    have shared : x.state = .waiting ∧ x.a = r.a ∧ x.b = r.b ∧ x.prelim = r.prelim ∧ x.early = false := by
      rcases step with ⟨-, rfl⟩ | ⟨-, -, rfl⟩ <;> exact ⟨waiting, rfl, rfl, rfl, early⟩
    obtain ⟨xWaiting, hA, hB, prelim, xEarly⟩ := shared
    simp only [hout]
    rw [← hA]
    refine ⟨fun waits blocked => ?_, fun without unweighed complete => ?_, fun b w second weighed weight complete => ?_⟩
    · rw [begins ?_, beginRender_blocked blocked]
      rcases waits with ⟨without, -⟩ | ⟨b, w, second, weighed, weight⟩
      · exact .inr (awaitingB_true early without)
      · exact .inl (needsB_true early second weighed weight)
    · have awaits := readyMode_awaiting (c := chan s k) xEarly (hB.trans without) (prelim.trans unweighed)
      rw [begins (.inr (awaitingB_true early without)),
        beginRender_late xWaiting complete awaits (concealMode_none (hB.trans without)), apply_ite (endsWith dt s k)]
      rfl
    · have ready := readyMode_needing (c := chan s k) xEarly (hB.trans second) (prelim.trans weighed) weight
      have conceal := concealMode_some (c := chan s k) (hB.trans second)
      rw [begins (.inl (needsB_true early second weighed weight))]
      refine ⟨fun absent => ?_, fun present => ⟨fun t state table => ?_, fun state => ?_, fun state => ?_⟩⟩
      · rw [beginRender_late xWaiting complete (ready.trans (if_neg (by simpa [isComplete] using absent)))
          (conceal.trans (if_neg absent)), apply_ite (endsWith dt s k)]
        rfl
      all_goals rw [isComplete, decide_eq_true present, if_pos rfl, state] at ready
      · rw [beginRender_vectored xWaiting complete (prelim.trans weighed) ready (hB.trans second) table]
        rfl
      · rw [beginRender_plain xWaiting complete (prelim.trans weighed) ready]
        rfl
      · rw [beginRender_unvectored xWaiting complete (prelim.trans weighed) ready (conceal.trans (if_pos present)),
          apply_ite (endsWith dt s k)]
        rfl

end Sys2Proof.Machine
end

section
/-! A render that completes (08/R140, 10/R165). -/

namespace Sys2Proof.Machine

/-- The channel whose render is DONE, its picture in its buffer, before its marks are applied (08/R140). -/
def rendered (r : RenderRecord) (picture : Planes) (c : Channel) : Channel :=
  { c with
    ren := { c.ren with record := some { r with state := .done } }
    port := { c.port with buffers := c.port.buffers.modify r.buffer fun x => { x with planes := picture } } }

theorem renderedPicture_some (target : StdCode) {c : Channel} (r : RenderRecord) {crop pl : Rect} {v h : Nat}
    (cropped : c.int.crop = some crop) (placed : c.siz.placement = some pl) (vertical : c.siz.vStep = some v)
    (horizontal : c.siz.hStep = some h) : renderedPicture target c r
      = some (rasterPicture c.siz target (nextParity target c.port) pl v h (sourcesOf c crop r)) := by
  simp only [renderedPicture, cropped, placed, vertical, horizontal]

theorem completeRender_rendering {target : StdCode} {c : Channel} {r : RenderRecord} (record : c.ren.record = some r)
    (busy : r.state = .rendering) {picture : Planes} (picks : renderedPicture target c r = some picture) :
    completeRender target c = count (sweep (rendered r picture c)) .renders := by
  unfold completeRender
  rw [record]
  dsimp only
  rw [if_pos busy, picks]
  rfl

/-- A DONE record marks no slot (05/R86, 08/R140). -/
theorem renderMark_done {c : Channel} {r : RenderRecord} (record : c.ren.record = some r) (done : r.state = .done)
    (i : SlotNo) : renderMark c i = false := by
  simp [renderMark, record, done]

/-- Settles O48: the render's picture is that of the steps and sources held, and its record, now DONE, marks nothing. -/
theorem renderCompletes : Obligations.RenderCompletes := by
  unfold Obligations.RenderCompletes
  intro dt s k g c r crop pl v h q hc config record busy cropped placed vertical horizontal hq
  subst hc
  have parity : nextParity g.target (chan s k).port = q := hq.symm
  have picture := renderedPicture_some g.target r cropped placed vertical horizontal
  rw [parity] at picture
  have completes := onConfigured_set (f := fun env => completeRender env.cfg.target) (s := advance dt s) config
    (completeRender_rendering record busy picture)
  exact ⟨_, congrArg (fun t => Host.Outcome.next (conclude t)) completes, rfl, renderMark_done rfl rfl r.a,
    fun b _ => renderMark_done rfl rfl b⟩

end Sys2Proof.Machine
end

section
/-! Blending, filtering and the colour stage (08/R139, 09/R147, R150, R152, R153). -/

namespace Sys2Proof.Machine

/-! ## The blend (08/R139) -/

theorem blend_between {w : Nat} (weight : w ≤ 64) {a b lo hi : Int} (loA : lo ≤ a) (hiA : a ≤ hi) (loB : lo ≤ b)
    (hiB : b ≤ hi) : lo ≤ blend w a b ∧ blend w a b ≤ hi := by
  have side : (0 : Int) ≤ 64 - w := by omega
  have lowA := Int.mul_le_mul_of_nonneg_left loA side
  have highA := Int.mul_le_mul_of_nonneg_left hiA side
  have lowB := Int.mul_le_mul_of_nonneg_left loB (Int.natCast_nonneg w)
  have highB := Int.mul_le_mul_of_nonneg_left hiB (Int.natCast_nonneg w)
  simp only [blend, Int.sub_mul] at *
  omega

/-! ## Filter tables and passes (09/R147, R150) -/

theorem phase_sum (p : Bank 4 Int) : p.items.sum = p.get 0 + p.get 1 + p.get 2 + p.get 3 := by
  obtain ⟨items, size⟩ := p
  match items, size with
  | [a, b, c, d], _ => simp [Bank.get, add_assoc]

theorem tableAccepted_iff {t : FilterTable} :
    tableAccepted t = true ↔ ∀ i, (t.get i).get 0 + (t.get i).get 1 + (t.get i).get 2 + (t.get i).get 3 = 256 := by
  simp only [tableAccepted, List.all_eq_true, Bank.mem_items_iff, forall_exists_index, forall_apply_eq_imp_iff,
    decide_eq_true_eq, phase_sum]

theorem filterAt_bounds (t : FilterTable) (pos n : Nat) (f : Nat → Int) : 0 ≤ filterAt t pos n f ∧ filterAt t pos n f ≤ 1023 :=
  clampInt_mem (by decide) _

theorem filterAt_flat {t : FilterTable} (accepted : tableAccepted t = true) {v : Int} (low : 0 ≤ v) (high : v ≤ 1023)
    (pos n : Nat) : filterAt t pos n (fun _ => v) = v := by
  have phase := tableAccepted_iff.mp accepted (tapPhase pos)
  have exact : (256 * v + 128) / 256 = v := by omega
  unfold filterAt
  dsimp only
  rw [← Int.add_mul, ← Int.add_mul, ← Int.add_mul, phase, exact, clampInt_of_mem low high]

/-! ## The colour stage (09/R152, R153) -/

theorem get_of_items {n : Nat} {b : Bank n Int} {xs : List Int} (items : b.items = xs) (i : Fin n) :
    b.get i = xs[i.val]'(by rw [← items, b.size]; exact i.isLt) := by
  subst items
  rfl

theorem colour_identity {z : Sizer} (matrix : z.matrix = identityMatrix) (offsets : z.offsets = Bank.fill 3 0) (y cb cr : Int) :
    colourY z y cb cr = y ∧ colourCb z y cb cr = cb ∧ colourCr z y cb cr = cr := by
  unfold colourY colourCb colourCr matrixRow
  rw [matrix, offsets]
  refine ⟨?_, ?_, ?_⟩
  · show (1024 * (y - 64) + 0 * (cb - 512) + 0 * (cr - 512) + 512) / 1024 + 64 + 0 = y
    omega
  · show (0 * (y - 64) + 1024 * (cb - 512) + 0 * (cr - 512) + 512) / 1024 + 512 + 0 = cb
    omega
  · show (0 * (y - 64) + 0 * (cb - 512) + 1024 * (cr - 512) + 512) / 1024 + 512 + 0 = cr
    omega

/-- Settles O49: a weighted mean lies between its parts, and flat taps under coefficients that sum to 256 give the flat
value; the colour formulas are the rows of the matrix. -/
theorem sampleArithmetic : Obligations.SampleArithmetic := by
  unfold Obligations.SampleArithmetic
  refine ⟨⟨fun w a b lo hi weight loA hiA loB hiB => blend_between weight loA hiA loB hiB,
    fun t pos n v accepted low high _ => filterAt_flat accepted low high pos n, filterAt_bounds, fun t ⟨p, wrong⟩ => ?_⟩, ?_⟩
  · exact if_neg fun accepted => wrong (tableAccepted_iff.mp accepted p)
  · intro z m00 m01 m02 m10 m11 m12 m20 m21 m22 o0 o1 o2 y cb cr matrix offsets
    have entry := get_of_items matrix
    have offset := get_of_items offsets
    refine ⟨?_, ?_, ?_, fun identity zero => colour_identity identity zero y cb cr⟩
    · rw [colourY, matrixRow, entry, entry, entry, offset]
      rfl
    · rw [colourCb, matrixRow, entry, entry, entry, offset]
      rfl
    · rw [colourCr, matrixRow, entry, entry, entry, offset]
      rfl

end Sys2Proof.Machine
end

section
/-! A channel that holds no render record: its port and the counters of its scan stand through closes, switches, standards
and the entries that a re-judgement brings (10/R158, R165, R169). -/

namespace Sys2Proof.Machine

/-- The counters of scan starts, which nothing else counts while no render record is held. -/
def scanCounters : List ChanCtr := [.repeats, .overrun, .convertStarts]

/-- What a scan start leaves to be seen of a channel: its port and the counters of scan starts. -/
structure Shown where
  port : Port
  repeats : Count
  overruns : Count
  starts : Count

def shownOf (c : Channel) : Shown :=
  ⟨c.port, c.tally.get (chanCtrIx .repeats), c.tally.get (chanCtrIx .overrun), c.tally.get (chanCtrIx .convertStarts)⟩

/-- No render record is held, and so much is seen of the channel. -/
structure Shows (v : Shown) (c : Channel) : Prop where
  free : c.ren.record = none
  seen : shownOf c = v

section shows
variable {v : Shown} {c : Channel} (h : Shows v c)
include h

theorem Shows.congr {d : Channel} (record : d.ren.record = c.ren.record) (port : d.port = c.port)
    (tally : ∀ x ∈ scanCounters, d.tally.get (chanCtrIx x) = c.tally.get (chanCtrIx x)) : Shows v d := by
  refine ⟨record.trans h.free, Eq.trans ?_ h.seen⟩
  rw [shownOf, port, tally .repeats (by decide), tally .overrun (by decide), tally .convertStarts (by decide)]
  rfl

theorem Shows.same {d : Channel} (record : d.ren.record = c.ren.record) (port : d.port = c.port) (tally : d.tally = c.tally) :
    Shows v d := h.congr record port fun _ _ => by rw [tally]

theorem Shows.countMany {x : ChanCtr} (other : x ∉ scanCounters) (n : Nat) : Shows v (countMany c x n) :=
  h.congr rfl rfl fun y hy => by rw [countMany_get, if_neg fun e : y = x => other (e ▸ hy)]

theorem Shows.count {x : ChanCtr} (other : x ∉ scanCounters) : Shows v (count c x) := h.countMany other 1

theorem Shows.countFlag {x : ChanCtr} (other : x ∉ scanCounters) (f : ChanFlag) : Shows v (countFlag c x f) :=
  (h.count other).same rfl rfl rfl

theorem Shows.ite {d : Channel} {p : Prop} [Decidable p] (hd : Shows v d) : Shows v (if p then c else d) := by
  split
  · exact h
  · exact hd

/-! ## The ring and the estimator -/

theorem Shows.ringWork {d : Channel} (work : RingWork c d) (record : d.ren.record = c.ren.record) : Shows v d :=
  h.congr record (by rw [work.frame]) fun x hx =>
    work.tally x (fun e => by subst e; revert hx; decide) fun e => by subst e; revert hx; decide

theorem Shows.sweep : Shows v (sweep c) := h.ringWork (sweep_ringWork c) (by rw [sweep_ren])

theorem Shows.pairUp (before : List SlotNo) (b : SlotNo) : Shows v (pairUp before b c) :=
  h.ringWork (pairUp_ringWork before b c) (by rw [pairUp_frame])

theorem Shows.noteCommit (i : SlotNo) : Shows v (noteCommit i c) := by
  have same : Machine.noteCommit i c = c := by
    unfold Machine.noteCommit
    rw [h.free]
  rw [same]
  exact h

theorem Shows.cadenceToVideo : Shows v (cadenceToVideo c) := by
  have reset : Shows v { c with cad := resetCadence c.cad } := h.same rfl rfl rfl
  exact reset.ite (reset.countFlag (by decide) _)

/-! ## Commits and closing (05/R76 to R81) -/

theorem Shows.onSlot (i : SlotNo) (f : Slot → Slot) : Shows v (onSlot i f c) := h.same rfl rfl rfl

theorem Shows.cad (x : Cadence) : Shows v { c with cad := x } := h.same rfl rfl rfl

theorem Shows.int (x : Intake) : Shows v { c with int := x } := h.same rfl rfl rfl

theorem Shows.commit (env : Env) (i : SlotNo) (stamp : Time) (plan : Option Finish) : Shows v (commit env i stamp plan c) := by
  have taken : Shows v (committing env i stamp plan c) := (h.int _).count (by decide)
  rw [commit_eq]
  exact ((h.onSlot i _).count (by decide)).ite ((taken.pairUp _ _).noteCommit i)

theorem Shows.abandonPairing (env : Env) (i : SlotNo) : Shows v (abandonPairing env i c) := by
  unfold Machine.abandonPairing
  split
  · exact ((h.count (by decide)).commit ..).sweep
  · exact h

theorem Shows.closeEmpty (env : Env) (i : SlotNo) (k : RawPicture) : Shows v (closeEmpty env i k c) := by
  have counted : Shows v (Machine.count c .emptyPicture) := h.count (by decide)
  unfold Machine.closeEmpty
  refine Shows.cad ?_ _
  split
  · exact (counted.onSlot i _).abandonPairing env i
  · exact counted.onSlot i _

theorem Shows.actOn (env : Env) (i : SlotNo) (ruling : Ruling) : Shows v (actOn env i ruling c) := by
  cases ruling with
  | video stamp => exact h.commit ..
  | pairFirst => exact h.onSlot i _
  | pairSecond stamp => exact h.commit ..
  | repeated => exact (h.onSlot i _).count (by decide)

theorem Shows.judge (env : Env) (crop : Rect) (i : SlotNo) (k : RawPicture) : Shows v (judge env crop i k c) := by
  have measured : Shows v (measure env crop i k c).2.2 := (h.cad _).onSlot i _
  have locked (b : Bool) {d : Channel} (kept : Shows v d) :
      Shows v (if b = true then Machine.countFlag d .cadenceLocks .cadenceChange else d) :=
    (kept.countFlag (by decide) _).ite kept
  have broken (b : Bool) {d : Channel} (kept : Shows v d) : Shows v
      (if b = true then Machine.countFlag { d with cad := endLock d.cad } .cadenceBreaks .cadenceChange else d) :=
    ((kept.cad _).countFlag (by decide) _).ite kept
  exact (broken _ ((locked _ (measured.cad _)).actOn env i _)).cad _

theorem Shows.closeOpen (env : Env) : Shows v (closeOpen env c) := by
  unfold Machine.closeOpen
  split
  · dsimp only
    split
    · exact h.int _
    · refine Shows.ite ((h.int _).closeEmpty ..) ?_
      exact ((Shows.int (((h.int _).onSlot _ _).countMany (by decide) _) _).judge ..).int _ |>.sweep
  · exact h

theorem Shows.closeOld (env : Env) : Shows v (closeOld env c) := by
  unfold Machine.closeOld
  refine Shows.cadenceToVideo ?_
  split
  · exact (h.closeOpen env).abandonPairing ..
  · exact h.closeOpen env

/-! ## Standards and switches (04/R64, R65, 05/R71, R89) -/

theorem Shows.computeDelay (cfg : ChanConfig) : Shows v (computeDelay cfg c) := by
  have delayed : Shows v { c with ren := { c.ren with
      dEff := some (max cfg.delay (pOut cfg + 2 * pMax c.int.standard (huntedSet c.cad))) } } := h.same rfl rfl rfl
  have flagged (f : ChanFlag) {d : Channel} (kept : Shows v d) : Shows v (flag d f) := kept.same rfl rfl rfl
  exact (flagged _ delayed).ite delayed

theorem Shows.adopt (env : Env) (code : StdCode) : Shows v (adopt env code c) := by
  have clamped : Shows v (adopted env code c) := by
    unfold adopted
    dsimp only
    split
    · exact h.same rfl rfl rfl
    · exact h.same rfl rfl rfl
  rw [adopt_eq, computeSteps_eq]
  exact (clamped.computeDelay env.cfg).same rfl rfl rfl

theorem Shows.abandonRender : abandonRender c = c := by
  unfold Machine.abandonRender
  rw [h.free]

theorem Shows.flush (now : Time) : Shows v (flush now c) := by
  have jobs : Shows v (abandonJobs c) := by
    have idle (m : Motion) : Shows v { c with meu := m } := h.same rfl rfl rfl
    exact Shows.ite ((idle _).count (by decide)) (idle _)
  rw [flush_eq, emptiedRing, h.abandonRender]
  exact (jobs.int _).cadenceToVideo.count (by decide)

theorem Shows.meetStandard (env : Env) (code : StdCode) : Shows v (meetStandard env code c) :=
  (h.adopt env code).ite (h.ite (((h.flush env.now).adopt env code).countFlag (by decide) _))

theorem Shows.switchChannel (env : Env) (q : Option Copy) (offer : Option Candidate) : Shows v (switchChannel env q offer c) := by
  have aims : Shows v (aimed env q c) := h.same rfl rfl rfl
  have standard : Shows v (met env offer (Machine.closeOld env (aimed env q c))) := by
    cases offer with
    | none => exact aims.closeOld env
    | some d => exact (aims.closeOld env).meetStandard env d.standard
  have admitted : Shows v (admits q offer (met env offer (Machine.closeOld env (aimed env q c)))) := standard.same rfl rfl rfl
  rw [switchChannel_eq, noteNone_frame]
  exact (admitted.countFlag (by decide) .copySwitch).same rfl rfl rfl

/-! ## Entries that a re-judgement brings (10/R168, R172, R173) -/

theorem Shows.sup (x : Supervisor) : Shows v { c with sup := x } := h.same rfl rfl rfl

theorem Shows.supInt (x : Supervisor) (i : Intake) : Shows v { c with sup := x, int := i } := h.same rfl rfl rfl

theorem Shows.leaveConverting : Shows v (leaveConverting c) := by
  rw [Machine.leaveConverting, h.abandonRender]
  exact h.sweep.ite h

theorem Shows.startAcquiring (env : Env) : Shows v (startAcquiring env c) :=
  Shows.computeDelay (h.leaveConverting.supInt _ _) env.cfg

theorem Shows.startLatched (env : Env) : Shows v (startLatched env c) := (h.leaveConverting.sup _).flush env.now

theorem Shows.countRelock : Shows v (countRelock c) := (h.sup _).count (by decide)

end shows

/-! ## Re-judgement and settling (04/R53) -/

section station
variable {v : Shown} {k : Chan} {s : State} (h : Shows v (chan s k))
include h

theorem Shows.onChan {f : Channel → Channel} (kept : ∀ c, Shows v c → Shows v (f c)) : Shows v (chan (onChan k f s) k) := by
  rw [chan_onChan]
  exact kept _ h

theorem Shows.onConfigured {f : Env → Channel → Channel} (kept : ∀ env c, Shows v c → Shows v (f env c)) :
    Shows v (chan (onConfigured k f s) k) := by
  unfold Machine.onConfigured
  split
  · exact h.onChan (kept _)
  · exact h

theorem Shows.switchTo (q : Option Copy) : Shows v (chan (switchTo k q s) k) :=
  Shows.onConfigured (s := { s with tx := holdCalls k (releaseCall s k ++ requestCall s k q) s.tx }) h
    fun env _ kept => kept.switchChannel env q _

theorem Shows.enterLatched : Shows v (chan (enterLatched k s) k) := by
  have latched : Shows v (chan (Machine.onConfigured k Machine.startLatched s) k) :=
    h.onConfigured fun env _ kept => kept.startLatched env
  unfold Machine.enterLatched
  refine Shows.onChan ?_ fun _ kept => kept.countFlag (by decide) _
  split
  · exact latched.switchTo none
  · exact latched

theorem Shows.updateRevert : Shows v (chan (updateRevert k s) k) := h.onChan fun _ kept => kept.same rfl rfl rfl

end station

theorem Shows.rejudge {v : Shown} (n : Nat) {k : Chan} {s : State} (h : Shows v (chan s k)) : Shows v (chan (rejudge n k s) k) := by
  induction n generalizing s with
  | zero => exact h
  | succ n ih =>
    have switched := h.switchTo (choice s k)
    have counted := switched.onChan fun _ => Shows.countRelock
    rw [rejudge_succ]
    split
    · exact h
    split
    · exact h.updateRevert
    split
    · unfold relockReport
      dsimp only
      split
      · exact counted.enterLatched
      · exact ih (counted.onConfigured fun env _ kept => kept.startAcquiring env)
    · exact switched

theorem Shows.settle {v : Shown} {k : Chan} {s : State} (h : Shows v (chan s k)) : Shows v (chan (settle s) k) :=
  settleFor_carries (R := fun s t => Shows v (chan s k) → Shows v (chan t k)) (fun _ => id) (fun f g => g ∘ f)
    (fun step => by rw [chan, chan, step.chans]; exact id)
    (fun s kept => by rw [chan_rejudgeBoth]; exact kept.rejudge rejudgeDepth) 8 s h

theorem Shows.conclude {v : Shown} {k : Chan} {s : State} (h : Shows v (chan s k)) : Shows v (chan (conclude s) k) := by
  have settled := h.settle
  rw [chan] at settled
  rw [chan, conclude_chans]
  exact settled

end Sys2Proof.Machine
end

section
/-! A channel that keeps an eligible lane copy through the settling of statuses, and what a channel's own publications leave
of it (03/R50, 04/R53, R55, R57). -/

namespace Sys2Proof.Machine

/-! ## Lane copies (04/R54, R55) -/

/-- A lane copy is eligible by the configuration, the peer entries and the pass-over list alone. -/
theorem isEligible_lane {s t : State} {k : Chan} {q : Copy} {l : LaneNo} (origin : q.origin = .lane l)
    (passOver : (chan t k).csl.passOver = (chan s k).csl.passOver) (config : t.config = s.config) (lanes : t.lanes = s.lanes)
    (h : isEligible s k q = true) : isEligible t k q = true := by
  obtain ⟨d, offered⟩ := Option.isSome_iff_exists.mp h
  obtain ⟨mem, copy⟩ := offering_eq_some.mp offered
  obtain ⟨candidate, fits⟩ := mem_eligibles.mp mem
  obtain ⟨via, -⟩ := copyOf_eq_some.mp copy
  have same (l : LaneNo) (p : PubIx) : laneCandidate t l p = laneCandidate s l p := by rw [laneCandidate, lane, lanes]; rfl
  have listed : d ∈ candidates t k := by
    rcases mem_candidates.mp candidate with (rfl | rfl) | ⟨m, p, rfl⟩
    · cases origin.symm.trans via.symm
    · cases origin.symm.trans via.symm
    · exact mem_candidates.mpr (.inr ⟨m, p, (same m p).symm⟩)
  have passed : passedOver (chan t k) d = passedOver (chan s k) d := by
    unfold passedOver
    rw [passOver]
  have fits' : eligible t k d = true := by
    unfold eligible chanConfig laneLive lane at *
    rw [passed, config, lanes]
    exact fits
  exact Option.isSome_iff_exists.mpr ⟨d, offering_eq_some.mpr ⟨mem_eligibles.mpr ⟨listed, fits'⟩, copy⟩⟩

/-! ## Through the settling of statuses (04/R53) -/

/-- Nothing of a channel has changed but its revert candidate. -/
def ButRevert (c d : Channel) : Prop := ∃ x, d = { c with csl := { c.csl with revert := x } }

theorem ButRevert.refl (c : Channel) : ButRevert c c := ⟨c.csl.revert, rfl⟩

theorem ButRevert.of_eq {c d : Channel} (h : d = c) : ButRevert c d := h ▸ .refl c

theorem ButRevert.trans {c d e : Channel} (h : ButRevert c d) (g : ButRevert d e) : ButRevert c e := by
  obtain ⟨x, rfl⟩ := h
  obtain ⟨y, rfl⟩ := g
  exact ⟨y, rfl⟩

/-- A channel's selection is an eligible lane copy, and no copy is forced. -/
structure LaneHeld (k : Chan) (q : Copy) (l : LaneNo) (s : State) : Prop where
  selection : selectionOf s k = some q
  origin : q.origin = .lane l
  eligible : isEligible s k q = true
  unforced : (chan s k).csl.forced = none

section held
variable {k : Chan} {q : Copy} {l : LaneNo} {s : State} (h : LaneHeld k q l s)
include h

theorem LaneHeld.congr {t : State} (config : t.config = s.config) (lanes : t.lanes = s.lanes)
    (csl : ∃ x, (chan t k).csl = { (chan s k).csl with revert := x }) : LaneHeld k q l t := by
  obtain ⟨x, csl⟩ := csl
  refine ⟨?_, h.origin, isEligible_lane h.origin (by rw [csl]) config lanes h.eligible, ?_⟩
  · rw [selectionOf, csl]
    exact h.selection
  · rw [csl]
    exact h.unforced

theorem LaneHeld.within {t : State} (within : WithinLink s t) (kept : ButRevert (chan s k) (chan t k)) : LaneHeld k q l t := by
  refine h.congr within.config within.lanes ?_
  obtain ⟨x, kept⟩ := kept
  exact ⟨x, by rw [kept]⟩

theorem LaneHeld.choice : choice s k = selectionOf s k := by
  have selection : (chan s k).csl.selection = some q := h.selection
  rw [Machine.choice, h.unforced, autoChoice, selection, h.selection]
  exact if_pos h.eligible

theorem LaneHeld.rejudgeOne : ButRevert (chan s k) (chan (rejudgeOne k s) k) := by
  cases active : isSelecting s k with
  | false =>
    exact .of_eq (rejudgeOne_inactive k active)
  | true =>
    rw [Machine.rejudgeOne, rejudgeDepth, rejudge_agrees 2 active h.choice, updateRevert, chan_onChan]
    exact ⟨_, rfl⟩

theorem LaneHeld.rejudgeBoth : ButRevert (chan s k) (chan (rejudgeBoth s) k) := by
  rw [chan_rejudgeBoth]
  exact h.rejudgeOne

end held

theorem settleRound_within (s : State) : WithinLink s (settleRound s) :=
  ((noteStarts_within s).trans (arbitrate_within _)).trans (storeAdverts_within _)

section held
variable {k : Chan} {q : Copy} {l : LaneNo}

theorem LaneHeld.settleFor (n : Nat) {s : State} (h : LaneHeld k q l s) : ButRevert (chan s k) (chan (settleFor n s) k) := by
  induction n generalizing s with
  | zero => exact .refl _
  | succ n ih =>
    have round : chan (settleRound s) k = chan s k := congrArg (Bank.get · k) (settleRound_step s).chans
    rw [settleFor_succ]
    split
    · have heard : chan (hearAdverts (settleRound s)) k = chan s k :=
        (congrArg (Bank.get · k) (hearAdverts_chans _)).trans round
      have still : LaneHeld k q l (hearAdverts (settleRound s)) :=
        h.within ((settleRound_within s).trans (hearAdverts_within _)) (.of_eq heard)
      have judged := still.rejudgeBoth
      rw [← heard]
      exact judged.trans (ih (still.within (rejudgeBoth_within _).link judged))
    · exact .of_eq round

theorem LaneHeld.settle {s : State} (h : LaneHeld k q l s) : ButRevert (chan s k) (chan (settle s) k) := h.settleFor 8

theorem LaneHeld.conclude {s : State} (h : LaneHeld k q l s) : ButRevert (chan s k) (chan (conclude s) k) := by
  have settled := h.settle
  rw [chan] at settled
  rw [chan, chan, conclude_chans]
  exact settled

end held

/-! ## A channel's own publications (03/R50) -/

theorem pictureOnSlot_chans (i : PubSlotNo) (p : PubIx) (r : PictureRecord) (s : State) :
    (pictureOnSlot i p r s).chans = s.chans := by
  unfold pictureOnSlot
  dsimp only
  split
  · exact (vacate_step ..).chans
  · split <;> rfl

/-- No channel hears its own output. -/
theorem publishPicture_own (k : Chan) (r : PictureRecord) (s : State) :
    chan (publishPicture (outputOf k) r s) k = chan s k := by
  have listener : listeners (outputOf k) = [otherChan k] := by
    rcases (by decide +revert : k = 0 ∨ k = 1) with rfl | rfl <;> rfl
  unfold publishPicture
  rw [listener]
  refine ((pictureToChannel_local .internal r (otherChan k)).other (other_ne k).symm _).trans ?_
  split
  · exact congrArg (Bank.get · k) (pictureOnSlot_chans ..)
  · rfl

end Sys2Proof.Machine
end

section
/-! What a scan start makes of its channel up to the source: the record disposed of, the timebase, the reference of the
picture announced, and the source chosen (08/R141, 10/R158, R165 to R168, 05/R87). -/

namespace Sys2Proof.Machine

/-! ## The record disposed of (08/R141) -/

/-- What of a channel stands through the timebase and the announcement. -/
structure Standing where
  record : Option RenderRecord
  csl : Selector
  sup : Supervisor
  source : ScanSource
  lastGood : Option BufNo
  sequence : BitVec 8
  buffers : Bank 2 Buffer
  counts : List Count

def standing (c : Channel) : Standing :=
  ⟨c.ren.record, c.csl, c.sup, c.port.source, c.port.lastGood, c.port.sequence, c.port.buffers,
    scanCounters.map fun x => c.tally.get (chanCtrIx x)⟩

theorem withRecord_none {c : Channel} (record : c.ren.record = none) : withRecord none c = c := by
  unfold withRecord
  rw [← record]

theorem disposeRecord_done {c : Channel} (done : ∀ r ∈ c.ren.record, r.state = .done) :
    disposeRecord c = (c.ren.record.map (·.buffer), withRecord none c) := by
  unfold disposeRecord
  cases record : c.ren.record with
  | none => exact Prod.ext rfl (withRecord_none record).symm
  | some r => exact if_pos (done r record)

theorem disposeRecord_overrun {c : Channel} {r : RenderRecord} (record : c.ren.record = some r) (undone : r.state ≠ .done) :
    disposeRecord c = (none, sweep (count (emptyBuffer r.buffer (withRecord none c)) .overrun)) := by
  unfold disposeRecord
  rw [record]
  exact if_neg undone

theorem ringWork_standing {c d : Channel} (work : RingWork c d) (record : d.ren.record = c.ren.record) :
    standing d = standing c := by
  have counts : (scanCounters.map fun x => d.tally.get (chanCtrIx x)) = scanCounters.map fun x => c.tally.get (chanCtrIx x) :=
    List.map_congr_left fun x hx =>
      work.tally x (fun e => by subst e; revert hx; decide) fun e => by subst e; revert hx; decide
  unfold standing
  rw [counts, record, work.frame]

theorem standing_sweep (c : Channel) : standing (sweep c) = standing c :=
  ringWork_standing (sweep_ringWork c) (by rw [sweep_ren])

/-! ## The timebase and the announcement (10/R158, 05/R87) -/

/-- What of a port the timebase leaves alone. -/
structure SourceKept (p q : Port) : Prop where
  source : q.source = p.source
  lastGood : q.lastGood = p.lastGood
  sequence : q.sequence = p.sequence
  buffers : q.buffers = p.buffers

theorem correct_kept (std : StdCode) (p : Port) : SourceKept p (correct std p).1 := by
  unfold correct
  split
  · exact ⟨rfl, rfl, rfl, rfl⟩
  · split <;> exact ⟨rfl, rfl, rfl, rfl⟩

/-- The port whose picture is now in scan, before its correction (10/R158). -/
def scanningPort (std : StdCode) (t : Time) (p : Port) : Port :=
  { p with picture := if p.tOut.isNone then 0 else p.picture + 1, parity := startParity std p, tOut := some t }

/-- The port corrected at a frame start, with its next scan start (10/R158, R164). -/
def correctedPort (std : StdCode) (t : Time) (p : Port) : Port :=
  { (correct std p).1 with
    tNext := some (shift t (((standardOf std).rawPeriod : Int) + (correct std p).1.correction)), lastFrame := some t }

theorem timeScan_eq (std : StdCode) (t : Time) (c : Channel) : timeScan std t c
    = if isFrameStart std (startParity std c.port) then
        if (correct std (scanningPort std t c.port)).2 then
          count { c with port := correctedPort std t (scanningPort std t c.port) } .refJumps
        else { c with port := correctedPort std t (scanningPort std t c.port) }
      else { c with port :=
        { scanningPort std t c.port with tNext := some (shift t ((standardOf std).rawPeriod : Int)) } } := rfl

/-- The timebase writes the port, and may count a jump (10/R158, R164). -/
theorem timeScan_cases {P : Channel → Prop} (std : StdCode) (t : Time) (c : Channel)
    (port : ∀ p, SourceKept c.port p → P { c with port := p })
    (jump : ∀ p, SourceKept c.port p → P (count { c with port := p } .refJumps)) : P (timeScan std t c) := by
  have corrected : SourceKept c.port (correctedPort std t (scanningPort std t c.port)) := by
    have kept := correct_kept std (scanningPort std t c.port)
    exact ⟨kept.source, kept.lastGood, kept.sequence, kept.buffers⟩
  rw [timeScan_eq]
  split
  · split
    · exact jump _ corrected
    · exact port _ corrected
  · exact port _ ⟨rfl, rfl, rfl, rfl⟩

theorem standing_port {c : Channel} {p : Port} (kept : SourceKept c.port p) : standing { c with port := p } = standing c := by
  rw [standing, kept.source, kept.lastGood, kept.sequence, kept.buffers]
  rfl

theorem standing_count {x : ChanCtr} (other : x ∉ scanCounters) (c : Channel) : standing (count c x) = standing c := by
  have counts : (scanCounters.map fun y => (count c x).tally.get (chanCtrIx y))
      = scanCounters.map fun y => c.tally.get (chanCtrIx y) :=
    List.map_congr_left fun y hy => (countMany_get ..).trans (if_neg fun e : y = x => other (e ▸ hy))
  exact congrArg (Standing.mk c.ren.record c.csl c.sup c.port.source c.port.lastGood c.port.sequence c.port.buffers) counts

theorem timeScan_standing (std : StdCode) (t : Time) (c : Channel) : standing (timeScan std t c) = standing c :=
  timeScan_cases (P := fun d => standing d = standing c) std t c (fun _ kept => standing_port kept)
    fun _ kept => (standing_count (by decide) _).trans (standing_port kept)

theorem timeScan_frame (std : StdCode) (t : Time) (c : Channel) : timeScan std t c
    = { c with port := (timeScan std t c).port, tally := (timeScan std t c).tally } :=
  timeScan_cases (P := fun d => d = { c with port := d.port, tally := d.tally }) std t c (fun _ _ => rfl) fun _ _ => rfl

theorem ownReference_standing (c : Channel) : standing (ownReference c) = standing c := by
  unfold ownReference
  split
  · rfl
  split
  · split
    · exact standing_sweep _
    · rfl
  · rfl

theorem ownReference_port (c : Channel) : (ownReference c).port = c.port := by
  unfold ownReference
  split
  · rfl
  split
  · split
    · exact sweep_carries (·.port) (fun _ _ => rfl) _
    · rfl
  · rfl

/-- The channel that announces its next picture, its record disposed of (10/R158, 08/R141). -/
def announcing (std : StdCode) (t : Time) (c : Channel) : Channel :=
  timeScan std t { (disposeRecord c).2 with ren := { (disposeRecord c).2.ren with selected := false } }

/-- The channel of a scan start before its source is chosen (10/R158, 05/R87). -/
def starting (std : StdCode) (t : Time) (c : Channel) : Channel := ownReference (announcing std t c)

theorem starting_standing (std : StdCode) (t : Time) (c : Channel) :
    standing (starting std t c) = standing (disposeRecord c).2 :=
  (ownReference_standing _).trans (timeScan_standing ..)

/-- A record handed over, or none held: nothing else of the channel has moved. -/
theorem starting_done (std : StdCode) (t : Time) {c : Channel} (done : ∀ r ∈ c.ren.record, r.state = .done) :
    standing (starting std t c) = { standing c with record := none } := by
  rw [starting_standing, disposeRecord_done done]
  rfl

/-- An overrun empties the record's buffer, and is counted (08/R141). -/
theorem starting_overrun (std : StdCode) (t : Time) {c : Channel} {r : RenderRecord} (record : c.ren.record = some r)
    (undone : r.state ≠ .done) : standing (starting std t c) = { standing c with
      record := none
      buffers := c.port.buffers.set r.buffer .empty
      counts := [c.tally.get (chanCtrIx .repeats), c.tally.get (chanCtrIx .overrun) + 1,
        c.tally.get (chanCtrIx .convertStarts)] } := by
  rw [starting_standing, disposeRecord_overrun record undone, standing_sweep]
  refine congrArg (Standing.mk none c.csl c.sup c.port.source c.port.lastGood c.port.sequence
    (c.port.buffers.set r.buffer .empty)) ?_
  simp only [scanCounters, List.map_cons, List.map_nil, List.cons.injEq, and_true]
  exact ⟨(countMany_get ..).trans (if_neg (by decide)), (countMany_get ..).trans (if_pos rfl),
    (countMany_get ..).trans (if_neg (by decide))⟩

end Sys2Proof.Machine
end

section
/-! The source a scan start chooses (08/R141, 10/R165, R167). -/

namespace Sys2Proof.Machine

theorem shownOf_count {x : ChanCtr} (other : x ∉ scanCounters) (c : Channel) : shownOf (count c x) = shownOf c :=
  (Shows.count (v := shownOf (withRecord none c)) (c := withRecord none c) ⟨rfl, rfl⟩ other).seen

/-! ## The channel before its source -/

/-- A channel that starts a scan, against the channel before it. -/
structure Started (c d : Channel) : Prop where
  free : d.ren.record = none
  csl : d.csl = c.csl
  sup : d.sup = c.sup
  source : d.port.source = c.port.source
  lastGood : d.port.lastGood = c.port.lastGood
  sequence : d.port.sequence = c.port.sequence
  repeats : d.tally.get (chanCtrIx .repeats) = c.tally.get (chanCtrIx .repeats)
  starts : d.tally.get (chanCtrIx .convertStarts) = c.tally.get (chanCtrIx .convertStarts)

theorem standing_counts {d : Channel} {a b n : Count} (h : (standing d).counts = [a, b, n]) :
    d.tally.get (chanCtrIx .repeats) = a ∧ d.tally.get (chanCtrIx .overrun) = b
      ∧ d.tally.get (chanCtrIx .convertStarts) = n := by
  have counts : [d.tally.get (chanCtrIx .repeats), d.tally.get (chanCtrIx .overrun), d.tally.get (chanCtrIx .convertStarts)]
      = [a, b, n] := h
  simpa using counts

section starting
variable (std : StdCode) (t : Time) {c : Channel}

theorem starting_handed (done : ∀ r ∈ c.ren.record, r.state = .done) : Started c (starting std t c)
    ∧ (starting std t c).port.buffers = c.port.buffers
    ∧ (starting std t c).tally.get (chanCtrIx .overrun) = c.tally.get (chanCtrIx .overrun) := by
  have stands := starting_done std t done
  obtain ⟨repeats, overruns, starts⟩ := standing_counts (congrArg Standing.counts stands)
  exact ⟨⟨congrArg Standing.record stands, congrArg Standing.csl stands, congrArg Standing.sup stands,
    congrArg Standing.source stands, congrArg Standing.lastGood stands, congrArg Standing.sequence stands, repeats, starts⟩,
    congrArg Standing.buffers stands, overruns⟩

theorem starting_dropped {r : RenderRecord} (record : c.ren.record = some r) (undone : r.state ≠ .done) :
    Started c (starting std t c) ∧ (starting std t c).port.buffers = c.port.buffers.set r.buffer .empty
      ∧ (starting std t c).tally.get (chanCtrIx .overrun) = c.tally.get (chanCtrIx .overrun) + 1 := by
  have stands := starting_overrun std t record undone
  obtain ⟨repeats, overruns, starts⟩ := standing_counts (congrArg Standing.counts stands)
  exact ⟨⟨congrArg Standing.record stands, congrArg Standing.csl stands, congrArg Standing.sup stands,
    congrArg Standing.source stands, congrArg Standing.lastGood stands, congrArg Standing.sequence stands, repeats, starts⟩,
    congrArg Standing.buffers stands, overruns⟩

theorem starting_started (c : Channel) : Started c (starting std t c) := by
  by_cases done : ∀ r ∈ c.ren.record, r.state = .done
  · exact (starting_handed std t done).1
  · simp only [not_forall] at done
    obtain ⟨r, record, undone⟩ := done
    exact (starting_dropped std t record undone).1

end starting

/-! ## The source (10/R165, R167) -/

section source
variable (running : Bool) (m : SafeMode) (x : Channel)

theorem chooseSource_taken (produces : channelProduces x = true) (b : BufNo) :
    shownOf (chooseSource running m (some b) x) = { shownOf x with port := { x.port with
      source := .buffer b, lastGood := some b, emittedLines := 0, emitted := []
      buffers := (x.port.buffers.set b { x.port.buffers.get b with rendered := true, parity := x.port.parity }).set
        (otherBuffer b) .empty } } := by
  unfold chooseSource
  refine (shownOf_count (by decide) _).trans ?_
  dsimp only
  rw [if_pos produces]
  rfl

theorem chooseSource_repeated (produces : channelProduces x = true) : shownOf (chooseSource running m none x)
    = { shownOf x with
        port := { x.port with emittedLines := 0, emitted := [] }, repeats := (shownOf x).repeats + 1 } := by
  unfold chooseSource
  refine (shownOf_count (by decide) _).trans ?_
  dsimp only
  rw [if_pos produces]
  have counted (y : ChanCtr) := countMany_get x .repeats y 1
  exact congr (congr (congrArg (Shown.mk _) (counted .repeats)) (counted .overrun)) (counted .convertStarts)

theorem chooseSource_discarded (rests : channelProduces x = false) (b : BufNo) :
    shownOf (chooseSource running m (some b) x) = { shownOf x with port := { x.port with
      source := safeSource running m x.port, emittedLines := 0, emitted := [], buffers := x.port.buffers.set b .empty } } := by
  unfold chooseSource
  refine (shownOf_count (by decide) _).trans ?_
  dsimp only
  rw [if_neg (by rw [rests]; decide)]
  rfl

theorem chooseSource_safe (rests : channelProduces x = false) : shownOf (chooseSource running m none x)
    = { shownOf x with port := { x.port with
        source := safeSource running m x.port, emittedLines := 0, emitted := [] } } := by
  unfold chooseSource
  refine (shownOf_count (by decide) _).trans ?_
  dsimp only
  rw [if_neg (by rw [rests]; decide)]
  rfl

theorem chooseSource_frame (handed : Option BufNo) : chooseSource running m handed x = { x with
    port := (chooseSource running m handed x).port, tally := (chooseSource running m handed x).tally } := by
  unfold chooseSource
  dsimp only
  split
  · split <;> rfl
  · split <;> rfl

end source

/-- The buffer of a DONE render is scanned, RENDERED with the picture's parity, and is the last good one; the other one is
EMPTY (08/R141, 10/R165). -/
def Taken (c : Channel) (v : Shown) : Prop := ∃ r, c.ren.record = some r ∧ r.state = .done
  ∧ v.port.source = .buffer r.buffer ∧ v.port.lastGood = some r.buffer ∧ v.repeats = c.tally.get (chanCtrIx .repeats)
  ∧ v.port.buffers.get r.buffer = { c.port.buffers.get r.buffer with rendered := true, parity := v.port.parity }
  ∧ ∀ b, b ≠ r.buffer → v.port.buffers.get b = .empty

/-- The picture before is scanned again, counted, and a render not DONE is an overrun (08/R141, 10/R165). -/
def Repeated (c : Channel) (v : Shown) : Prop := v.port.source = c.port.source ∧ v.port.lastGood = c.port.lastGood
  ∧ v.repeats = c.tally.get (chanCtrIx .repeats) + 1
  ∧ v.overruns = c.tally.get (chanCtrIx .overrun) + (if c.ren.record.isSome then 1 else 0)

/-- A generated picture is scanned, and a render's buffer is emptied (08/R141, 10/R165, R167). -/
def Safe (source : ScanSource) (c : Channel) (v : Shown) : Prop := v.port.source = source
  ∧ v.port.lastGood = c.port.lastGood ∧ v.repeats = c.tally.get (chanCtrIx .repeats)
  ∧ ∀ r, c.ren.record = some r → v.port.buffers.get r.buffer = .empty

theorem eq_otherBuffer {a b : BufNo} (other : b ≠ a) : b = otherBuffer a := by decide +revert

section chosen
variable (std : StdCode) (t : Time) (running : Bool) (m : SafeMode) {c x : Channel} {n : Count}
  (seen : shownOf x = { shownOf (starting std t c) with starts := n })
include seen

theorem source_taken (produces : channelProduces x = true) {r : RenderRecord} (record : c.ren.record = some r)
    (done : r.state = .done) : Taken c (shownOf (chooseSource running m (disposeRecord c).1 x)) := by
  have done' : ∀ r ∈ c.ren.record, r.state = .done := by
    intro r' record'
    cases record.symm.trans record'
    exact done
  obtain ⟨started, buffers, -⟩ := starting_handed std t done'
  have port : x.port = (starting std t c).port := congrArg Shown.port seen
  have repeats : (shownOf x).repeats = c.tally.get (chanCtrIx .repeats) := (congrArg Shown.repeats seen).trans started.repeats
  rw [disposeRecord_done done', record]
  dsimp only [Option.map_some]
  rw [chooseSource_taken running m x produces]
  refine ⟨r, record, done, rfl, rfl, repeats, ?_, fun b other => ?_⟩
  · dsimp only
    rw [Bank.get_set_ne _ (otherBuffer_ne r.buffer).symm, Bank.get_set_same, port, buffers]
  · rw [eq_otherBuffer other]
    exact Bank.get_set_same ..

theorem source_repeated (produces : channelProduces x = true) (undone : ∀ r ∈ c.ren.record, r.state ≠ .done) :
    Repeated c (shownOf (chooseSource running m (disposeRecord c).1 x)) := by
  have port : x.port = (starting std t c).port := congrArg Shown.port seen
  have overruns : (shownOf x).overruns = (starting std t c).tally.get (chanCtrIx .overrun) := congrArg Shown.overruns seen
  have repeats : (shownOf x).repeats = c.tally.get (chanCtrIx .repeats) :=
    (congrArg Shown.repeats seen).trans (starting_started std t c).repeats
  have handed : (disposeRecord c).1 = none ∧ (starting std t c).tally.get (chanCtrIx .overrun)
      = c.tally.get (chanCtrIx .overrun) + (if c.ren.record.isSome then 1 else 0) := by
    cases record : c.ren.record with
    | none =>
      have done : ∀ r ∈ c.ren.record, r.state = .done := by rw [record]; nofun
      refine ⟨?_, (starting_handed std t done).2.2.trans (add_zero _).symm⟩
      rw [disposeRecord_done done, record]
      rfl
    | some r =>
      refine ⟨?_, (starting_dropped std t record (undone r record)).2.2⟩
      rw [disposeRecord_overrun record (undone r record)]
  rw [handed.1, chooseSource_repeated running m x produces]
  exact ⟨(congrArg Port.source port).trans (starting_started std t c).source,
    (congrArg Port.lastGood port).trans (starting_started std t c).lastGood, congrArg (· + 1) repeats,
    overruns.trans handed.2⟩

theorem source_safe (rests : channelProduces x = false) :
    Safe (safeSource running m c.port) c (shownOf (chooseSource running m (disposeRecord c).1 x)) := by
  have port : x.port = (starting std t c).port := congrArg Shown.port seen
  have lastGood : x.port.lastGood = c.port.lastGood :=
    (congrArg Port.lastGood port).trans (starting_started std t c).lastGood
  have repeats : (shownOf x).repeats = c.tally.get (chanCtrIx .repeats) :=
    (congrArg Shown.repeats seen).trans (starting_started std t c).repeats
  have safe : safeSource running m x.port = safeSource running m c.port := by
    unfold safeSource
    rw [lastGood]
  by_cases done : ∀ r ∈ c.ren.record, r.state = .done
  · rw [disposeRecord_done done]
    cases record : c.ren.record with
    | none =>
      dsimp only [Option.map_none]
      rw [chooseSource_safe running m x rests]
      exact ⟨safe, lastGood, repeats, fun r held => by cases record.symm.trans held⟩
    | some r =>
      dsimp only [Option.map_some]
      rw [chooseSource_discarded running m x rests]
      refine ⟨safe, lastGood, repeats, fun r' held => ?_⟩
      cases record.symm.trans held
      exact Bank.get_set_same ..
  · simp only [not_forall] at done
    obtain ⟨r, record, undone⟩ := done
    obtain ⟨-, buffers, -⟩ := starting_dropped std t record undone
    rw [disposeRecord_overrun record undone, chooseSource_safe running m x rests]
    refine ⟨safe, lastGood, repeats, fun r' held => ?_⟩
    cases held.symm.trans record
    exact (congrArg (·.get r.buffer) ((congrArg Port.buffers port).trans buffers)).trans (Bank.get_set_same ..)

end chosen

end Sys2Proof.Machine
end

section
/-! The PICTURE record of a scan start, and its entry into CONVERTING (10/R168, R169, R174, R175, notes/assumptions/4, 47). -/

namespace Sys2Proof.Machine

/-! ## The PICTURE record (10/R174, R175) -/

/-- The record of a channel's picture in scan, formed with its next sequence (10/R174). -/
def outputRecord (own : StationNo) (k : Chan) (f : FeedNo) (std : StdCode) (t : Time) (c : Channel) : PictureRecord :=
  { origin := own, pub := outputOf k, feed := f, sequence := c.port.sequence + 1
    generation := if c.csl.sourceGeneration = 3 then 3 else c.csl.sourceGeneration + 1
    kind := kindOf std c.port.parity, standard := std, stamp := t, lines := rawLines std
    samples := (standardOf std).samples }

/-- A port whose picture's record is formed, and one whose picture has none (10/R174, R175). -/
def publishedPort (p : Port) : Port := { p with sequence := p.sequence + 1, publishing := true }
def unpublishedPort (p : Port) : Port := { p with publishing := false }

/-- Whether a scan start forms a PICTURE record (10/R174, R175). -/
def publishes (g : ChanConfig) (running : Bool) (c : Channel) : Bool := g.outFeed.isSome && channelProduces c && running

def recordPort (published : Bool) : Port → Port := if published then publishedPort else unpublishedPort

theorem publishes_true {g : ChanConfig} {running : Bool} {c : Channel} : publishes g running c = true
    ↔ (g.outFeed.isSome = true ∧ channelProduces c = true) ∧ running = true := by simp only [publishes, Bool.and_eq_true]

theorem publishes_false {g : ChanConfig} {running : Bool} {c : Channel} : publishes g running c = false
    ↔ g.outFeed = none ∨ channelProduces c = false ∨ running = false := by
  simp only [publishes, Bool.and_eq_false_iff, Option.isSome_eq_false_iff, Option.isNone_iff_eq_none, or_assoc]

theorem outputChan_outputOf (k : Chan) : outputChan (outputOf k) = some k := by
  rcases (by decide +revert : k = 0 ∨ k = 1) with rfl | rfl <;> rfl

theorem pubGeneration_output (s : State) (k : Chan) : pubGeneration s (outputOf k)
    = if (chan s k).csl.sourceGeneration = 3 then 3 else (chan s k).csl.sourceGeneration + 1 := by
  unfold pubGeneration
  rw [outputChan_outputOf]

section record
variable {s : State} {k : Chan} {G : StationConfig} (config : s.config = some G) (std : StdCode) (t : Time)
include config

theorem publishScan_forms {f : FeedNo} (feed : (G.chans.get k).outFeed = some f)
    (produces : channelProduces (chan s k) = true) (running : isRunning s = true) : publishScan k std t s
      = publishPicture (outputOf k) (outputRecord G.station k f std t (chan s k)) (onChan k (onPort publishedPort) s) := by
  have formed : outputPicture (onChan k (onPort publishedPort) s) k G.station f std t
      = outputRecord G.station k f std t (chan s k) := by
    unfold outputPicture
    rw [pubGeneration_output, chan_onChan]
    rfl
  unfold publishScan
  rw [config]
  dsimp only
  rw [feed]
  exact (if_pos ⟨produces, running⟩).trans (congrArg (publishPicture (outputOf k) · _) formed)

theorem publishScan_silent (silent : (G.chans.get k).outFeed = none ∨ channelProduces (chan s k) = false
      ∨ isRunning s = false) : publishScan k std t s = onChan k (onPort unpublishedPort) s := by
  unfold publishScan
  rw [config]
  dsimp only
  split
  · next feed =>
    refine if_neg fun ⟨produces, running⟩ => ?_
    rcases silent with none | rests | stopped
    · cases feed.symm.trans none
    · rw [rests] at produces
      cases produces
    · rw [stopped] at running
      cases running
  · rfl

/-- A scan start publishes its picture or leaves it unpublished, and does nothing else to its channel. -/
theorem chan_publishScan : chan (publishScan k std t s) k
    = onPort (recordPort (publishes (G.chans.get k) (isRunning s) (chan s k))) (chan s k) := by
  cases published : publishes (G.chans.get k) (isRunning s) (chan s k) with
  | true =>
    obtain ⟨⟨feed, produces⟩, running⟩ := publishes_true.mp published
    obtain ⟨f, feed⟩ := Option.isSome_iff_exists.mp feed
    rw [publishScan_forms config std t feed produces running, publishPicture_own, chan_onChan]
    rfl
  | false =>
    rw [publishScan_silent config std t (publishes_false.mp published), chan_onChan]
    rfl

end record

theorem publishScan_within (k : Chan) (std : StdCode) (t : Time) (s : State) : WithinLink s (publishScan k std t s) := by
  unfold publishScan
  split
  · split
    · split
      · exact (onChan_within ..).link.trans (publishPicture_within ..)
      · exact (onChan_within ..).link
    · exact (onChan_within ..).link
  · exact .refl s

/-! ## The entry into CONVERTING (10/R169) -/

/-- The Channel Supervisor of a channel that enters CONVERTING (10/R169). -/
def convertingSup (now : Time) (x : Supervisor) : Supervisor :=
  { x with state := .converting, acquisition := none, holdover := none, decay := some (shift now 1620000000) }

theorem shownOf_enterConverting (env : Env) (c : Channel) :
    shownOf (enterConverting env c) = { shownOf c with starts := (shownOf c).starts + 1 } := by
  have counted (x : ChanCtr) := countMany_get { c with sup := convertingSup env.now c.sup } .convertStarts x 1
  exact congr (congr (congrArg (Shown.mk _) (counted .repeats)) (counted .overrun)) (counted .convertStarts)

theorem enterAt_true (k : Chan) (s : State) : enterAt k true s = settle (onConfigured k enterConverting s) := if_pos rfl

/-- An entry, where one is taken, counted. -/
def Shown.enter (v : Shown) (here : Bool) : Shown := if here then { v with starts := v.starts + 1 } else v

theorem enterAt_shows {s : State} {k : Chan} {g : ChanConfig} (config : chanConfig s k = some g) (here : Bool) {v : Shown}
    (h : Shows v (chan s k)) : Shows (v.enter here) (chan (enterAt k here s) k) := by
  cases here with
  | false =>
    rw [enterAt_false]
    exact h
  | true =>
    rw [enterAt_true]
    refine Shows.settle ?_
    rw [onConfigured_some config, chan_onChan]
    exact ⟨h.free, (shownOf_enterConverting ..).trans (by rw [h.seen]; rfl)⟩

theorem enterAt_within (k : Chan) (here : Bool) (s : State) : WithinLink s (enterAt k here s) := by
  cases here with
  | false =>
    rw [enterAt_false]
    exact .refl s
  | true =>
    rw [enterAt_true]
    exact (onConfigured_within ..).link.trans (settle_within _)

end Sys2Proof.Machine
end

section
/-! A scan start from its announcement to the end of its command, as its channel shows it (10/R158, R165, R169, R174). -/

namespace Sys2Proof.Machine

/-! ## The steps of a scan start (10/R158, notes/assumptions/4) -/

/-- Whether a scan start carries an entry into CONVERTING (10/R168). -/
def entersAt (std : StdCode) (t : Time) (k : Chan) (s : State) : Bool :=
  entryHolds (announcing std t (chan s k)) && isRunning s

/-- The station once the scan start has announced its next picture (10/R158). -/
def opened (std : StdCode) (t : Time) (k : Chan) (s : State) : State := onChan k (fun _ => starting std t (chan s k)) s

/-- The station once the port has its source (10/R165). -/
def sourced (k : Chan) (handed : Option BufNo) (s : State) : State :=
  onChan k (chooseSource (isRunning s) (safeModeOf s k) handed) s

section steps
variable (std : StdCode) (t : Time) (k : Chan) (entry : EntryOrder) (s : State)

/-- The station whose port chooses its source, and the one that may form the PICTURE record of it (10/R165, R174). -/
def sourceState : State := enterAt k (entersAt std t k s && entry = .beforeSource) (opened std t k s)

def recordState : State := enterAt k (entersAt std t k s && entry = .beforeRecord)
  (sourced k (disposeRecord (chan s k)).1 (sourceState std t k entry s))

theorem scanAt_eq : scanAt k entry std t s
    = enterAt k (entersAt std t k s && entry = .afterRecord) (publishScan k std t (recordState std t k entry s)) := rfl

theorem sourceState_within : WithinLink s (sourceState std t k entry s) :=
  (onChan_within ..).link.trans (enterAt_within ..)

theorem recordState_within : WithinLink s (recordState std t k entry s) :=
  (sourceState_within std t k entry s).trans ((onChan_within ..).link.trans (enterAt_within ..))

end steps

/-! ## What each step shows -/

theorem isRunning_within {s u : State} (within : WithinLink s u) : isRunning u = isRunning s := by
  rw [isRunning, within.station]
  rfl

theorem chanConfig_some {s : State} {G : StationConfig} (config : s.config = some G) (k : Chan) :
    chanConfig s k = some (G.chans.get k) := by
  rw [chanConfig, config]
  rfl

theorem chan_sourced {s : State} {G : StationConfig} (config : s.config = some G) (k : Chan) (handed : Option BufNo) :
    chan (sourced k handed s) k = chooseSource (isRunning s) (G.chans.get k).safeMode handed (chan s k) := by
  rw [sourced, chan_onChan, safeModeOf, chanConfig_some config]
  rfl

theorem recordPort_shows {v : Shown} {c : Channel} (h : Shows v c) (published : Bool) :
    Shows { v with port := recordPort published v.port } (onPort (recordPort published) c) :=
  ⟨h.free, by rw [← h.seen]; rfl⟩

/-- The source is a matter of the buffers: timebase, sequence and entries stand. -/
theorem chooseSource_keeps (running : Bool) (m : SafeMode) (handed : Option BufNo) (x : Channel) :
    (shownOf (chooseSource running m handed x)).starts = (shownOf x).starts
    ∧ (chooseSource running m handed x).port.tNext = x.port.tNext
    ∧ (chooseSource running m handed x).port.parity = x.port.parity
    ∧ (chooseSource running m handed x).port.sequence = x.port.sequence := by
  have keeps {v : Shown} (seen : shownOf (chooseSource running m handed x) = v) (starts : v.starts = (shownOf x).starts)
      (next : v.port.tNext = x.port.tNext) (parity : v.port.parity = x.port.parity)
      (sequence : v.port.sequence = x.port.sequence) : _ :=
    And.intro ((congrArg Shown.starts seen).trans starts) (And.intro ((congrArg (·.port.tNext) seen).trans next)
      (And.intro ((congrArg (·.port.parity) seen).trans parity) ((congrArg (·.port.sequence) seen).trans sequence)))
  cases produces : channelProduces x <;> cases handed
  · exact keeps (chooseSource_safe running m x produces) rfl rfl rfl rfl
  · exact keeps (chooseSource_discarded running m x produces _) rfl rfl rfl rfl
  · exact keeps (chooseSource_repeated running m x produces) rfl rfl rfl rfl
  · exact keeps (chooseSource_taken running m x produces _) rfl rfl rfl rfl

/-! ## The whole scan start -/

theorem enter_port (v : Shown) (here : Bool) : (v.enter here).port = v.port := by cases here <;> rfl

section whole
variable (std : StdCode) (t : Time) (k : Chan) (entry : EntryOrder) (s : State) {G : StationConfig}
  (config : s.config = some G)
include config

theorem sourceState_shows : Shows
    ((shownOf (starting std t (chan s k))).enter (entersAt std t k s && entry = .beforeSource))
    (chan (sourceState std t k entry s) k) := by
  refine enterAt_shows (s := opened std t k s) (chanConfig_some config k) _ ?_
  rw [opened, chan_onChan]
  exact ⟨(starting_started std t (chan s k)).free, rfl⟩

/-- The source a scan start chooses, at the channel that chooses it (10/R165). -/
def sourceShown (G : StationConfig) : Shown := shownOf (chooseSource (isRunning s) (G.chans.get k).safeMode
  (disposeRecord (chan s k)).1 (chan (sourceState std t k entry s) k))

theorem recordState_shows : Shows ((sourceShown std t k entry s G).enter (entersAt std t k s && entry = .beforeRecord))
    (chan (recordState std t k entry s) k) := by
  have within := sourceState_within std t k entry s
  have config' : (sourceState std t k entry s).config = some G := within.config.trans config
  have shows_ := sourceState_shows std t k entry s config
  refine enterAt_shows (s := sourced k _ (sourceState std t k entry s)) (chanConfig_some config' k) _ ?_
  rw [chan_sourced config', isRunning_within within]
  refine ⟨?_, rfl⟩
  rw [chooseSource_frame]
  exact shows_.free

theorem scanAt_shows : Shows (({ (sourceShown std t k entry s G).enter (entersAt std t k s && entry = .beforeRecord) with
      port := recordPort (publishes (G.chans.get k) (isRunning s) (chan (recordState std t k entry s) k))
        (sourceShown std t k entry s G).port } : Shown).enter (entersAt std t k s && entry = .afterRecord))
    (chan (conclude (scanAt k entry std t s)) k) := by
  have within := recordState_within std t k entry s
  have config' : (recordState std t k entry s).config = some G := within.config.trans config
  have published := publishScan_within k std t (recordState std t k entry s)
  refine Shows.conclude ?_
  rw [scanAt_eq]
  refine enterAt_shows (chanConfig_some (published.config.trans config') k) _ ?_
  rw [chan_publishScan config', isRunning_within within]
  have recorded := recordPort_shows (recordState_shows std t k entry s config)
    (publishes (G.chans.get k) (isRunning s) (chan (recordState std t k entry s) k))
  rw [enter_port] at recorded
  exact recorded

end whole

end Sys2Proof.Machine
end

section
/-! The supervisor, the intake and the selector through a scan start: steady on a channel that does not select, and on one
that keeps an eligible lane copy (10/R168, R169, 04/R53, notes/assumptions/47). -/

namespace Sys2Proof.Machine

/-- A channel's supervisor after an entry into CONVERTING, where one is taken (10/R169). -/
def supAfter (here : Bool) (now : Time) (x : Supervisor) : Supervisor := if here then convertingSup now x else x

/-- The supervisor as given, the intake and, but for the revert candidate, the selector as before. -/
structure Steady (sup : Supervisor) (c d : Channel) : Prop where
  sup : d.sup = sup
  int : d.int = c.int
  csl : ∃ x, d.csl = { c.csl with revert := x }

section steady
variable {sup : Supervisor} {c d : Channel} (h : Steady sup c d)
include h

theorem Steady.step {x : Supervisor} {e : Channel} (sup : e.sup = x) (int : e.int = d.int) (csl : e.csl = d.csl) :
    Steady x c e := ⟨sup, int.trans h.int, by rw [csl]; exact h.csl⟩

theorem Steady.butRevert {e : Channel} (kept : ButRevert d e) : Steady sup c e := by
  obtain ⟨x, rfl⟩ := kept
  obtain ⟨y, csl⟩ := h.csl
  exact ⟨h.sup, h.int, x, by rw [csl]⟩

end steady

/-- The channel selects nothing, or holds an eligible lane copy with none forced. -/
def Quiet (k : Chan) (s : State) : Prop := isSelecting s k = false ∨ ∃ q l, LaneHeld k q l s

theorem Quiet.settle {k : Chan} {s : State} (h : Quiet k s) : ButRevert (chan s k) (chan (settle s) k) := by
  rcases h with rests | ⟨q, l, held⟩
  · exact .of_eq (settle_inactive s k rests)
  · exact held.settle

theorem Quiet.conclude {k : Chan} {s : State} (h : Quiet k s) : ButRevert (chan s k) (chan (conclude s) k) := by
  have settled := h.settle
  rw [chan, chan] at settled
  rw [chan, chan, conclude_chans]
  exact settled

/-- A channel that enters CONVERTING, settled, keeps what it held. -/
theorem enterAt_steady {s : State} {k : Chan} {g : ChanConfig} {sup : Supervisor} {c : Channel}
    (config : chanConfig s k = some g) (here : Bool) (held : here = true → ∃ q l, LaneHeld k q l s)
    (h : Steady sup c (chan s k)) : Steady (supAfter here s.now sup) c (chan (enterAt k here s) k) := by
  cases here with
  | false =>
    rw [enterAt_false]
    exact h
  | true =>
    obtain ⟨q, l, held⟩ := held rfl
    have entered : chan (onConfigured k enterConverting s) k = enterConverting ⟨s.now, g⟩ (chan s k) := by
      rw [onConfigured_some config, chan_onChan]
    have steady : Steady (convertingSup s.now sup) c (chan (onConfigured k enterConverting s) k) := by
      rw [entered]
      exact h.step (congrArg (convertingSup s.now) h.sup) rfl rfl
    have still : LaneHeld k q l (onConfigured k enterConverting s) :=
      held.congr (onConfigured_within ..).link.config (onConfigured_within ..).link.lanes
        ⟨(chan s k).csl.revert, by rw [entered]; rfl⟩
    rw [enterAt_true]
    exact steady.butRevert still.settle

theorem LaneHeld.steady {k : Chan} {q : Copy} {l : LaneNo} {s t : State} (h : LaneHeld k q l s) (within : WithinLink s t)
    {sup : Supervisor} {c : Channel} (csl : c.csl = (chan s k).csl) (steady : Steady sup c (chan t k)) : LaneHeld k q l t := by
  obtain ⟨x, kept⟩ := steady.csl
  exact h.congr within.config within.lanes ⟨x, by rw [kept, csl]⟩

theorem Quiet.steady {k : Chan} {s t : State} (h : Quiet k s) (within : WithinLink s t) {sup : Supervisor} {c : Channel}
    (csl : c.csl = (chan s k).csl) (rests : isSelecting s k = false → sup = (chan s k).sup)
    (steady : Steady sup c (chan t k)) : Quiet k t := by
  rcases h with off | ⟨q, l, held⟩
  · refine .inl ?_
    rw [isSelecting, steady.sup, rests off]
    exact off
  · exact .inr ⟨q, l, held.steady within csl steady⟩

theorem announcing_sup (std : StdCode) (t : Time) (c : Channel) : (announcing std t c).sup = c.sup :=
  (congrArg Standing.sup (ownReference_standing (announcing std t c))).symm.trans (starting_started std t c).sup

theorem entryHolds_state {c : Channel} (h : entryHolds c = true) :
    c.sup.state = .acquiring ∨ c.sup.state = .holdover ∨ c.sup.state = .safe := by
  unfold entryHolds at h
  simp only [Bool.and_eq_true, Bool.or_eq_true, decide_eq_true_eq, or_assoc] at h
  exact h.1.1

theorem entersAt_state {std : StdCode} {t : Time} {k : Chan} {s : State} (enters : entersAt std t k s = true) :
    (chan s k).sup.state = .acquiring ∨ (chan s k).sup.state = .holdover ∨ (chan s k).sup.state = .safe := by
  have state := entryHolds_state (Bool.and_eq_true_iff.mp enters).1
  rwa [announcing_sup] at state

theorem entersAt_selecting {std : StdCode} {t : Time} {k : Chan} {s : State} (enters : entersAt std t k s = true) :
    isSelecting s k = true := by
  unfold isSelecting
  rcases entersAt_state enters with state | state | state <;> rw [state] <;> rfl

theorem supAfter_all (e : Bool) (now : Time) (x : Supervisor) (entry : EntryOrder) :
    supAfter (e && entry = .afterRecord) now (supAfter (e && entry = .beforeRecord) now
      (supAfter (e && entry = .beforeSource) now x)) = supAfter e now x := by
  cases entry <;> cases e <;> rfl

section whole
variable (std : StdCode) (t : Time) (k : Chan) (entry : EntryOrder) {s : State} {G : StationConfig}
  (config : s.config = some G) (quiet : Quiet k s)

include quiet in
theorem held_of_enters {p : Bool} (here : (entersAt std t k s && p) = true) : ∃ q l, LaneHeld k q l s := by
  have enters := (Bool.and_eq_true_iff.mp here).1
  rcases quiet with rests | held
  · cases rests.symm.trans (entersAt_selecting enters)
  · exact held

include config quiet

theorem sourceState_steady :
    Steady (supAfter (entersAt std t k s && entry = .beforeSource) s.now (chan s k).sup) (starting std t (chan s k))
      (chan (sourceState std t k entry s) k) := by
  have started := starting_started std t (chan s k)
  have steady : Steady (chan s k).sup (starting std t (chan s k)) (chan (opened std t k s) k) := by
    rw [opened, chan_onChan]
    exact ⟨started.sup, rfl, _, rfl⟩
  refine enterAt_steady (s := opened std t k s) (chanConfig_some config k) _ (fun here => ?_) steady
  obtain ⟨q, l, held⟩ := held_of_enters std t k quiet here
  exact ⟨q, l, held.steady (onChan_within ..).link started.csl steady⟩

theorem recordState_steady :
    Steady (supAfter (entersAt std t k s && entry = .beforeRecord) s.now
      (supAfter (entersAt std t k s && entry = .beforeSource) s.now (chan s k).sup)) (starting std t (chan s k))
      (chan (recordState std t k entry s) k) := by
  have within := sourceState_within std t k entry s
  have config' : (sourceState std t k entry s).config = some G := within.config.trans config
  have within' : WithinLink s (sourced k (disposeRecord (chan s k)).1 (sourceState std t k entry s)) :=
    within.trans (onChan_within ..).link
  have steady : Steady (supAfter (entersAt std t k s && entry = .beforeSource) s.now (chan s k).sup)
      (starting std t (chan s k)) (chan (sourced k (disposeRecord (chan s k)).1 (sourceState std t k entry s)) k) := by
    rw [chan_sourced config', chooseSource_frame]
    exact (sourceState_steady std t k entry config quiet).step
      (sourceState_steady std t k entry config quiet).sup rfl rfl
  have settled := enterAt_steady (chanConfig_some (within'.config.trans config) k)
    (entersAt std t k s && entry = .beforeRecord) (fun here => by
      obtain ⟨q, l, held⟩ := held_of_enters std t k quiet here
      exact ⟨q, l, held.steady within' (starting_started std t (chan s k)).csl steady⟩) steady
  rw [within'.now] at settled
  exact settled

theorem scanAt_steady : Steady (supAfter (entersAt std t k s) s.now (chan s k).sup) (starting std t (chan s k))
    (chan (conclude (scanAt k entry std t s)) k) := by
  have within := recordState_within std t k entry s
  have config' : (recordState std t k entry s).config = some G := within.config.trans config
  have csl := (starting_started std t (chan s k)).csl
  have recorded := recordState_steady std t k entry config quiet
  have within' := within.trans (publishScan_within k std t (recordState std t k entry s))
  have published : Steady (supAfter (entersAt std t k s && entry = .beforeRecord) s.now
      (supAfter (entersAt std t k s && entry = .beforeSource) s.now (chan s k).sup)) (starting std t (chan s k))
      (chan (publishScan k std t (recordState std t k entry s)) k) := by
    rw [chan_publishScan config']
    exact recorded.step recorded.sup rfl rfl
  have entered := enterAt_steady (chanConfig_some (within'.config.trans config) k)
    (entersAt std t k s && entry = .afterRecord) (fun here => by
      obtain ⟨q, l, held⟩ := held_of_enters std t k quiet here
      exact ⟨q, l, held.steady within' csl published⟩) published
  rw [within'.now, supAfter_all] at entered
  rw [scanAt_eq]
  refine entered.butRevert (quiet.steady (within'.trans (enterAt_within ..)) csl (fun rests => ?_) entered).conclude
  have stays : entersAt std t k s = false :=
    Bool.eq_false_iff.mpr fun enters => Bool.false_ne_true (rests.symm.trans (entersAt_selecting enters))
  rw [stays]
  rfl

end whole

end Sys2Proof.Machine
end

section
/-! The picture a scan start announces: when its channel enters CONVERTING, and what the intake refers its retirements to
(10/R168, 05/R87). -/

namespace Sys2Proof.Machine

theorem ownReference_found {c : Channel} {point : Time} {a : SlotNo} {b : Option SlotNo} {early : Bool}
    (other : c.sup.state ≠ .converting) (announced : announcedPoint c = some point)
    (chosen : chooseAB c point = some (a, b, early)) :
    ownReference c = sweep { c with int := { c.int with retireRef := some a } } := by
  unfold ownReference
  rw [if_neg other, announced]
  dsimp only
  rw [chosen]

section announced
variable (std : StdCode) (t : Time) {c : Channel} (done : ∀ r ∈ c.ren.record, r.state = .done)
include done

/-- With no overrun, an announcement leaves intake, standard and delay alone. -/
theorem announcing_frame : ∃ x, announcing std t c
    = { c with port := (starting std t c).port, tally := x, ren := { c.ren with record := none, selected := false } } := by
  refine ⟨(announcing std t c).tally, ?_⟩
  rw [starting, ownReference_port, announcing, disposeRecord_done done]
  exact timeScan_frame ..

theorem entryHolds_announcing : entryHolds (announcing std t c) = true
    ↔ (c.sup.state = .acquiring ∨ c.sup.state = .holdover ∨ c.sup.state = .safe)
      ∧ 2 ≤ (c.int.committed.filter (isComplete c)).length
      ∧ ∃ n delay next, c.int.newest = some n ∧ c.ren.dEff = some delay ∧ (starting std t c).port.tNext = some next
        ∧ 0 ≤ sdiff n (shift next (-(delay : Int))) := by
  obtain ⟨x, frame⟩ := announcing_frame std t done
  have complete : isComplete { c with
      port := (starting std t c).port, tally := x, ren := { c.ren with record := none, selected := false } }
      = isComplete c := rfl
  rw [frame]
  unfold entryHolds announcedPoint
  rw [complete]
  dsimp only
  cases (starting std t c).port.tNext <;> cases c.ren.dEff <;> cases c.int.newest <;>
    simp [reached, and_assoc, or_assoc]

/-- Outside CONVERTING the retirement reference is the last picture at or before the render point announced. -/
theorem starting_retireRef (other : c.sup.state ≠ .converting) {delay : Nat} {next : Time}
    {before after : List SlotNo} {a : SlotNo} (dEff : c.ren.dEff = some delay)
    (tNext : (starting std t c).port.tNext = some next)
    (last : LastBefore c (shift next (-(delay : Int))) before a after) :
    (starting std t c).int.retireRef = some a := by
  obtain ⟨x, frame⟩ := announcing_frame std t done
  have point : announcedPoint (announcing std t c) = some (shift next (-(delay : Int))) := by
    rw [frame, announcedPoint, tNext, dEff]
  have chosen : chooseAB (announcing std t c) (shift next (-(delay : Int)))
      = some (a, if startsEarly (announcing std t c) (shift next (-(delay : Int))) a then none else after.head?,
          startsEarly (announcing std t c) (shift next (-(delay : Int))) a) := by
    refine chooseAB_eq (before := before) ?_
    rw [frame]
    exact ⟨last.list, last.after, last.last, last.once⟩
  have found := ownReference_found (by rw [announcing_sup]; exact other) point chosen
  exact (congrArg (·.int.retireRef) found).trans (sweep_retireRef _)

end announced

end Sys2Proof.Machine
end

section
/-! What the channel of a scan start is at its end, and the PICTURE record handed on (10/R158, R165, R169, R174). -/

namespace Sys2Proof.Machine

/-- The channel at the end of a scan start (10/R158). -/
def scanEnd (k : Chan) (entry : EntryOrder) (std : StdCode) (t : Time) (s : State) : Channel :=
  chan (conclude (scanAt k entry std t s)) k

theorem shownOf_port (c : Channel) : (shownOf c).port = c.port := rfl

theorem Shows.port {v : Shown} {c : Channel} (h : Shows v c) : c.port = v.port := by
  rw [← h.seen]
  rfl

theorem Shows.starts {v : Shown} {c : Channel} (h : Shows v c) :
    c.tally.get (chanCtrIx .convertStarts) = v.starts := by
  rw [← h.seen]
  rfl

/-! ## Records and entries touch no source -/

theorem enter_eq (v : Shown) (here : Bool) : v.enter here = { v with starts := (v.enter here).starts } := by
  cases here <;> rfl

theorem enter_starts (v : Shown) (here : Bool) : (v.enter here).starts = if here then v.starts + 1 else v.starts := by
  cases here <;> rfl

/-- Of the three places of an entry, a scan start takes one (notes/assumptions/4). -/
theorem enters_once (v : Shown) (enters : Bool) (entry : EntryOrder) :
    ((v.enter (enters && entry = .beforeSource)).enter (enters && entry = .beforeRecord)).enter (enters && entry = .afterRecord)
      = v.enter enters := by
  cases enters <;> cases entry <;> rfl

theorem recordPort_frame (published : Bool) (p : Port) : recordPort published p
    = { p with sequence := if published then p.sequence + 1 else p.sequence, publishing := published } := by
  cases published <;> rfl

/-- A channel seen after its PICTURE record, or with none formed. -/
structure Recorded (published : Bool) (v w : Shown) : Prop where
  port : w.port = recordPort published v.port
  repeats : w.repeats = v.repeats
  overruns : w.overruns = v.overruns

section recorded
variable {published : Bool} {v w : Shown} {c : Channel} (h : Recorded published v w)
include h

theorem Taken.recorded (taken : Taken c v) : Taken c w := by
  rw [Taken, h.port, h.repeats, recordPort_frame]
  exact taken

theorem Repeated.recorded (repeated : Repeated c v) : Repeated c w := by
  rw [Repeated, h.port, h.repeats, h.overruns, recordPort_frame]
  exact repeated

theorem Safe.recorded {source : ScanSource} (safe : Safe source c v) : Safe source c w := by
  rw [Safe, h.port, h.repeats, recordPort_frame]
  exact safe

end recorded

/-- Whether a channel produces is its supervisor's to say (10/10.5). -/
theorem channelProduces_congr {c d : Channel} (sup : d.sup = c.sup) : channelProduces d = channelProduces c := by
  rw [channelProduces, sup]
  rfl

/-! ## The end -/

section ends
variable (std : StdCode) (t : Time) (k : Chan) (entry : EntryOrder) (s : State) {G : StationConfig}
  (config : s.config = some G)

/-- Whether the scan start's record is formed. -/
def published (G : StationConfig) : Bool :=
  publishes (G.chans.get k) (isRunning s) (chan (recordState std t k entry s) k)

theorem sourceState_direct (later : (entersAt std t k s && entry = .beforeSource) = false) :
    sourceState std t k entry s = opened std t k s := by
  rw [sourceState, later, enterAt_false]

theorem recordState_direct (later : (entersAt std t k s && entry = .beforeSource) = false)
    (late : (entersAt std t k s && entry = .beforeRecord) = false) : recordState std t k entry s
      = sourced k (disposeRecord (chan s k)).1 (opened std t k s) := by
  rw [recordState, late, enterAt_false, sourceState_direct std t k entry s later]

theorem source_direct (later : (entersAt std t k s && entry = .beforeSource) = false) :
    chan (sourceState std t k entry s) k = starting std t (chan s k) := by
  rw [sourceState_direct std t k entry s later, opened, chan_onChan]

include config

theorem scanEnd_recorded : Recorded (published std t k entry s G) (sourceShown std t k entry s G)
    (shownOf (scanEnd k entry std t s)) := by
  have seen : shownOf (scanEnd k entry std t s) = _ := (scanAt_shows std t k entry s config).seen
  rw [enter_eq, enter_eq (sourceShown std t k entry s G)] at seen
  exact ⟨by rw [seen]; rfl, by rw [seen], by rw [seen]⟩

theorem scanEnd_starts : (scanEnd k entry std t s).tally.get (chanCtrIx .convertStarts)
    = if entersAt std t k s then (chan s k).tally.get (chanCtrIx .convertStarts) + 1
      else (chan s k).tally.get (chanCtrIx .convertStarts) := by
  have source : (sourceShown std t k entry s G).starts
      = ((shownOf (starting std t (chan s k))).enter (entersAt std t k s && entry = .beforeSource)).starts :=
    (chooseSource_keeps ..).1.trans (congrArg Shown.starts (sourceState_shows std t k entry s config).seen)
  have counted := (scanAt_shows std t k entry s config).starts
  have once := congrArg Shown.starts (enters_once (shownOf (starting std t (chan s k))) (entersAt std t k s) entry)
  rw [enter_starts, enter_starts] at once counted
  rw [scanEnd, counted, source, once, enter_starts, ← (starting_started std t (chan s k)).starts]
  rfl

/-- The announcement's port at the end but for the source, and the channel that forms the record shows it already. -/
theorem scanEnd_port : (scanEnd k entry std t s).port.tNext = (starting std t (chan s k)).port.tNext
    ∧ (scanEnd k entry std t s).port.parity = (chan (recordState std t k entry s) k).port.parity
    ∧ (chan (recordState std t k entry s) k).port.sequence = (chan s k).port.sequence
    ∧ (scanEnd k entry std t s).port.sequence = (if published std t k entry s G then (chan s k).port.sequence + 1
        else (chan s k).port.sequence)
    ∧ (scanEnd k entry std t s).port.publishing = published std t k entry s G := by
  have port : (scanEnd k entry std t s).port = recordPort (published std t k entry s G) (sourceShown std t k entry s G).port := by
    rw [← (scanEnd_recorded std t k entry s config).port, shownOf_port]
  have record : (chan (recordState std t k entry s) k).port = (sourceShown std t k entry s G).port := by
    rw [(recordState_shows std t k entry s config).port, enter_port]
  have source : (chan (sourceState std t k entry s) k).port = (starting std t (chan s k)).port := by
    rw [(sourceState_shows std t k entry s config).port, enter_port]
    rfl
  obtain ⟨-, next, -, sequence⟩ := chooseSource_keeps (isRunning s) (G.chans.get k).safeMode
    (disposeRecord (chan s k)).1 (chan (sourceState std t k entry s) k)
  have next : (sourceShown std t k entry s G).port.tNext = (starting std t (chan s k)).port.tNext := by
    rw [← source]
    exact next
  have sequence : (sourceShown std t k entry s G).port.sequence = (chan s k).port.sequence := by
    rw [← (starting_started std t (chan s k)).sequence, ← source]
    exact sequence
  rw [port, record, recordPort_frame]
  exact ⟨next, rfl, sequence, by dsimp only; rw [sequence], rfl⟩

theorem scanEnd_published (forms : published std t k entry s G = true) :
    (scanEnd k entry std t s).port.sequence = (chan s k).port.sequence + 1
    ∧ (scanEnd k entry std t s).port.publishing = true := by
  obtain ⟨-, -, -, sequence, publishing⟩ := scanEnd_port std t k entry s config
  rw [sequence, publishing, forms]
  exact ⟨rfl, rfl⟩

theorem scanEnd_silent (silent : published std t k entry s G = false) :
    (scanEnd k entry std t s).port.sequence = (chan s k).port.sequence
    ∧ (scanEnd k entry std t s).port.publishing = false := by
  obtain ⟨-, -, -, sequence, publishing⟩ := scanEnd_port std t k entry s config
  rw [sequence, publishing, silent]
  exact ⟨rfl, rfl⟩

/-! ## The source at the end (10/R165, R167) -/

theorem source_seen : shownOf (chan (sourceState std t k entry s) k) = { shownOf (starting std t (chan s k)) with
    starts := ((shownOf (starting std t (chan s k))).enter (entersAt std t k s && entry = .beforeSource)).starts } :=
  (sourceState_shows std t k entry s config).seen.trans (enter_eq ..)

section produces
variable (produces : channelProduces (chan (sourceState std t k entry s) k) = true)
include produces

theorem scanEnd_taken (done : ∃ r ∈ (chan s k).ren.record, r.state = .done) :
    Taken (chan s k) (shownOf (scanEnd k entry std t s)) := by
  obtain ⟨r, record, done⟩ := done
  exact (source_taken std t (isRunning s) (G.chans.get k).safeMode (source_seen std t k entry s config) produces record
    done).recorded (scanEnd_recorded std t k entry s config)

theorem scanEnd_repeated (undone : ∀ r ∈ (chan s k).ren.record, r.state ≠ .done) :
    Repeated (chan s k) (shownOf (scanEnd k entry std t s)) :=
  (source_repeated std t (isRunning s) (G.chans.get k).safeMode (source_seen std t k entry s config) produces
    undone).recorded (scanEnd_recorded std t k entry s config)

end produces

theorem scanEnd_safe (rests : channelProduces (chan (sourceState std t k entry s) k) = false) :
    Safe (safeSource (isRunning s) (G.chans.get k).safeMode (chan s k).port) (chan s k)
      (shownOf (scanEnd k entry std t s)) :=
  (source_safe std t (isRunning s) (G.chans.get k).safeMode (source_seen std t k entry s config) rests).recorded
    (scanEnd_recorded std t k entry s config)

end ends

end Sys2Proof.Machine
end

section
/-! The PICTURE record of a scan start, at the state it is formed in (10/R174, R175, notes/assumptions/4, 47). -/

namespace Sys2Proof.Machine

/-- Nothing has changed but the channels. -/
def OnlyChans (s u : State) : Prop := u = { s with chans := u.chans }

theorem OnlyChans.refl (s : State) : OnlyChans s s := rfl

theorem OnlyChans.trans {s t u : State} (h : OnlyChans s t) (g : OnlyChans t u) : OnlyChans s u := by
  unfold OnlyChans at *
  rw [g, h]

theorem OnlyChans.now {s u : State} (h : OnlyChans s u) : u.now = s.now := by
  unfold OnlyChans at h
  rw [h]

theorem OnlyChans.config {s u : State} (h : OnlyChans s u) : u.config = s.config := by
  unfold OnlyChans at h
  rw [h]

theorem onChan_only (k : Chan) (f : Channel → Channel) (s : State) : OnlyChans s (onChan k f s) := rfl

theorem onConfigured_only (k : Chan) (f : Env → Channel → Channel) (s : State) : OnlyChans s (onConfigured k f s) := by
  unfold onConfigured
  split
  · exact onChan_only ..
  · exact .refl s

theorem opened_only (std : StdCode) (t : Time) (k : Chan) (s : State) : OnlyChans s (opened std t k s) := onChan_only ..

theorem sourced_only (k : Chan) (handed : Option BufNo) (s : State) : OnlyChans s (sourced k handed s) := onChan_only ..

/-- The record of the picture in scan, from the channel before the scan start and the parity at its end (10/R174). -/
def scanRecord (own : StationNo) (k : Chan) (f : FeedNo) (std : StdCode) (t : Time) (c : Channel) (p : Parity) :
    PictureRecord :=
  { origin := own, pub := outputOf k, feed := f, sequence := c.port.sequence + 1
    generation := if c.csl.sourceGeneration = 3 then 3 else c.csl.sourceGeneration + 1
    kind := kindOf std p, standard := std, stamp := t, lines := rawLines std, samples := (standardOf std).samples }

theorem outputRecord_eq {own : StationNo} {k : Chan} {f : FeedNo} {std : StdCode} {t : Time} {c d : Channel} {p : Parity}
    (sequence : d.port.sequence = c.port.sequence) (generation : d.csl.sourceGeneration = c.csl.sourceGeneration)
    (parity : p = d.port.parity) : outputRecord own k f std t d = scanRecord own k f std t c p := by
  rw [outputRecord, sequence, generation, parity, scanRecord]

section record
variable (std : StdCode) (t : Time) (k : Chan) (entry : EntryOrder) {s : State} {G : StationConfig}
  (config : s.config = some G)
include config

/-- With no entry taken before it, the record is formed on a channel whose supervisor and selector stand. -/
theorem recordState_stands (later : (entersAt std t k s && entry = .beforeSource) = false)
    (late : (entersAt std t k s && entry = .beforeRecord) = false) :
    (chan (recordState std t k entry s) k).sup = (chan s k).sup
      ∧ (chan (recordState std t k entry s) k).csl = (chan s k).csl := by
  have started := starting_started std t (chan s k)
  rw [recordState_direct std t k entry s later late, chan_sourced (s := opened std t k s) config, chooseSource_frame,
    opened, chan_onChan]
  exact ⟨started.sup, started.csl⟩

variable (forms : published std t k entry s G = true) {f : FeedNo} (feed : (G.chans.get k).outFeed = some f)
include forms feed

theorem publishScan_formed
    (generation : (chan (recordState std t k entry s) k).csl.sourceGeneration = (chan s k).csl.sourceGeneration) :
    publishScan k std t (recordState std t k entry s) = publishPicture (outputOf k)
      (scanRecord G.station k f std t (chan s k) (scanEnd k entry std t s).port.parity)
      (onChan k (onPort publishedPort) (recordState std t k entry s)) := by
  obtain ⟨⟨-, produces⟩, running⟩ := publishes_true.mp forms
  have within := recordState_within std t k entry s
  obtain ⟨-, parity, sequence, -, -⟩ := scanEnd_port std t k entry s config
  rw [publishScan_forms (within.config.trans config) std t feed produces ((isRunning_within within).trans running),
    outputRecord_eq sequence generation parity]

theorem publishScan_direct (later : (entersAt std t k s && entry = .beforeSource) = false)
    (late : (entersAt std t k s && entry = .beforeRecord) = false) :
    ∃ u, publishScan k std t (recordState std t k entry s) = publishPicture (outputOf k)
        (scanRecord G.station k f std t (chan s k) (scanEnd k entry std t s).port.parity) u
      ∧ OnlyChans s u ∧ chan u (otherChan k) = chan s (otherChan k) := by
  have stands := (recordState_stands std t k entry config later late).2
  refine ⟨_, publishScan_formed std t k entry config forms feed (by rw [stands]), ?_, ?_⟩
  · rw [recordState_direct std t k entry s later late]
    exact ((onChan_only ..).trans (onChan_only ..)).trans (onChan_only ..)
  · rw [recordState_direct std t k entry s later late, chan_onChan_ne (other_ne k), sourced, chan_onChan_ne (other_ne k),
      opened, chan_onChan_ne (other_ne k)]

/-- An entry before the record is taken, and settles, on a station where nothing but channels has changed. -/
theorem publishScan_entered (quiet : Quiet k s) (enters : entersAt std t k s = true) (early : entry ≠ .afterRecord) :
    ∃ u w, publishScan k std t (recordState std t k entry s) = publishPicture (outputOf k)
        (scanRecord G.station k f std t (chan s k) (scanEnd k entry std t s).port.parity) u
      ∧ OnlyChans s w ∧ (chan w k).sup = convertingSup s.now (chan s k).sup ∧ OnlyChans (settle w) u := by
  have started := starting_started std t (chan s k)
  obtain ⟨x, csl⟩ := (recordState_steady std t k entry config quiet).csl
  have formed := publishScan_formed std t k entry config forms feed (by rw [csl, started.csl])
  have converts {u : State} (only : OnlyChans s u) (sup : (chan u k).sup = (chan s k).sup) :
      (chan (onConfigured k enterConverting u) k).sup = convertingSup s.now (chan s k).sup := by
    have config' : u.config = some G := only.config.trans config
    rw [onConfigured_some (chanConfig_some config' k), chan_onChan, ← sup, ← only.now]
    rfl
  have opens : (chan (opened std t k s) k).sup = (chan s k).sup := by rw [opened, chan_onChan, started.sup]
  cases entry with
  | beforeSource =>
    refine ⟨_, _, formed, (opened_only ..).trans (onConfigured_only ..), converts (opened_only std t k s) opens, ?_⟩
    rw [recordState, sourceState, enters]
    simp only [Bool.true_and, decide_true, reduceCtorEq, decide_false, enterAt_false, enterAt_true]
    exact (onChan_only ..).trans (onChan_only ..)
  | beforeRecord =>
    have sources : (chan (sourced k (disposeRecord (chan s k)).1 (opened std t k s)) k).sup = (chan s k).sup := by
      rw [chan_sourced (s := opened std t k s) config, chooseSource_frame]
      exact opens
    have only := (opened_only std t k s).trans (sourced_only k (disposeRecord (chan s k)).1 _)
    refine ⟨_, _, formed, only.trans (onConfigured_only ..), converts only sources, ?_⟩
    rw [recordState, sourceState, enters]
    simp only [Bool.true_and, decide_true, reduceCtorEq, decide_false, enterAt_false, enterAt_true]
    exact onChan_only ..
  | afterRecord => exact absurd rfl early

end record

end Sys2Proof.Machine
end

section
/-! What a port scans, the entry into CONVERTING and the PICTURE record, by the state a scan start finds its channel in
(08/R141, 10/R165 to R169, R174, R175, 05/R87). -/

namespace Sys2Proof.Machine

/-! ## States -/

theorem produces_iff {c : Channel} : channelProduces c = true ↔ c.sup.state = .converting ∨ c.sup.state = .holdover := by
  simp only [channelProduces, Bool.or_eq_true, decide_eq_true_eq]

theorem rests_iff {c : Channel} : channelProduces c = false ↔ c.sup.state ≠ .converting ∧ c.sup.state ≠ .holdover := by
  simp only [channelProduces, Bool.or_eq_false_iff, decide_eq_false_iff_not, ne_eq]

theorem isRunning_iff {s : State} : isRunning s = true ↔ s.station = .running := decide_eq_true_iff

theorem advance_held {k : Chan} {q : Copy} {l : LaneNo} {s : State} (h : LaneHeld k q l s) (dt : Nat) :
    LaneHeld k q l (advance dt s) := h.congr rfl rfl ⟨(chan s k).csl.revert, rfl⟩

/-! ## By the state of the channel -/

section states
variable (std : StdCode) (t : Time) {k : Chan} {entry : EntryOrder} {s : State} {G : StationConfig}
  (config : s.config = some G)

theorem stays_of (h : (chan s k).sup.state ≠ .acquiring ∧ (chan s k).sup.state ≠ .holdover ∧ (chan s k).sup.state ≠ .safe) :
    entersAt std t k s = false := by
  obtain ⟨acquiring, holdover, safe⟩ := h
  refine Bool.eq_false_iff.mpr fun enters => ?_
  rcases entersAt_state enters with state | state | state
  · exact acquiring state
  · exact holdover state
  · exact safe state

theorem entersAt_later (later : entry ≠ .beforeSource) : (entersAt std t k s && entry = .beforeSource) = false := by
  rw [decide_eq_false later, Bool.and_false]

theorem entersAt_stays {std : StdCode} {t : Time} (stays : entersAt std t k s = false) (p : Bool) :
    (entersAt std t k s && p) = false := by
  rw [stays, Bool.false_and]

/-- With no entry before the source, the state that the scan start finds chooses it. -/
theorem source_produces (later : (entersAt std t k s && entry = .beforeSource) = false) :
    channelProduces (chan (sourceState std t k entry s) k) = channelProduces (chan s k) := by
  rw [source_direct std t k entry s later]
  exact channelProduces_congr (starting_started std t (chan s k)).sup

include config

theorem scanEnd_produces (later : (entersAt std t k s && entry = .beforeSource) = false)
    (state : (chan s k).sup.state = .converting ∨ (chan s k).sup.state = .holdover) :
    ((∃ r ∈ (chan s k).ren.record, r.state = .done) → Taken (chan s k) (shownOf (scanEnd k entry std t s)))
    ∧ ((∀ r ∈ (chan s k).ren.record, r.state ≠ .done) → Repeated (chan s k) (shownOf (scanEnd k entry std t s))) := by
  have produces := (source_produces std t later).trans (produces_iff.mpr state)
  exact ⟨scanEnd_taken std t k entry s config produces, scanEnd_repeated std t k entry s config produces⟩

theorem scanEnd_rests (later : (entersAt std t k s && entry = .beforeSource) = false)
    (converting : (chan s k).sup.state ≠ .converting) (holdover : (chan s k).sup.state ≠ .holdover) :
    Safe (safeSource (isRunning s) (G.chans.get k).safeMode (chan s k).port) (chan s k)
      (shownOf (scanEnd k entry std t s)) :=
  scanEnd_safe std t k entry s config ((source_produces std t later).trans (rests_iff.mpr ⟨converting, holdover⟩))

/-- An entry before the source makes the port scan as a CONVERTING channel's does. -/
theorem scanEnd_converts (quiet : Quiet k s) (enters : entersAt std t k s = true) :
    ((∃ r ∈ (chan s k).ren.record, r.state = .done) → Taken (chan s k) (shownOf (scanEnd k .beforeSource std t s)))
    ∧ ((∀ r ∈ (chan s k).ren.record, r.state ≠ .done)
      → Repeated (chan s k) (shownOf (scanEnd k .beforeSource std t s))) := by
  have sup := (sourceState_steady std t k .beforeSource config quiet).sup
  rw [enters] at sup
  have produces : channelProduces (chan (sourceState std t k .beforeSource s) k) = true :=
    produces_iff.mpr (.inl (congrArg Supervisor.state sup))
  exact ⟨scanEnd_taken std t k _ s config produces, scanEnd_repeated std t k _ s config produces⟩

theorem scanEnd_sup (quiet : Quiet k s) :
    (scanEnd k entry std t s).sup = supAfter (entersAt std t k s) s.now (chan s k).sup :=
  (scanAt_steady std t k entry config quiet).sup

theorem scanEnd_retireRef (quiet : Quiet k s) :
    (scanEnd k entry std t s).int.retireRef = (starting std t (chan s k)).int.retireRef :=
  congrArg Intake.retireRef (scanAt_steady std t k entry config quiet).int

/-! ## The record by the state of the channel -/

omit config in
theorem published_off (off : (G.chans.get k).outFeed = none ∨ isRunning s = false) :
    published std t k entry s G = false := by
  refine publishes_false.mpr ?_
  rcases off with none | stopped
  · exact .inl none
  · exact .inr (.inr stopped)

theorem published_rests (later : (entersAt std t k s && entry = .beforeSource) = false)
    (late : (entersAt std t k s && entry = .beforeRecord) = false)
    (converting : (chan s k).sup.state ≠ .converting) (holdover : (chan s k).sup.state ≠ .holdover) :
    published std t k entry s G = false := by
  have sup := (recordState_stands std t k entry config later late).1
  exact publishes_false.mpr (.inr (.inl ((channelProduces_congr sup).trans (rests_iff.mpr ⟨converting, holdover⟩))))

section forms
variable {f : FeedNo} (feed : (G.chans.get k).outFeed = some f) (running : isRunning s = true)
include feed running

theorem published_produces (later : (entersAt std t k s && entry = .beforeSource) = false)
    (late : (entersAt std t k s && entry = .beforeRecord) = false)
    (state : (chan s k).sup.state = .converting ∨ (chan s k).sup.state = .holdover) :
    published std t k entry s G = true := by
  have sup := (recordState_stands std t k entry config later late).1
  exact publishes_true.mpr ⟨⟨by rw [feed]; rfl, (channelProduces_congr sup).trans (produces_iff.mpr state)⟩, running⟩

theorem published_entered (quiet : Quiet k s) (enters : entersAt std t k s = true) (early : entry ≠ .afterRecord) :
    published std t k entry s G = true := by
  have sup := (recordState_steady std t k entry config quiet).sup
  have converting : (chan (recordState std t k entry s) k).sup.state = .converting := by
    rw [sup, enters]
    cases entry with
    | beforeSource => rfl
    | beforeRecord => rfl
    | afterRecord => exact absurd rfl early
  exact publishes_true.mpr ⟨⟨by rw [feed]; rfl, produces_iff.mpr (.inl converting)⟩, running⟩

end forms

end states

/-! ## The command -/

theorem exec_scanStart {s : State} {k : Chan} {std : StdCode} {d : Time} (dt : Nat) (entry : EntryOrder)
    (standard : (chan s k).port.standard = some std) (tNext : (chan s k).port.tNext = some d)
    (due : 0 ≤ sdiff (s.now + BitVec.ofNat 48 dt) d) (station : s.station ≠ .configFault) :
    exec (.scanStart dt k entry) s = .next (conclude (scanAt k entry std d (advance dt s))) := by
  have scans : scan k entry (advance dt s) = scanAt k entry std d (advance dt s) := by
    have standard : (chan (advance dt s) k).port.standard = some std := standard
    have tNext : (chan (advance dt s) k).port.tNext = some d := tNext
    unfold scan
    rw [standard, tNext]
    dsimp only
    have reaches : reached (advance dt s).now d = true := decide_eq_true due
    rw [if_pos reaches]
    exact if_neg station
  exact congrArg (fun t => Host.Outcome.next (conclude t)) scans

end Sys2Proof.Machine
end

section
/-! What a port scans at a scan start, what it enters and what it publishes (08/R141, 10/R165 to R169, R174, R175, 05/R87). -/

namespace Sys2Proof.Machine

section clauses
variable (std : StdCode) (t : Time) {k : Chan} {entry : EntryOrder} {s : State} {G : StationConfig}

/-- The safe picture that the channel's configured mode gives (10/R167). -/
def safePicture (G : StationConfig) (k : Chan) (s : State) : ScanSource :=
  safeSource (isRunning s) (G.chans.get k).safeMode (chan s k).port

/-- A record that is DONE, where one is held, is handed over where it is. -/
theorem handed_of {o : Option RenderRecord} (done : ∀ r ∈ o, r.state = .done) {P Q : Prop}
    (h : ((∃ r ∈ o, r.state = .done) → P) ∧ ((∀ r ∈ o, r.state ≠ .done) → Q)) : (o.isSome → P) ∧ (o = none → Q) := by
  cases o with
  | none => exact ⟨nofun, fun _ => h.2 nofun⟩
  | some r => exact ⟨fun _ => h.1 ⟨r, rfl, done r rfl⟩, nofun⟩

theorem rests_of_safe {c : Channel} (state : c.sup.state = .acquiring ∨ c.sup.state = .safe) :
    c.sup.state ≠ .converting ∧ c.sup.state ≠ .holdover := by
  rcases state with h | h <;> rw [h] <;> decide

theorem stays_converting (state : (chan s k).sup.state = .converting) : entersAt std t k s = false :=
  stays_of std t (by rw [state]; decide)

theorem stays_at_rest (state : (chan s k).sup.state = .idle ∨ (chan s k).sup.state = .latched) :
    entersAt std t k s = false ∧ (chan s k).sup.state ≠ .converting ∧ (chan s k).sup.state ≠ .holdover := by
  refine ⟨stays_of std t ?_, ?_⟩
  · rcases state with h | h <;> rw [h] <;> decide
  · rcases state with h | h <;> rw [h] <;> decide

/-- The source that the state gives where no entry comes before it (10/R165 to R167). -/
theorem source_by_state (config : s.config = some G) :
    ((chan s k).sup.state = .converting ∨ (chan s k).sup.state = .holdover ∧ entry ≠ .beforeSource →
      ((∃ r ∈ (chan s k).ren.record, r.state = .done) → Taken (chan s k) (shownOf (scanEnd k entry std t s)))
      ∧ ((∀ r ∈ (chan s k).ren.record, r.state ≠ .done) → Repeated (chan s k) (shownOf (scanEnd k entry std t s))))
    ∧ ((chan s k).sup.state = .idle ∨ (chan s k).sup.state = .latched →
      Safe (safePicture G k s) (chan s k) (shownOf (scanEnd k entry std t s))
      ∧ (scanEnd k entry std t s).sup = (chan s k).sup)
    ∧ ((chan s k).sup.state = .acquiring ∨ (chan s k).sup.state = .safe → entry ≠ .beforeSource →
      Safe (safePicture G k s) (chan s k) (shownOf (scanEnd k entry std t s))) := by
  refine ⟨fun state => ?_, fun state => ?_, fun state later => ?_⟩
  · rcases state with converting | ⟨holdover, later⟩
    · exact scanEnd_produces std t config (entersAt_stays (stays_converting std t converting) _) (.inl converting)
    · exact scanEnd_produces std t config (entersAt_later std t later) (.inr holdover)
  · obtain ⟨stays, converting, holdover⟩ := stays_at_rest std t state
    have rests : isSelecting s k = false := by
      unfold isSelecting
      rcases state with h | h <;> rw [h] <;> rfl
    refine ⟨scanEnd_rests std t config (entersAt_stays stays _) converting holdover, ?_⟩
    rw [scanEnd_sup std t config (.inl rests), stays]
    rfl
  · obtain ⟨converting, holdover⟩ := rests_of_safe state
    exact scanEnd_rests std t config (entersAt_later std t later) converting holdover

/-- A scan start with no entry (10/R165 to R168). -/
theorem source_stays (config : s.config = some G) (done : ∀ r ∈ (chan s k).ren.record, r.state = .done)
    (stays : entersAt std t k s = false) :
    (scanEnd k entry std t s).tally.get (chanCtrIx .convertStarts) = (chan s k).tally.get (chanCtrIx .convertStarts)
    ∧ ((chan s k).sup.state = .acquiring ∨ (chan s k).sup.state = .safe →
      Safe (safePicture G k s) (chan s k) (shownOf (scanEnd k entry std t s)))
    ∧ ((chan s k).sup.state = .holdover →
      ((chan s k).ren.record.isSome → Taken (chan s k) (shownOf (scanEnd k entry std t s)))
      ∧ ((chan s k).ren.record = none → Repeated (chan s k) (shownOf (scanEnd k entry std t s)))) := by
  refine ⟨?_, fun state => ?_, fun state => ?_⟩
  · rw [scanEnd_starts std t k entry s config, stays]
    rfl
  · obtain ⟨converting, holdover⟩ := rests_of_safe state
    exact scanEnd_rests std t config (entersAt_stays stays _) converting holdover
  · exact handed_of done (scanEnd_produces std t config (entersAt_stays stays _) (.inr state))

/-- A scan start that takes an entry (10/R168, R169). -/
theorem source_enters (config : s.config = some G) (done : ∀ r ∈ (chan s k).ren.record, r.state = .done)
    (enters : entersAt std t k s = true) :
    (scanEnd k entry std t s).tally.get (chanCtrIx .convertStarts) = (chan s k).tally.get (chanCtrIx .convertStarts) + 1
    ∧ (Quiet k s → (scanEnd k entry std t s).sup = convertingSup s.now (chan s k).sup
      ∧ (entry = .beforeSource →
        ((chan s k).ren.record.isSome → Taken (chan s k) (shownOf (scanEnd k entry std t s)))
        ∧ ((chan s k).ren.record = none → Repeated (chan s k) (shownOf (scanEnd k entry std t s))))) := by
  refine ⟨?_, fun quiet => ⟨?_, fun early => ?_⟩⟩
  · rw [scanEnd_starts std t k entry s config, enters]
    rfl
  · rw [scanEnd_sup std t config quiet, enters]
    rfl
  · subst early
    exact handed_of done (scanEnd_converts std t config quiet enters)

/-- The entry condition, read on the channel before and the next scan start announced (10/R168). -/
theorem entersAt_iff (config : s.config = some G) (done : ∀ r ∈ (chan s k).ren.record, r.state = .done) :
    entersAt std t k s = true
    ↔ ((chan s k).sup.state = .acquiring ∨ (chan s k).sup.state = .holdover ∨ (chan s k).sup.state = .safe)
      ∧ s.station = .running ∧ 2 ≤ ((chan s k).int.committed.filter (isComplete (chan s k))).length
      ∧ ∃ n delay next, (chan s k).int.newest = some n ∧ (chan s k).ren.dEff = some delay
        ∧ (scanEnd k entry std t s).port.tNext = some next ∧ 0 ≤ sdiff n (shift next (-(delay : Int))) := by
  rw [entersAt, Bool.and_eq_true, entryHolds_announcing std t done, isRunning_iff,
    (scanEnd_port std t k entry s config).1]
  tauto

/-! ## The record (10/R174, R175) -/

theorem silent_by_state (config : s.config = some G)
    (converting : (chan s k).sup.state ≠ .converting) (holdover : (chan s k).sup.state ≠ .holdover)
    (unentered : entersAt std t k s = false ∨ entry = .afterRecord) :
    (scanEnd k entry std t s).port.sequence = (chan s k).port.sequence
    ∧ (scanEnd k entry std t s).port.publishing = false := by
  refine scanEnd_silent std t k entry s config ?_
  rcases unentered with stays | rfl
  · exact published_rests std t config (entersAt_stays stays _) (entersAt_stays stays _) converting holdover
  · exact published_rests std t config (Bool.and_false _) (Bool.and_false _) converting holdover

variable (config : s.config = some G) {f : FeedNo} (feed : (G.chans.get k).outFeed = some f) (running : isRunning s = true)
include config feed running

theorem record_stays (stays : entersAt std t k s = false)
    (state : (chan s k).sup.state = .converting ∨ (chan s k).sup.state = .holdover) :
    (scanEnd k entry std t s).port.sequence = (chan s k).port.sequence + 1
    ∧ (scanEnd k entry std t s).port.publishing = true
    ∧ ∃ u, conclude (scanAt k entry std t s) = conclude (publishPicture (outputOf k)
          (scanRecord G.station k f std t (chan s k) (scanEnd k entry std t s).port.parity) u)
        ∧ OnlyChans s u ∧ chan u (otherChan k) = chan s (otherChan k) := by
  have forms : published std t k entry s G = true :=
    published_produces std t config feed running (entersAt_stays stays _) (entersAt_stays stays _) state
  obtain ⟨sequence, publishing⟩ := scanEnd_published std t k entry s config forms
  obtain ⟨u, formed, only, other⟩ :=
    publishScan_direct std t k entry config forms feed (entersAt_stays stays _) (entersAt_stays stays _)
  refine ⟨sequence, publishing, u, ?_, only, other⟩
  rw [scanAt_eq, entersAt_stays stays, enterAt_false, formed]

theorem record_enters (quiet : Quiet k s) (enters : entersAt std t k s = true)
    (forms : entry ≠ .afterRecord ∨ (chan s k).sup.state = .holdover) :
    (scanEnd k entry std t s).port.sequence = (chan s k).port.sequence + 1
    ∧ (scanEnd k entry std t s).port.publishing = true
    ∧ ∃ u v, v = publishPicture (outputOf k)
          (scanRecord G.station k f std t (chan s k) (scanEnd k entry std t s).port.parity) u
        ∧ conclude (scanAt k entry std t s)
          = conclude (if entry = .afterRecord then settle (onConfigured k enterConverting v) else v)
        ∧ (entry = .afterRecord → OnlyChans s u)
        ∧ (entry ≠ .afterRecord → ∃ w, OnlyChans s w ∧ (chan w k).sup = convertingSup s.now (chan s k).sup
          ∧ OnlyChans (settle w) u) := by
  by_cases after : entry = .afterRecord
  · subst after
    have holdover := forms.resolve_left (· rfl)
    have forms : published std t k .afterRecord s G = true :=
      published_produces std t config feed running (Bool.and_false _) (Bool.and_false _) (.inr holdover)
    obtain ⟨sequence, publishing⟩ := scanEnd_published std t k _ s config forms
    obtain ⟨u, formed, only, -⟩ := publishScan_direct std t k _ config forms feed (Bool.and_false _) (Bool.and_false _)
    refine ⟨sequence, publishing, u, _, rfl, ?_, fun _ => only, fun early => absurd rfl early⟩
    rw [scanAt_eq, enters, decide_eq_true (rfl : EntryOrder.afterRecord = .afterRecord), Bool.and_self, enterAt_true, formed, if_pos rfl]
  · have forms : published std t k entry s G = true := published_entered std t config feed running quiet enters after
    obtain ⟨sequence, publishing⟩ := scanEnd_published std t k _ s config forms
    obtain ⟨u, w, formed, only, sup, settled⟩ := publishScan_entered std t k _ config forms feed quiet enters after
    refine ⟨sequence, publishing, u, _, rfl, ?_, fun h => absurd h after, fun _ => ⟨w, only, sup, settled⟩⟩
    rw [scanAt_eq, decide_eq_false after, Bool.and_false, enterAt_false, formed, if_neg after]

end clauses

/-! ## The statement -/

section shown
variable (c e : Channel)

theorem taken_iff : Taken c (shownOf e) ↔ ∃ r, c.ren.record = some r ∧ r.state = .done
    ∧ e.port.source = .buffer r.buffer ∧ e.port.lastGood = some r.buffer
    ∧ e.tally.get (chanCtrIx .repeats) = c.tally.get (chanCtrIx .repeats)
    ∧ e.port.buffers.get r.buffer = { c.port.buffers.get r.buffer with rendered := true, parity := e.port.parity }
    ∧ ∀ b, b ≠ r.buffer → e.port.buffers.get b = .empty := .rfl

theorem repeated_iff : Repeated c (shownOf e) ↔ e.port.source = c.port.source ∧ e.port.lastGood = c.port.lastGood
    ∧ e.tally.get (chanCtrIx .repeats) = c.tally.get (chanCtrIx .repeats) + 1
    ∧ e.tally.get (chanCtrIx .overrun)
      = c.tally.get (chanCtrIx .overrun) + (if c.ren.record.isSome then 1 else 0) := .rfl

theorem safe_iff (source : ScanSource) : Safe source c (shownOf e) ↔ e.port.source = source
    ∧ e.port.lastGood = c.port.lastGood ∧ e.tally.get (chanCtrIx .repeats) = c.tally.get (chanCtrIx .repeats)
    ∧ ∀ r, c.ren.record = some r → e.port.buffers.get r.buffer = .empty := .rfl

end shown

/-- Settles O52: the entry condition is read where the next picture is announced; the state found there, or the entry taken
before, says what the port scans and whether the record is formed, and what settles afterwards leaves both. -/
theorem scanStartSource : Obligations.ScanStartSource := by
  unfold Obligations.ScanStartSource
  intro dt s k entry g std d c isChan isConfig standard tNext due station
  obtain ⟨G, config, rfl⟩ := Option.map_eq_some_iff.mp isConfig
  subst isChan
  have config' : (advance dt s).config = some G := config
  have held (q : Copy) (l : LaneNo) (selection : selectionOf s k = some q) (origin : q.origin = .lane l)
      (eligible : isEligible s k q = true) (unforced : (chan s k).csl.forced = none) : Quiet k (advance dt s) :=
    .inr ⟨q, l, advance_held ⟨selection, origin, eligible, unforced⟩ dt⟩
  refine ⟨_, scanEnd k entry std d (advance dt s), exec_scanStart dt entry standard tNext due station, rfl,
    fun taken repeated safe enters isTaken isRepeated isSafe isEnters => ?_⟩
  obtain rfl : taken = Taken (chan s k) (shownOf (scanEnd k entry std d (advance dt s))) := propext (isTaken.trans (taken_iff ..).symm)
  obtain rfl : repeated = Repeated (chan s k) (shownOf (scanEnd k entry std d (advance dt s))) := propext (isRepeated.trans (repeated_iff ..).symm)
  obtain rfl : safe = Safe (safePicture G k (advance dt s)) (chan s k) (shownOf (scanEnd k entry std d (advance dt s))) := by
    refine propext (isSafe.trans (Iff.trans (and_congr_left fun _ => Eq.congr_right ?_) (safe_iff ..).symm))
    unfold safePicture safeSource isRunning
    by_cases running : s.station = .running
    · rw [if_neg (not_not.mpr running), if_neg (by rw [decide_eq_true (p := (advance dt s).station = .running) running]; decide)]
      cases (G.chans.get k).safeMode <;> rfl
    · rw [if_pos running, if_pos (by rw [decide_eq_false (p := (advance dt s).station = .running) running]; rfl)]
  have enters_iff (done : ∀ r ∈ (chan s k).ren.record, r.state = .done) : enters ↔ entersAt std d k (advance dt s) = true :=
    isEnters.trans (entersAt_iff std d config' done).symm
  have stays_iff (done : ∀ r ∈ (chan s k).ren.record, r.state = .done) (stays : ¬ enters) :
      entersAt std d k (advance dt s) = false := Bool.eq_false_iff.mpr fun e => stays ((enters_iff done).mpr e)
  obtain ⟨producing, resting, safely⟩ := source_by_state std d (entry := entry) (k := k) config'
  refine ⟨producing, resting, safely, fun done => ⟨fun stays => ?_, fun entering => ?_⟩, fun done other quiet => ?_,
    fun off => ?_, fun own f r st silent isDone isSilent doneIff number feed running standardIs recordIs => ?_⟩
  · exact source_stays std d config' done (stays_iff done stays)
  · obtain ⟨starts, entered⟩ := source_enters std d (entry := entry) config' done ((enters_iff done).mp entering)
    exact ⟨starts, fun q l selection origin eligible unforced => entered (held q l selection origin eligible unforced)⟩
  · intro delay next point before after a dEff announced isPoint list later last once
    subst isPoint
    have quiet : Quiet k (advance dt s) := by
      rcases quiet with rests | ⟨q, l, selection, origin, eligible, unforced⟩
      · exact .inl rests
      · exact held q l selection origin eligible unforced
    rw [scanEnd_retireRef std d config' quiet]
    rw [(scanEnd_port std d k entry _ config').1] at announced
    exact starting_retireRef std d done other dEff announced ⟨list, later, last, once⟩
  · refine scanEnd_silent std d k entry _ config' (published_off std d (off.imp_right fun stopped => ?_))
    exact Bool.eq_false_iff.mpr fun runs => stopped (isRunning_iff.mp runs)
  · have own' : G.station = own := by
      rw [ownNumber, config] at number
      exact Option.some.inj number
    obtain rfl := propext isSilent
    subst own' standardIs recordIs
    have running' : isRunning (advance dt s) = true := isRunning_iff.mpr running
    refine ⟨fun state => ?_, fun state => ?_, fun state done stays => ?_,
      fun q l done entering selection origin eligible unforced => ⟨fun after state => ?_, fun forms => ?_⟩⟩
    · have stays : entersAt std d k (advance dt s) = false := by
        rcases state with converting | ⟨-, done, stays⟩
        · exact stays_converting std d (s := advance dt s) converting
        · exact stays_iff (doneIff.mp done) stays
      exact record_stays std d config' feed running' stays (state.imp_right And.left)
    · obtain ⟨stays, converting, holdover⟩ := stays_at_rest std d (s := advance dt s) state
      exact silent_by_state std d config' converting holdover (.inl stays)
    · obtain ⟨converting, holdover⟩ := rests_of_safe state
      exact silent_by_state std d config' converting holdover (.inl (stays_iff (doneIff.mp done) stays))
    · obtain ⟨converting, holdover⟩ := rests_of_safe state
      exact silent_by_state std d config' converting holdover (.inr after)
    · have quiet := held q l selection origin eligible unforced
      have entered := (enters_iff (doneIff.mp done)).mp entering
      obtain ⟨-, converts⟩ := source_enters std d (entry := entry) config' (doneIff.mp done) entered
      rw [(converts quiet).1]
      exact record_enters std d config' feed running' quiet entered forms

end Sys2Proof.Machine
end
